-- ==== Sys2Proof/Word.lean ====
section
/-! DEFINITION. The word types of the model: the octet of every frame and image, the batch number that
is compared in serial order, and the counters that count modulo 2^32. Everything the manual treats as a
plain number (volumes, distances, counts that stop at a limit, moments) is a `Nat` or an `Int`. -/

namespace Sys2Proof

/-- One octet of a line frame, a station port frame or the image. -/
abbrev Octet := BitVec 8

/-- A batch number, 0 to 65,535, compared in serial order (Conventions 5.4). -/
abbrev BatchNo := BitVec 16

/-- A counter of whole decalitres, modulo 2^32 (Conventions 5.5). -/
abbrev Counter := BitVec 32

/-- A product number: 1 to 15, and 0 for "unknown" (Conventions 5.4). -/
abbrev Product := Fin 16

/-- An outlet. Outlet n of the manual (1 to 7) is the element with value n - 1; outlet 7 is transmix. -/
abbrev Outlet := Fin 7

/-- A guard channel. Channel n of the manual (1 to 8) is the element with value n - 1. -/
abbrev ChannelNo := Fin 8

end Sys2Proof
end

