-- ==== Sys2Proof/Machine/CheckWord.lean ====
section
/-! DEFINITION. The check word of every frame and of the image (R176, 5.6), and the octet fields that every
layout of chapter 12 is made of: most significant octet first, offsets from 0 (5.6, R177). -/

namespace Sys2Proof.Machine

/-- One of the eight steps an octet takes through the check register (R176). -/
def checkStep (r : BitVec 16) : BitVec 16 :=
  if r.msb then (r <<< 1) ^^^ 0x1021 else r <<< 1

/-- One octet: combined into the upper eight bits, then eight steps (R176). -/
def checkOctet (r : BitVec 16) (o : Octet) : BitVec 16 :=
  Nat.iterate checkStep 8 (r ^^^ (o.setWidth 16 <<< 8))

/-- The check word over a list of octets, from 0xFFFF (R176). -/
def checkWord (octets : List Octet) : BitVec 16 :=
  octets.foldl checkOctet 0xFFFF

/-! ## Writing fields -/

/-- One octet. -/
def be1 (v : Nat) : List Octet := [BitVec.ofNat 8 v]

/-- Two octets, most significant first. -/
def be2 (v : Nat) : List Octet := [BitVec.ofNat 8 (v / 256), BitVec.ofNat 8 v]

/-- Three octets, most significant first. -/
def be3 (v : Nat) : List Octet :=
  [BitVec.ofNat 8 (v / 65536), BitVec.ofNat 8 (v / 256), BitVec.ofNat 8 v]

/-- Four octets, most significant first. -/
def be4 (v : Nat) : List Octet :=
  [BitVec.ofNat 8 (v / 16777216), BitVec.ofNat 8 (v / 65536), BitVec.ofNat 8 (v / 256), BitVec.ofNat 8 v]

/-- A signed field of two octets, two's complement (R177). -/
def sbe2 (v : Int) : List Octet := be2 (v.emod 65536).toNat

/-- A signed field of four octets, two's complement (R177). -/
def sbe4 (v : Int) : List Octet := be4 (v.emod 4294967296).toNat

/-- A presence octet and the field, or zeros in its place when it is absent (R177). `size` is the field's
size in octets. -/
def optField {α : Type} (size : Nat) (put : α → List Octet) : Option α → List Octet
  | some v => 1 :: put v
  | none => 0 :: List.replicate size 0

/-- A list whose length varies: a one-octet count and the items (R177). -/
def listField {α : Type} (put : α → List Octet) (items : List α) : List Octet :=
  be1 items.length ++ items.flatMap put

/-- One indication, bit 0 of an octet (R177). -/
def flag (b : Bool) : List Octet := [if b then 1 else 0]

/-- A set of at most eight indications, bit n - 1 for the n-th (R177). -/
def flags (bs : List Bool) : List Octet :=
  [BitVec.ofNat 8 (bs.foldr (fun b acc => 2 * acc + b.toNat) 0)]

/-- The octets followed by their check word, upper octet first (R176). -/
def withCheck (octets : List Octet) : List Octet :=
  octets ++ be2 (checkWord octets).toNat

/-! ## Reading fields -/

/-- The unsigned value of `size` octets at `offset`, most significant first. -/
def field (octets : List Octet) (offset size : Nat) : Nat :=
  ((octets.drop offset).take size).foldl (fun acc o => acc * 256 + o.toNat) 0

/-- A signed value of four octets (R177). -/
def signed4 (v : Nat) : Int :=
  if v < 2147483648 then (v : Int) else (v : Int) - 4294967296

/-- Whether the last two octets are the check word over all before them (R176). -/
def checkGood (octets : List Octet) : Bool :=
  decide (2 ≤ octets.length) &&
    decide (field octets (octets.length - 2) 2 = (checkWord (octets.take (octets.length - 2))).toNat)

end Sys2Proof.Machine
end

