-- ==== Sys2Proof/Syntax.lean ====
section
/-! DEFINITION. The commands of the part: one constructor per row of spec/opcode_table.json, with the
operands the manual gives the request, the frame or the event. A request's operands are its payload
fields as they come off the port (12.3), so that a value the part refuses can be sent.

Every command carries `dt`, the bit times of the line bus (8 µs) that passed since the command before it.
The manual gives the part moments (expiries, times left) and the table has no row for the passage of
time, so the model reads time from the commands themselves (log entry 1). -/

namespace Sys2Proof

/-- One reading of a sample set: the number the front end sent and its validity indication (2.1). -/
structure Reading where
  value : Int
  indicated : Bool
  deriving DecidableEq, Repr

/-- A sample set: eight readings in fixed order, density, marker, temperature, pressure, general inputs
1 to 4 (2.1). -/
abbrev SampleSet := Vector Reading 8

/-- The two meter pulse inputs (2.4). -/
inductive Meter where
  | trunk | delivery
  deriving DecidableEq, Repr

/-- The two limit inputs of an outlet (2.5). -/
inductive LimitInput where
  | open_ | closed
  deriving DecidableEq, Repr

/-- The commands of the block: the rows of spec/opcode_table.json, in the table's order. -/
inductive Instr where
  /-- Power-up or supply-low reset (R175). -/
  | powerOnReset (dt : Nat)
  /-- Reset from the reset input (R175). -/
  | resetLineReset (dt : Nat)
  /-- IDENTIFY (R175). -/
  | identify (dt : Nat)
  /-- READ STATUS with its clear mask: bit n - 1 for the n-th flag of R174. -/
  | readStatus (dt : Nat) (clearMask : BitVec 24)
  /-- STORE IMAGE with FIRST, LAST, the offset and the image octets (R170). -/
  | storeImage (dt : Nat) (first last : Bool) (offset : BitVec 16) (octets : List Octet)
  /-- The nonvolatile write and verify ends, verify good or failed (R171). -/
  | programmingComplete (dt : Nat) (verifyGood : Bool)
  /-- RELOAD IMAGE (R169). -/
  | reloadImage (dt : Nat)
  /-- START with its mode octet, presence octet, batch and product (R172, 12.3). -/
  | start (dt : Nat) (mode presence : Octet) (batch : BatchNo) (product : Octet)
  /-- QUEUE ORDER (R97). -/
  | queueOrder (dt : Nat) (batch : BatchNo) (outlet : Octet) (limit : BitVec 32) (head tail : Octet)
  /-- CANCEL ORDER (R100). -/
  | cancelOrder (dt : Nat) (number : Octet)
  /-- QUEUE LAUNCH (R108). -/
  | queueLaunch (dt : Nat) (batch : BatchNo) (product : Octet) (volume : BitVec 32) (outlet : Octet)
  /-- FORCE LAUNCH (R112). -/
  | forceLaunch (dt : Nat)
  /-- FORCE STAGE (R87): stage 1 LEADING_EDGE, 2 MIDPOINT, 3 TRAILING_EDGE. -/
  | forceStage (dt : Nat) (batch : BatchNo) (stage : Octet)
  /-- RELEASE GUARD (R134). -/
  | releaseGuard (dt : Nat) (channel : Octet)
  /-- SYNC FROM (R161). -/
  | syncFrom (dt : Nat) (station : Octet)
  /-- READ TRAIN (R19). -/
  | readTrain (dt : Nat) (index : Octet)
  /-- READ ORDERS (R113). -/
  | readOrders (dt : Nat)
  /-- TAKE RECORD (R173). -/
  | takeRecord (dt : Nat)
  /-- A well-formed frame whose code is no request, or whose length does not fit its code (R166). -/
  | unknownRequestCode (dt : Nat) (code : Octet)
  /-- A frame that fails R166, or arrives during a request. -/
  | portFrameDiscarded (dt : Nat)
  /-- One sample period has elapsed (R20). -/
  | sampleRequestDue (dt : Nat)
  /-- A sample set transfer completes (R21). -/
  | sampleEvent (dt : Nat) (set : SampleSet)
  /-- A pulse on a meter input (R29). -/
  | meterPulse (dt : Nat) (meter : Meter)
  /-- A raw limit input change held for 50 ms is taken (R30, R31). -/
  | limitLevelTaken (dt : Nat) (outlet : Outlet) (input : LimitInput) (active : Bool)
  /-- The travel timer expires (R120, R121, R124). -/
  | travelTimeout (dt : Nat)
  /-- A frame is heard on the line bus: its octets, check word included (R149). -/
  | lineFrameReceived (dt : Nat) (octets : List Octet)
  /-- The oldest inbound notice, a LAUNCH, is taken (R7, R8). -/
  | launchNoticeTaken (dt : Nat)
  /-- The oldest inbound notice, a PASSAGE, is taken (R9). -/
  | passageNoticeTaken (dt : Nat)
  /-- The oldest inbound notice, a HOLD, is taken (R152). -/
  | holdNoticeTaken (dt : Nat)
  /-- The oldest inbound notice, a STATUS, is taken (R157). -/
  | statusNoticeTaken (dt : Nat)
  /-- The oldest inbound notice, a TRAIN REQUEST, is taken (R159). -/
  | trainRequestTaken (dt : Nat)
  /-- The oldest inbound notice, a TRAIN REPORT segment, is taken (R162). -/
  | trainReportSegmentTaken (dt : Nat)
  /-- The interframe gap has passed and the buffered notice's frame begins (R146). -/
  | frameTransmitStart (dt : Nat)
  /-- The frame on the medium completes without a collision (R148). -/
  | frameSent (dt : Nat)
  /-- The frame on the medium meets a collision after `frameBits` of its bit times (R147). -/
  | collision (dt : Nat) (frameBits : Nat)
  /-- The backoff ends (R147). -/
  | backoffEnd (dt : Nat)
  /-- The peer hold reaches its expiry (R152). -/
  | peerHoldExpiry (dt : Nat)
  /-- One STATUS interval has elapsed (R158). -/
  | statusIntervalDue (dt : Nat)
  /-- The silence expiry of the peer `station` is reached (R156). -/
  | peerSilenceExpiry (dt : Nat) (station : Nat)
  /-- The sync timer expires (R164). -/
  | syncTimeout (dt : Nat)
  deriving DecidableEq, Repr

end Sys2Proof
end

