-- ==== Sys2Proof/Decode.lean ====
section
/-! DEFINITION. From octets to commands. No row of spec/opcode_table.json has bits, so a table word spells no
command. The station port's requests do have octets (12.3): a frame that passes R166 spells the request
of its code and payload, and any other frame one of the two rows for frames that are no request. -/

namespace Sys2Proof

/-- The command that a table word spells: none, since the table gives no row any bits. -/
def decodeTableWord (_nbits _w : Nat) : Option Instr := none

namespace Machine

/-- `n` octets of a payload from an offset, as a number of `8 * n` bits. -/
def wordAt (w : Nat) (p : List Octet) (offset size : Nat) : BitVec w := BitVec.ofNat w (field p offset size)

/-- One octet of a payload. -/
def octetAt (p : List Octet) (offset : Nat) : Octet := wordAt 8 p offset 1

/-- STORE IMAGE's payload: flags, offset, length and as many image octets (12.3). -/
def decodeStoreImage (dt : Nat) (p : List Octet) : Instr :=
  if 5 ≤ p.length ∧ p.length = 5 + field p 3 2 ∧ field p 3 2 ≤ 294 then
    .storeImage dt ((octetAt p 0).getLsbD 0) ((octetAt p 0).getLsbD 1) (wordAt 16 p 1 2) (p.drop 5)
  else .unknownRequestCode dt 0x10

/-- A request of a payload whose length its code fixes. -/
def fixed (dt : Nat) (code : Octet) (length : Nat) (p : List Octet) (i : Instr) : Instr :=
  if p.length = length then i else .unknownRequestCode dt code

/-- The request of a code and a payload (12.3); VALUE answers any other code, and a length that does not
fit (R166). -/
def decodeRequest (dt : Nat) (code : Octet) (p : List Octet) : Instr :=
  match code.toNat with
  | 0x01 => fixed dt code 0 p (.identify dt)
  | 0x02 => fixed dt code 3 p (.readStatus dt (wordAt 24 p 0 3))
  | 0x10 => decodeStoreImage dt p
  | 0x11 => fixed dt code 0 p (.reloadImage dt)
  | 0x12 => fixed dt code 5 p (.start dt (octetAt p 0) (octetAt p 1) (wordAt 16 p 2 2) (octetAt p 4))
  | 0x20 =>
    fixed dt code 9 p
      (.queueOrder dt (wordAt 16 p 0 2) (octetAt p 2) (wordAt 32 p 3 4) (octetAt p 7) (octetAt p 8))
  | 0x21 => fixed dt code 1 p (.cancelOrder dt (octetAt p 0))
  | 0x22 =>
    fixed dt code 8 p (.queueLaunch dt (wordAt 16 p 0 2) (octetAt p 2) (wordAt 32 p 3 4) (octetAt p 7))
  | 0x23 => fixed dt code 0 p (.forceLaunch dt)
  | 0x24 => fixed dt code 3 p (.forceStage dt (wordAt 16 p 0 2) (octetAt p 2))
  | 0x25 => fixed dt code 1 p (.releaseGuard dt (octetAt p 0))
  | 0x26 => fixed dt code 1 p (.syncFrom dt (octetAt p 0))
  | 0x30 => fixed dt code 1 p (.readTrain dt (octetAt p 0))
  | 0x31 => fixed dt code 0 p (.readOrders dt)
  | 0x32 => fixed dt code 0 p (.takeRecord dt)
  | _ => .unknownRequestCode dt code

/-- The command of a frame at the station port (R166): `afterIdle` says that its start octet followed 5
character times of idle line, `gapFree` that no such gap fell within it, and `free` that no request was
in progress. A run of octets that does not begin with 0x7E, or whose number does not go with its length field, is
discarded and counted too. DEDUCED: the four conditions of R166 name neither case, and the table's summary of
PORT_FRAME_DISCARDED has a frame that fails framing (log entry 65). -/
def decodePortFrame (dt : Nat) (afterIdle gapFree free : Bool) (frame : List Octet) : Instr :=
  let length := field frame 1 2
  if afterIdle && gapFree && free && decide (field frame 0 1 = 0x7E) &&
      decide (1 ≤ length ∧ length ≤ 300) && decide (frame.length = length + 5) && checkGood frame then
    decodeRequest dt (octetAt frame 3) ((frame.drop 4).take (length - 1))
  else .portFrameDiscarded dt

/-- A request frame of a code and a payload (12.3). -/
def requestFrame (code : Octet) (payload : List Octet) : List Octet :=
  withCheck ([0x7E] ++ be2 (1 + payload.length) ++ [code] ++ payload)

/-- The code and the payload that a request command is sent with (12.3); none for a command that is no
request. -/
def encodeRequest : Instr → Option (Octet × List Octet)
  | .identify _ => some (0x01, [])
  | .readStatus _ mask => some (0x02, be1 (mask.toNat / 65536) ++ be2 mask.toNat)
  | .storeImage _ first last offset octets =>
    some (0x10, flags [first, last] ++ be2 offset.toNat ++ be2 octets.length ++ octets)
  | .reloadImage _ => some (0x11, [])
  | .start _ mode presence batch product =>
    some (0x12, [mode, presence] ++ be2 batch.toNat ++ [product])
  | .queueOrder _ batch outlet limit head tail =>
    some (0x20, be2 batch.toNat ++ [outlet] ++ be4 limit.toNat ++ [head, tail])
  | .cancelOrder _ number => some (0x21, [number])
  | .queueLaunch _ batch product volume outlet =>
    some (0x22, be2 batch.toNat ++ [product] ++ be4 volume.toNat ++ [outlet])
  | .forceLaunch _ => some (0x23, [])
  | .forceStage _ batch stage => some (0x24, be2 batch.toNat ++ [stage])
  | .releaseGuard _ channel => some (0x25, [channel])
  | .syncFrom _ station => some (0x26, [station])
  | .readTrain _ index => some (0x30, [index])
  | .readOrders _ => some (0x31, [])
  | .takeRecord _ => some (0x32, [])
  | _ => none

end Machine

end Sys2Proof
end

