-- ==== Sys2Proof/Config.lean ====
section
/-! DEFINITION. What an implementation or an image fixes: the enumerations of the configuration image, the
active configuration (R168, chapter 12.5) as a record, the fixed capacities and rates of the part, and
the free values: opaque constants without a body, for what the manual leaves open. -/

namespace Sys2Proof

/-- The station's role (chapter 00, section 1). -/
inductive Role where
  | origin | relay | terminal | end_
  deriving DecidableEq, Repr

/-- The mode of RUNNING (5.8). -/
inductive Mode where
  | operate | observe
  deriving DecidableEq, Repr

/-- A route: CLOSED, or an outlet (chapter 7). -/
inductive Route where
  | closed
  | outlet (o : Outlet)
  deriving DecidableEq, Repr

/-- Outlet 7, transmix. -/
abbrev transmix : Outlet := 6

/-- The compare of a guard channel (R127). -/
inductive Compare where
  | high | low
  deriving DecidableEq, Repr

/-- Threshold tracking of a guard channel (R127, R129). -/
inductive Tracking where
  | fixed | productRef | orderLimit
  deriving DecidableEq, Repr

/-- The action of a guard channel (R127, R136). -/
inductive GuardAction where
  | alarm | forceTransmix | forceClosed | endOrder | holdLaunch
  deriving DecidableEq, Repr

/-- The twelve sources of a guard channel (R128). General input n (1 to 4) is `general (n - 1)`. -/
inductive GuardSource where
  | correctedDensity | marker | densityDeviation | arrivalFlowRate | pressure | temperature
  | general (n : Fin 4)
  | tally | windowD
  deriving DecidableEq, Repr

/-- The contact sense of a guard channel (R127, R138). -/
inductive ContactSense where
  | normal | failsafe
  deriving DecidableEq, Repr

/-- One entry of the product table (12.5, R36, R58, 5.2 of Interface Detection). -/
structure ProductConfig where
  alpha : Nat
  beta : Nat
  growth : Nat
  refDensity : Nat
  densityTol : Nat
  refMarker : Nat
  markerTol : Nat
  deriving DecidableEq, Repr

/-- One record of the guard table (R127). `contact` is none, or contact n as n - 1. -/
structure GuardConfig where
  enable : Bool
  latch : Bool
  inhibit : Bool
  compare : Compare
  sense : ContactSense
  source : GuardSource
  tracking : Tracking
  action : GuardAction
  contact : Option (Fin 4)
  makeCount : Nat
  breakCount : Nat
  threshold : Int
  passband : Nat
  deriving DecidableEq, Repr

/-- A product entry with every value 0, used where no product is named. -/
def ProductConfig.blank : ProductConfig :=
  { alpha := 0, beta := 0, growth := 0, refDensity := 0, densityTol := 0, refMarker := 0, markerTol := 0 }

/-- A guard record that is not enabled. -/
def GuardConfig.disabled : GuardConfig :=
  { enable := false, latch := false, inhibit := false, compare := .high, sense := .normal,
    source := .correctedDensity, tracking := .fixed, action := .alarm, contact := none,
    makeCount := 1, breakCount := 1, threshold := 0, passband := 0 }

/-- The active configuration (R168): the station section, the product table and the guard table of a
valid image, field by field (12.5). Product n stands at index n - 1. -/
structure Config where
  driveEnabled : Bool
  station : Nat
  role : Role
  chainage : Nat
  listening : BitVec 48
  statusInterval : Nat
  samplePeriod : Nat
  trunkWeight : Nat
  deliveryWeight : Nat
  densityFitted : Bool
  markerFitted : Bool
  warmup : Nat
  makeCount : Nat
  breakCount : Nat
  u0 : Nat
  drift : Nat
  margin : Nat
  keepBehind : Nat
  launchWidth : Nat
  outletsFitted : BitVec 6
  transmixFitted : Bool
  travelTimeout : Nat
  highWater : Nat
  lowWater : Nat
  holdTime : Nat
  products : Vector ProductConfig 15
  guards : Vector GuardConfig 8
  deriving DecidableEq, Repr

/-- What status items that depend on configuration read where there is no valid active configuration:
an image with nothing fitted (R168). No block reads anything else of it. -/
def Config.nothingFitted : Config :=
  { driveEnabled := false, station := 0, role := .relay, chainage := 0, listening := 0,
    statusInterval := 0, samplePeriod := 0, trunkWeight := 0, deliveryWeight := 0,
    densityFitted := false, markerFitted := false, warmup := 0, makeCount := 0, breakCount := 0,
    u0 := 0, drift := 0, margin := 0, keepBehind := 0, launchWidth := 0, outletsFitted := 0,
    transmixFitted := false, travelTimeout := 0, highWater := 0, lowWater := 0, holdTime := 0,
    products := Vector.replicate 15 ProductConfig.blank,
    guards := Vector.replicate 8 GuardConfig.disabled }

/-! ## Capacities and rates (5.9, chapters 9 and 10) -/

/-- Batch train records (5.9, R5). -/
abbrev maxTrain : Nat := 64
/-- Delivery orders (5.9, R96). -/
abbrev maxOrders : Nat := 16
/-- Launch entries (5.9, R108). -/
abbrev maxLaunches : Nat := 8
/-- Cut records (5.9, R173). -/
abbrev maxRecords : Nat := 32
/-- Outbound notices (5.9, R141). -/
abbrev maxOutbound : Nat := 32
/-- Inbound notices (5.9, R150). -/
abbrev maxInbound : Nat := 24
/-- Train report entries (5.9, R162, R163). -/
abbrev maxReport : Nat := 64
/-- The greatest chainage and the greatest volume an order or launch names, dal (5.3, R97, R108). -/
abbrev maxDal : Nat := 40000000

/-- The model's clock counts bit times of the line bus: 8 µs at 125,000 bit/s (chapter 9). A second, a
millisecond and a line slot are whole numbers of them. -/
abbrev bitsPerSecond : Nat := 125000
/-- One millisecond in bit times. -/
abbrev bitsPerMs : Nat := 125
/-- One line slot: 128 bit times (chapter 9). -/
abbrev bitsPerSlot : Nat := 128
/-- The jam of R147 in bit times. -/
abbrev jamBits : Nat := 32
/-- The interframe gap of R145 in bit times. -/
abbrev gapBits : Nat := 32
/-- The wait after which an attempt counts as a deferral (R145). -/
abbrev deferralBits : Nat := 768
/-- A collision after this many bit times of the frame is late (R147). -/
abbrev lateBits : Nat := 128
/-- The sync timer of R161, in seconds. -/
abbrev syncSeconds : Nat := 10

/-! ## Free values: opaque, no proof can see what they are -/

/-- FREE VALUE. Octet `i` of the nonvolatile image after its `n`-th spoiling: a failed verify or a reset
during PROGRAMMING leaves the image invalid (R171), and the manual gives no contents. Log entry 4. -/
opaque Config.damagedOctet (n i : Nat) : Octet

/-- FREE VALUE. The part identification of IDENTIFY (R175): the manual gives no number. Log entry 5. -/
opaque Config.partIdentification : BitVec 32

/-- FREE VALUE. The family identification of IDENTIFY (R175). Log entry 5. -/
opaque Config.familyIdentification : BitVec 32

/-- FREE VALUE. The four octets in which READ STATUS shows a moment, such as a silence expiry (R165, R155):
the manual gives no coding of a moment. Log entry 6. -/
opaque Config.momentCode (moment : Nat) : BitVec 32

/-- FREE VALUE. The four octets in which READ STATUS names the `n`-th sample event as the one the last corrected
density came from (R43): the manual gives no coding of a sample event. Log entry 56. -/
opaque Config.sampleEventCode (n : Nat) : BitVec 32

end Sys2Proof
end

