-- ==== Sys2Proof/Machine/State.lean ====
section
/-! DEFINITION. The state of the part as plain data: one record per block of chapter 00 section 3, each field
with the rule that names it, the state after reset, and the reasons a step could stop. `Part` is the
whole block; `State` is the part with the queue of commands that wait. -/

namespace Sys2Proof.Machine

/-! ## Instrument interface (chapter 2) -/

/-- What a reading channel keeps (R25): the last reading with its validity, and the last valid value. -/
structure ReadingChannel where
  last : Option (Int × Bool)
  lastValid : Option Int
  deriving DecidableEq, Repr

/-- The taken levels of one outlet's two limit inputs, as followed (R30); `true` is active. -/
structure LimitLevels where
  open_ : Bool
  closed : Bool
  deriving DecidableEq, Repr

/-- The instrument interface (R20 to R33). -/
structure Instruments where
  /-- A transfer is open on the front end's link (R20). -/
  transferOpen : Bool
  /-- The moment the next sample request falls due (R20); absent outside RUNNING. -/
  nextRequest : Option Nat
  /-- The eight reading channels in set order (R25). -/
  channels : Vector ReadingChannel 8
  densityReady : Bool
  markerReady : Bool
  densityWarmup : Nat
  markerWarmup : Nat
  /-- Temperature in use, 0.01 °C (R26). -/
  tempInUse : Int
  /-- Pressure in use, kPa (R26). -/
  pressInUse : Int
  tHeld : Bool
  pHeld : Bool
  /-- Consecutive missed sets (R23), held at 65,535. -/
  missedRun : Nat
  /-- Total missed sets (R23), held at 65,535. -/
  missedTotal : Nat
  /-- Pending counts (R29), held at 4,294,967,295. -/
  trunkPending : Nat
  deliveryPending : Nat
  /-- Limit levels as followed, per outlet (R30). -/
  limits : Vector LimitLevels 7
  deriving DecidableEq, Repr

/-! ## Volume unit (chapter 3) -/

/-- The last corrected density: its value, its usable mark and the sample event it came from (R43). -/
structure CorrectedDensity where
  value : Nat
  usable : Bool
  event : Nat
  deriving DecidableEq, Repr

/-- The volume unit (R34). -/
structure VolumeUnit where
  /-- Correction residues, in units of 2^-30 cL (R39). -/
  trunkResidue : Nat
  deliveryResidue : Nat
  /-- Centilitre accumulators, 0 to 999 (R40). -/
  trunkAcc : Nat
  deliveryAcc : Nat
  trunkCounter : Counter
  deliveredCounter : Counter
  arrivalCounter : Counter
  /-- The flow window, oldest first (R44). -/
  flowWindow : List Nat
  /-- The last VCF (R38). -/
  lastVcf : Option Nat
  lastDensity : Option CorrectedDensity
  /-- The product at the meter of the last sample event (R36, R48). -/
  product : Product
  /-- The UNCORRECTED indication (R36). -/
  uncorrected : Bool
  /-- The tally of the FILLING order (R42). -/
  tally : Nat
  /-- The sample events taken since reset: the model's own count, which names the event a corrected
  density came from (log entry 7). -/
  sampleEvents : Nat
  deriving DecidableEq, Repr

/-! ## Train store (chapter 1) -/

/-- Status of a batch here (R4). -/
inductive BatchStatus where
  | approaching | present | departed
  deriving DecidableEq, Repr

/-- State of a head interface (R2). -/
inductive HeadState where
  | distant | armed | inMix | pastMid | cleared
  deriving DecidableEq, Repr

/-- Detection channel (R2, R75). -/
inductive Channel where
  | density | marker | volume
  deriving DecidableEq, Repr

/-- Method by which a stage was taken (R2). -/
inductive Method where
  | analyser | volume | forced | late
  deriving DecidableEq, Repr

/-- The stages of an interface's passage (chapter 5). -/
inductive Stage where
  | leading | midpoint | trailing
  deriving DecidableEq, Repr

/-- A stage record: method and arrival stamp (R2, R88). -/
structure StageRecord where
  method : Method
  stamp : Counter
  deriving DecidableEq, Repr

/-- A route segment of a cut plan with its owner, an order number or none (R95, R101). -/
structure Segment where
  route : Route
  owner : Option Nat
  deriving DecidableEq, Repr

/-- The cut plan of an interface (R2, R101). -/
structure CutPlan where
  s0 : Segment
  s1 : Segment
  s2 : Segment
  s3 : Segment
  frozen : Bool
  deriving DecidableEq, Repr

/-- The head interface sub-record (R2). -/
structure HeadInterface where
  leading : Product
  state : HeadState
  d : Int
  w : Nat
  u : Nat
  anchorStation : Nat
  anchorChainage : Nat
  overdue : Bool
  early : Bool
  clamped : Bool
  restartMark : Bool
  channel : Option Channel
  leadRec : Option StageRecord
  midRec : Option StageRecord
  trailRec : Option StageRecord
  plan : Option CutPlan
  midError : Option Int
  measuredWidth : Option Nat
  /-- The degraded mark that R90 fixes with the measured width. -/
  degradedMark : Option Bool
  deriving DecidableEq, Repr

/-- A batch record (R1). -/
structure BatchRecord where
  batch : BatchNo
  product : Product
  nominated : Option Nat
  status : BatchStatus
  head : Option HeadInterface
  delivered : Counter
  orderLink : Option Nat
  deriving DecidableEq, Repr

/-- The train store: the batch train, oldest first (R5), and the retired horizon (R17). -/
structure TrainStore where
  records : List BatchRecord
  horizon : Option BatchNo
  deriving DecidableEq, Repr

/-! ## Interface detector (chapter 5) -/

/-- The reference set of an analyser channel (R73, R76). -/
structure RefSet where
  a : Nat
  b : Nat
  ta : Nat
  tb : Nat
  rising : Bool
  thr : Nat
  p : Nat
  deriving DecidableEq, Repr

/-- The interface detector (R73). -/
structure Detector where
  window : Option BatchNo
  refs : Option RefSet
  leadCount : Nat
  midCount : Nat
  trailCount : Nat
  breakRun : Nat
  midStamp : Option Counter
  /-- The mix list, in order of first use (R89). -/
  mix : List (Outlet × Nat)
  deriving DecidableEq, Repr

/-! ## Cut planner (chapter 6) -/

/-- Head and tail policy of an order (R96). -/
inductive Policy where
  | withMix | atMid | clean
  deriving DecidableEq, Repr

/-- A delivery order (R96). -/
structure Order where
  number : Nat
  batch : BatchNo
  outlet : Outlet
  limit : Nat
  headPolicy : Policy
  tailPolicy : Policy
  filling : Bool
  deriving DecidableEq, Repr

/-- Why an order ends (R99). -/
inductive EndReason where
  | done | limit | cancelled | guard
  deriving DecidableEq, Repr

/-- A launch entry (R108). -/
structure LaunchEntry where
  batch : BatchNo
  product : Product
  nominated : Nat
  outlet : Outlet
  deriving DecidableEq, Repr

/-- The current batch at the ORIGIN (R108). -/
structure CurrentBatch where
  batch : BatchNo
  product : Product
  nominated : Option Nat
  source : Option Outlet
  launched : Nat
  deriving DecidableEq, Repr

/-- The cut planner (R95). -/
structure Planner where
  orders : List Order
  nextOrder : Nat
  launches : List LaunchEntry
  current : Option CurrentBatch
  incoming : Option LaunchEntry
  /-- The LAUNCH_QUEUE_EMPTY indication (R110). -/
  emptyShown : Bool
  planned : Option Route
  deriving DecidableEq, Repr

/-! ## Outlet controller (chapter 7) -/

/-- The current route (R114): UNKNOWN, or a route. -/
inductive CurrentRoute where
  | unknown
  | known (r : Route)
  deriving DecidableEq, Repr

/-- Command state of an outlet (R115). -/
inductive CommandState where
  | idle | opening | closing
  deriving DecidableEq, Repr

/-- Last fault of an outlet (R114). -/
inductive OutletFault where
  | none_ | openTimeout | closeTimeout | uncommanded
  deriving DecidableEq, Repr

/-- Phase of the change in flight (R114). -/
inductive ChangePhase where
  | opening | closing | clearing
  deriving DecidableEq, Repr

/-- The change in flight (R114, R117). -/
structure Change where
  source : CurrentRoute
  target : Route
  phase : ChangePhase
  expiry : Nat
  deriving DecidableEq, Repr

/-- What the controller holds for each outlet (R114). -/
structure OutletState where
  command : CommandState
  stuckOpen : Bool
  lastFault : OutletFault
  deriving DecidableEq, Repr

/-- The outlet controller (R114). -/
structure OutletController where
  mode : Option Mode
  current : CurrentRoute
  target : Option Route
  /-- The planned route as last handed (R107, R116). -/
  planned : Option Route
  /-- The made guard channels with a route action, in channel order (R116). -/
  override : List (ChannelNo × Route)
  change : Option Change
  pending : Option Route
  outlets : Vector OutletState 7
  conflictHold : Bool
  reported : Bool
  wanted : Option Route
  deriving DecidableEq, Repr

/-! ## Guard unit (chapter 8) -/

/-- Working state of a guard channel (R130). -/
structure GuardChannel where
  made : Bool
  makeRun : Nat
  breakRun : Nat
  latched : Bool
  inhibitPending : Bool
  lastValue : Option Int
  lastThreshold : Option Int
  deriving DecidableEq, Repr

/-- The guard unit: eight channels (R130) and four contacts, `true` energized (R138). -/
structure GuardUnit where
  channels : Vector GuardChannel 8
  contacts : Vector Bool 4
  deriving DecidableEq, Repr

/-! ## Line bus controller (chapter 9) -/

/-- A notice handed to the outbound queue: complete except for the fields of R146 (R140). -/
inductive Notice where
  | launch (batch : BatchNo) (product : Product) (leadBatch : BatchNo) (leadProduct : Product)
      (nominated launchWidth : Nat) (stamp : Counter)
  | passage (batch : BatchNo) (trailing leading : Product) (measuredWidth : Nat)
      (lead mid trail : Method) (forced late degraded : Bool) (stamp : Counter)
  | hold (slots : Nat)
  | trainRequest (dest : Nat) (tag : BitVec 16)
  | report (dest : Nat) (first last : Bool) (keyStation : Nat) (keyTag : BitVec 16) (total : Nat)
      (batches : List BatchNo)
  | status (role : Role) (startCount : BitVec 16) (interval : Nat)
  deriving DecidableEq, Repr

/-- A queued notice with the moment it joined, its age (R141). -/
structure Queued where
  notice : Notice
  joined : Nat
  deriving DecidableEq, Repr

/-- What the notice in the transmit buffer is doing (R145, R147): waiting for the gap since a moment, on
the medium as the frame's octets, or in a backoff that ends at a moment. -/
inductive TxPhase where
  | waiting (since : Nat)
  | sending (frame : List Octet)
  | backoff (ends : Nat)
  deriving DecidableEq, Repr

/-- The transmit buffer's content: a notice with its collision count (R144). -/
structure TxBuffer where
  notice : Notice
  collisions : Nat
  phase : TxPhase
  deriving DecidableEq, Repr

/-- An entry's state in a TRAIN REPORT (12.2): a head interface state, or GONE. -/
inductive EntryState where
  | head (s : HeadState)
  | gone
  deriving DecidableEq, Repr

/-- A TRAIN REPORT entry as received (12.2). -/
structure ReportEntry where
  batch : BatchNo
  product : Product
  leading : Product
  d : Int
  w : Nat
  u : Nat
  nominated : Nat
  state : EntryState
  deriving DecidableEq, Repr

/-- The four flags of a STATUS (12.2). -/
structure StatusFlags where
  densityReady : Bool
  markerReady : Bool
  anyDegraded : Bool
  holdSent : Bool
  deriving DecidableEq, Repr

/-- What an accepted notice carries, by kind (12.2). -/
inductive Body where
  | launch (batch : BatchNo) (product : Product) (leadBatch : BatchNo) (leadProduct : Product)
      (nominated launchWidth trail : Nat)
  | passage (batch : BatchNo) (trailing leading : Product) (trail measuredWidth : Nat)
      (lead mid trailMethod : Method) (forced late degraded : Bool)
  | hold (slots : Nat)
  | trainRequest (tag : BitVec 16)
  | report (first last : Bool) (keyStation : Nat) (keyTag : BitVec 16) (total : Nat)
      (entries : List ReportEntry)
  | status (role : Role) (startCount : BitVec 16) (interval : Nat) (delivered : Counter) (rate : Nat)
      (atMeter : Option BatchNo) (flags : StatusFlags)
  deriving DecidableEq, Repr

/-- An accepted notice: source station, source chainage and what it carries (R140, R149). -/
structure Received where
  source : Nat
  chainage : Nat
  body : Body
  deriving DecidableEq, Repr

/-- The peer hold in force: its expiry and its holder (R152). -/
structure PeerHold where
  expiry : Nat
  holder : Nat
  deriving DecidableEq, Repr

/-- The twelve link statistics, each held at 65,535 (R153). -/
structure LinkStats where
  framesSent : Nat
  collisions : Nat
  excessive : Nat
  late : Nat
  deferrals : Nat
  evicted : Nat
  framesReceived : Nat
  badCheck : Nat
  filtered : Nat
  malformed : Nat
  inboundDropped : Nat
  downstreamPassages : Nat
  deriving DecidableEq, Repr

/-- The line bus controller (chapter 9, R154). -/
structure LineBus where
  /-- The outbound queue, in the order of joining (R141). -/
  outbound : List Queued
  buffer : Option TxBuffer
  /-- The inbound queue, oldest first (R150). -/
  inbound : List Received
  peerHold : Option PeerHold
  /-- The hold-out state: `true` is SENT (R151). -/
  holdSent : Bool
  stats : LinkStats
  /-- The backoff generator g, absent while unseeded (R147). -/
  generator : Option (BitVec 16)
  /-- The end of the last carrier on the medium that this station knows of, its own included, from which the
  interframe gap is measured (R145); absent before there is one (log entry 58). -/
  carrierEnd : Option Nat
  deriving DecidableEq, Repr

/-! ## Peer monitor (chapter 10) -/

/-- A peer table entry (R155), with the last received rate, batch at the meter and flags (R157, R165). -/
structure PeerEntry where
  station : Nat
  chainage : Nat
  role : Option Role
  startCount : Option (BitVec 16)
  delivered : Option Counter
  interval : Option Nat
  silent : Bool
  expiry : Option Nat
  rate : Option Nat
  atMeter : Option BatchNo
  flags : Option StatusFlags
  deriving DecidableEq, Repr

/-- Why a sync fails (R161, R162, R164). -/
inductive SyncFailure where
  | notSent | key | missingFirst | totalChanged | tooMany | emptySegment | short | timeout
  deriving DecidableEq, Repr

/-- The outcome of the last sync that ended (R165). -/
inductive SyncOutcome where
  | none_
  | merged (inserted known refused vacant : Nat)
  | failed (reason : SyncFailure)
  deriving DecidableEq, Repr

/-- The sync in progress (R161): no sync, or a phase, with the timer's expiry once the request has left. -/
inductive SyncPhase where
  | idle
  | waitingSent
  | awaiting (expiry : Nat)
  | receiving (expiry : Nat)
  deriving DecidableEq, Repr

/-- The peer monitor (chapter 10, R165). -/
structure PeerMonitor where
  /-- The peer table, in station-number order (R155). -/
  table : List PeerEntry
  phase : SyncPhase
  /-- The station asked, j (R161). -/
  syncStation : Option Nat
  tag : BitVec 16
  /-- The declared total T of the partial report; absent while the partial report is empty (R162). -/
  partialTotal : Option Nat
  /-- The reassembly buffer (R163). -/
  buffer : List ReportEntry
  lastOutcome : SyncOutcome
  strays : Nat
  /-- The moment the next STATUS is handed (R158); absent while the STATUS timer is stopped. -/
  nextStatus : Option Nat
  deriving DecidableEq, Repr

/-! ## Station port and image store (chapter 11) -/

/-- The seventeen alarm flags, in the order of R174's table. -/
inductive Alarm where
  | sampleMissed | analyserLost | trainFull | interfaceOverdue | unplannedBatch | launchQueueEmpty
  | valveFault | routeConflict | guardMade | peerSilent | peerRestart | chainageChanged
  | duplicateStation | syncFailed | inboundOverflow | outboundOverflow | storeFailed
  deriving DecidableEq, Repr

/-- The result octet of a response (12.3). -/
inductive Result where
  | accepted | state | role | full | unknownBatch | duplicate | value | busy | sequence
  deriving DecidableEq, Repr

/-- A guard record's event (12.4). -/
inductive GuardEvent where
  | made | broken | released
  deriving DecidableEq, Repr

/-- What a cut record holds, by kind (R173, 12.4). -/
inductive RecordBody where
  | interface (batch : BatchNo) (leading trailing : Product) (lead mid trail : Method)
      (measuredWidth : Nat) (midError : Int) (early clamped overdue degraded : Bool)
      (mix : List (Outlet × Nat))
  | delivery (order : Nat) (batch : BatchNo) (outlet : Outlet) (volume : Nat) (reason : EndReason)
  | launch (batch : BatchNo) (product : Product) (launched : Nat) (source : Outlet)
  | guard (channel : ChannelNo) (event : GuardEvent) (action : GuardAction) (value : Option Int)
  deriving DecidableEq, Repr

/-- A cut record with its sequence number and arrival stamp (R173). -/
structure CutRecord where
  seq : BitVec 16
  stamp : Counter
  body : RecordBody
  deriving DecidableEq, Repr

/-- A response as sent: the request's code, the result and the items after the result octet (12.3). -/
structure Response where
  code : Octet
  result : Result
  payload : List Octet
  deriving DecidableEq, Repr

/-- The reset cause (R175). -/
inductive ResetCause where
  | powerOn | resetLine
  deriving DecidableEq, Repr

/-- The station port (11.1, R173, R174). A request is served whole in one step, so no request is in
progress between two steps; `response` is the response of the last request served (log entry 8). -/
structure StationPort where
  response : Option Response
  discarded : Nat
  records : List CutRecord
  seq : BitVec 16
  loss : Nat
  /-- The alarm flags: bit n - 1 for the n-th flag of R174's table. -/
  alarms : BitVec 17
  resetCause : ResetCause
  deriving DecidableEq, Repr

/-- The part states (5.8, 11.3). -/
inductive PartState where
  | loading | standby | configFault | programming | running
  deriving DecidableEq, Repr

/-- The last store outcome (R171). -/
inductive StoreOutcome where
  | none_ | good | failed
  deriving DecidableEq, Repr

/-- The image store (11.3, 11.4). -/
structure ImageStore where
  state : PartState
  /-- The nonvolatile image: 512 octets. -/
  nonvolatile : List Octet
  /-- The nonvolatile image is known to be invalid: a write of it was cut short or failed (R171). -/
  spoiled : Bool
  startCount : BitVec 16
  /-- The active configuration; absent while the copied image has not passed validation (R168). -/
  config : Option Config
  /-- The offset of the first failing field: present in CONFIG_FAULT, and kept over a PROGRAMMING that
  returns there, where it is not shown (R168, R171). -/
  failOffset : Option Nat
  /-- The staging buffer: the octets received; absent when empty. Its length is the fill (R170). -/
  staging : Option (List Octet)
  returnState : Option PartState
  lastStore : StoreOutcome
  /-- The model's own count of spoilings, which names the free octets of a spoiled image (log entry 4). -/
  spoilings : Nat
  deriving DecidableEq, Repr

/-! ## The part and the state -/

/-- The part: its twelve blocks and the model's clock in bit times. (The tracking engine keeps no state
of its own, chapter 4.) -/
structure Part where
  now : Nat
  inst : Instruments
  vol : VolumeUnit
  train : TrainStore
  det : Detector
  planner : Planner
  outlet : OutletController
  guard : GuardUnit
  bus : LineBus
  peer : PeerMonitor
  port : StationPort
  image : ImageStore
  deriving DecidableEq, Repr

/-- The state: the part, and the commands that wait, first in first out. -/
structure State where
  part : Part
  pending : List Instr
  deriving DecidableEq, Repr

/-! ## Why a step could stop -/

/-- No rule of the manual stops the part: every command has an effect in every state, be it none. The
type has no constructor, so no step faults (safe: nothing is claimed of a machine that stopped). -/
inductive Fault where
  deriving DecidableEq, Repr

/-- Why a step gives no meaning. -/
inductive Refusal where
  /-- Raised by `exec` for a command that has no meaning yet; safe, since nothing can be proved of a step
  that is refused. Every command of the table has its meaning, so no arm raises it. -/
  | notModelled (mnemonic : String)
  deriving DecidableEq, Repr

/-! ## Values after reset -/

/-- The instrument interface after either reset (R33, R30). -/
def Instruments.afterReset : Instruments :=
  { transferOpen := false, nextRequest := none,
    channels := Vector.replicate 8 { last := none, lastValid := none },
    densityReady := false, markerReady := false, densityWarmup := 0, markerWarmup := 0,
    tempInUse := 1500, pressInUse := 0, tHeld := false, pHeld := false, missedRun := 0,
    missedTotal := 0, trunkPending := 0, deliveryPending := 0,
    limits := Vector.replicate 7 { open_ := false, closed := false } }

/-- The volume unit after either reset (R49, R44, R36). -/
def VolumeUnit.afterReset : VolumeUnit :=
  { trunkResidue := 0, deliveryResidue := 0, trunkAcc := 0, deliveryAcc := 0, trunkCounter := 0,
    deliveredCounter := 0, arrivalCounter := 0, flowWindow := [], lastVcf := none,
    lastDensity := none, product := 0, uncorrected := false, tally := 0, sampleEvents := 0 }

/-- The train store after either reset (R18). -/
def TrainStore.afterReset : TrainStore :=
  { records := [], horizon := none }

/-- The interface detector after either reset (R94). -/
def Detector.afterReset : Detector :=
  { window := none, refs := none, leadCount := 0, midCount := 0, trailCount := 0, breakRun := 0,
    midStamp := none, mix := [] }

/-- The cut planner after either reset (R95). -/
def Planner.afterReset : Planner :=
  { orders := [], nextOrder := 1, launches := [], current := none, incoming := none,
    emptyShown := false, planned := none }

/-- An outlet after either reset (R114). -/
def OutletState.afterReset : OutletState :=
  { command := .idle, stuckOpen := false, lastFault := .none_ }

/-- The outlet controller after either reset (R114). -/
def OutletController.afterReset : OutletController :=
  { mode := none, current := .unknown, target := none, planned := none, override := [],
    change := none, pending := none, outlets := Vector.replicate 7 OutletState.afterReset,
    conflictHold := false, reported := false, wanted := none }

/-- A guard channel after either reset (R130). -/
def GuardChannel.afterReset : GuardChannel :=
  { made := false, makeRun := 0, breakRun := 0, latched := false, inhibitPending := false,
    lastValue := none, lastThreshold := none }

/-- The guard unit after either reset (R130, R138). -/
def GuardUnit.afterReset : GuardUnit :=
  { channels := Vector.replicate 8 GuardChannel.afterReset, contacts := Vector.replicate 4 false }

/-- The link statistics after either reset (R154). -/
def LinkStats.afterReset : LinkStats :=
  { framesSent := 0, collisions := 0, excessive := 0, late := 0, deferrals := 0, evicted := 0,
    framesReceived := 0, badCheck := 0, filtered := 0, malformed := 0, inboundDropped := 0,
    downstreamPassages := 0 }

/-- The line bus controller after either reset (R154). -/
def LineBus.afterReset : LineBus :=
  { outbound := [], buffer := none, inbound := [], peerHold := none, holdSent := false,
    stats := LinkStats.afterReset, generator := none, carrierEnd := none }

/-- The peer monitor after either reset (R165). -/
def PeerMonitor.afterReset : PeerMonitor :=
  { table := [], phase := .idle, syncStation := none, tag := 0, partialTotal := none, buffer := [],
    lastOutcome := .none_, strays := 0, nextStatus := none }

/-- The station port after a power-on reset (R173, R174, R175). -/
def StationPort.afterPowerOn : StationPort :=
  { response := none, discarded := 0, records := [], seq := 0, loss := 0, alarms := 0,
    resetCause := .powerOn }

/-- A part whose nonvolatile store was never written, right after the power-on reset and the LOADING it
ends in. The manual gives the nonvolatile store no first contents (log entry 3): 512 octets of zero, which
fail the check word, and a start count of 0. The step POWER_ON_RESET holds its LOADING whole
(95_what_each_step_holds), and LOADING of this image ends in CONFIG_FAULT at offset 510 (R168). -/
def ImageStore.blank : ImageStore :=
  { state := .configFault, nonvolatile := List.replicate 512 0, spoiled := false, startCount := 0,
    config := none, failOffset := some 510, staging := none, returnState := none,
    lastStore := .none_, spoilings := 0 }

/-- The part right after a power-on reset with a blank nonvolatile store. -/
def Part.reset : Part :=
  { now := 0, inst := Instruments.afterReset, vol := VolumeUnit.afterReset,
    train := TrainStore.afterReset, det := Detector.afterReset, planner := Planner.afterReset,
    outlet := OutletController.afterReset, guard := GuardUnit.afterReset,
    bus := LineBus.afterReset, peer := PeerMonitor.afterReset, port := StationPort.afterPowerOn,
    image := ImageStore.blank }

/-- The machine right after reset: no command waits. -/
def State.reset : State :=
  { part := Part.reset, pending := [] }

end Sys2Proof.Machine
end

