-- ==== Sys2Proof/Machine/Flags.lean ====
section
/-! DEFINITION. The alarm flags and the attention line (R174). -/

namespace Sys2Proof.Machine

/-- The place of a flag in the order of R174's table, from 0. -/
def Alarm.bit : Alarm → Nat
  | .sampleMissed => 0
  | .analyserLost => 1
  | .trainFull => 2
  | .interfaceOverdue => 3
  | .unplannedBatch => 4
  | .launchQueueEmpty => 5
  | .valveFault => 6
  | .routeConflict => 7
  | .guardMade => 8
  | .peerSilent => 9
  | .peerRestart => 10
  | .chainageChanged => 11
  | .duplicateStation => 12
  | .syncFailed => 13
  | .inboundOverflow => 14
  | .outboundOverflow => 15
  | .storeFailed => 16

/-- Whether a flag is set. -/
def StationPort.alarmSet (p : StationPort) (a : Alarm) : Bool := p.alarms.getLsbD a.bit

/-- The port with a flag set, whatever its value before (R174). -/
def StationPort.raise (p : StationPort) (a : Alarm) : StationPort :=
  { p with alarms := p.alarms ||| BitVec.twoPow 17 a.bit }

/-- The port with the flags of a clear mask cleared (R174). -/
def StationPort.clear (p : StationPort) (mask : BitVec 24) : StationPort :=
  { p with alarms := p.alarms &&& ~~~ mask.setWidth 17 }

/-- The attention line: active while a cut record waits or a flag is set (R174). -/
def StationPort.attention (p : StationPort) : Bool :=
  !p.records.isEmpty || p.alarms != 0

/-- The part with an alarm flag set. -/
def Part.raise (a : Alarm) (s : Part) : Part :=
  { s with port := s.port.raise a }

/-- The part with an alarm flag set when a condition holds. -/
def Part.raiseIf (c : Bool) (a : Alarm) (s : Part) : Part :=
  if c then s.raise a else s

end Sys2Proof.Machine
end

