-- ==== Sys2Proof/Machine/Operands.lean ====
section
/-! DEFINITION. The codes that operand octets stand for (12.2, 12.3, 12.5), and the numbers the manual gives
outlets, channels and contacts. A code outside its list reads as none. -/

namespace Sys2Proof.Machine

/-- The manual's number of an outlet, 1 to 7. -/
def outletNumber (o : Outlet) : Nat := o.val + 1

/-- The outlet with a number, 1 to 7. -/
def outletOf? (n : Nat) : Option Outlet :=
  if h : 1 ≤ n ∧ n ≤ 7 then some ⟨n - 1, by omega⟩ else none

/-- The tank or source outlet with a number, 1 to 6 (R96, R108). -/
def tankOutletOf? (n : Nat) : Option Outlet :=
  if n ≤ 6 then outletOf? n else none

/-- The guard channel with a number, 1 to 8. -/
def channelOf? (n : Nat) : Option ChannelNo :=
  if h : 1 ≤ n ∧ n ≤ 8 then some ⟨n - 1, by omega⟩ else none

/-- The product with a number, 0 to 15. -/
def productOf? (n : Nat) : Option Product :=
  if h : n < 16 then some ⟨n, h⟩ else none

/-- The product with a number from 1 to 15. -/
def realProductOf? (n : Nat) : Option Product :=
  if n = 0 then none else productOf? n

/-- Head and tail policy codes (12.3). -/
def policyOf? (n : Nat) : Option Policy :=
  match n with
  | 1 => some .withMix
  | 2 => some .atMid
  | 3 => some .clean
  | _ => none

/-- Stage codes of FORCE STAGE (12.3). -/
def stageOf? (n : Nat) : Option Stage :=
  match n with
  | 1 => some .leading
  | 2 => some .midpoint
  | 3 => some .trailing
  | _ => none

/-- Mode codes of START (12.3). -/
def modeOf? (n : Nat) : Option Mode :=
  match n with
  | 1 => some .operate
  | 2 => some .observe
  | _ => none

/-- Role codes (12.2, 12.5). -/
def roleOf? (n : Nat) : Option Role :=
  match n with
  | 1 => some .origin
  | 2 => some .relay
  | 3 => some .terminal
  | 4 => some .end_
  | _ => none

/-- Stage method codes (12.2): two bits, every code assigned. -/
def methodOf (n : Nat) : Method :=
  match n % 4 with
  | 0 => .analyser
  | 1 => .volume
  | 2 => .forced
  | _ => .late

/-- Report entry states (12.2). -/
def entryStateOf? (n : Nat) : Option EntryState :=
  match n with
  | 0 => some (.head .distant)
  | 1 => some (.head .armed)
  | 2 => some (.head .inMix)
  | 3 => some (.head .pastMid)
  | 4 => some (.head .cleared)
  | 5 => some .gone
  | _ => none

/-- Guard source codes (12.5). -/
def sourceOf? (n : Nat) : Option GuardSource :=
  match n with
  | 1 => some .correctedDensity
  | 2 => some .marker
  | 3 => some .densityDeviation
  | 4 => some .arrivalFlowRate
  | 5 => some .pressure
  | 6 => some .temperature
  | 7 => some (.general 0)
  | 8 => some (.general 1)
  | 9 => some (.general 2)
  | 10 => some (.general 3)
  | 11 => some .tally
  | 12 => some .windowD
  | _ => none

/-- Threshold tracking codes (12.5). -/
def trackingOf? (n : Nat) : Option Tracking :=
  match n with
  | 1 => some .fixed
  | 2 => some .productRef
  | 3 => some .orderLimit
  | _ => none

/-- Guard action codes (12.5). -/
def actionOf? (n : Nat) : Option GuardAction :=
  match n with
  | 1 => some .alarm
  | 2 => some .forceTransmix
  | 3 => some .forceClosed
  | 4 => some .endOrder
  | 5 => some .holdLaunch
  | _ => none

/-! ## The codes themselves -/

/-- Role codes (12.2). -/
def roleCode : Role → Nat
  | .origin => 1
  | .relay => 2
  | .terminal => 3
  | .end_ => 4

/-- Mode codes (12.3). -/
def modeCode : Mode → Nat
  | .operate => 1
  | .observe => 2

/-- Stage method codes (12.2). -/
def methodCode : Method → Nat
  | .analyser => 0
  | .volume => 1
  | .forced => 2
  | .late => 3

/-- Head interface state codes (12.2). -/
def headStateCode : HeadState → Nat
  | .distant => 0
  | .armed => 1
  | .inMix => 2
  | .pastMid => 3
  | .cleared => 4

/-- Report entry state codes (12.2). -/
def entryStateCode : EntryState → Nat
  | .head h => headStateCode h
  | .gone => 5

/-- Policy codes (12.3). -/
def policyCode : Policy → Nat
  | .withMix => 1
  | .atMid => 2
  | .clean => 3

/-- Result codes (12.3). -/
def resultCode : Result → Nat
  | .accepted => 0
  | .state => 1
  | .role => 2
  | .full => 3
  | .unknownBatch => 4
  | .duplicate => 5
  | .value => 6
  | .busy => 7
  | .sequence => 8

/-- End reason codes (12.4). -/
def endReasonCode : EndReason → Nat
  | .done => 1
  | .limit => 2
  | .cancelled => 3
  | .guard => 4

/-- Guard record event codes (12.4). -/
def guardEventCode : GuardEvent → Nat
  | .made => 1
  | .broken => 2
  | .released => 3

/-- Guard action codes (12.5). -/
def actionCode : GuardAction → Nat
  | .alarm => 1
  | .forceTransmix => 2
  | .forceClosed => 3
  | .endOrder => 4
  | .holdLaunch => 5

/-- Guard source codes (12.5). -/
def sourceCode : GuardSource → Nat
  | .correctedDensity => 1
  | .marker => 2
  | .densityDeviation => 3
  | .arrivalFlowRate => 4
  | .pressure => 5
  | .temperature => 6
  | .general n => 7 + n.val
  | .tally => 11
  | .windowD => 12

/-- Threshold tracking codes (12.5). -/
def trackingCode : Tracking → Nat
  | .fixed => 1
  | .productRef => 2
  | .orderLimit => 3

/-- The class of a notice, by its kind (R140). -/
def Notice.cls : Notice → Nat
  | .launch .. => 1
  | .passage .. => 1
  | .hold .. => 1
  | .trainRequest .. => 2
  | .report .. => 2
  | .status .. => 3

/-- The kind code of a notice (12.2). -/
def Notice.kind : Notice → Nat
  | .launch .. => 1
  | .passage .. => 2
  | .hold .. => 3
  | .trainRequest .. => 4
  | .report .. => 5
  | .status .. => 6

/-- The destination of a notice when sent (R140). -/
def Notice.dest : Notice → Nat
  | .launch .. => 0
  | .passage .. => 0
  | .hold .. => 0
  | .trainRequest dest _ => dest
  | .report dest _ _ _ _ _ _ => dest
  | .status .. => 0

end Sys2Proof.Machine
end

