-- ==== Sys2Proof/Machine/Ops.lean ====
section
/-! DEFINITION. The operations every block shares: serial order, held counts, the clock, reading the active
configuration and the limit levels, writing a cut record, answering a request, and the lookups and
updates of the train. -/

namespace Sys2Proof

/-! ## Reading the configuration -/

/-- Whether the station is a TERMINAL or an END: the roles that deliver (chapter 00, section 1). -/
def Role.delivers : Role → Bool
  | .terminal => true
  | .end_ => true
  | .origin => false
  | .relay => false

/-- The product table's entry of a product; product 0 has none (R36). -/
def Config.product? (c : Config) (p : Product) : Option ProductConfig :=
  if h : p.val ≠ 0 then some (c.products[p.val - 1]'(by omega)) else none

/-- Whether an outlet is fitted: outlets 1 to 6 by their bit, outlet 7 by the transmix field (12.5). -/
def Config.fitted (c : Config) (o : Outlet) : Bool :=
  if o.val = 6 then c.transmixFitted else c.outletsFitted.getLsbD o.val

/-- The listening mask's bit of a station from 1 to 48 (12.5). -/
def Config.listens (c : Config) (station : Nat) : Bool := c.listening.getLsbD (station - 1)

end Sys2Proof

namespace Sys2Proof.Machine

/-! ## Numbers -/

/-- Serial order of batch numbers: a precedes b when (b - a) mod 65,536 lies in 1 to 32,767 (5.4). -/
def serialBefore (a b : BatchNo) : Bool :=
  decide (1 ≤ (b - a).toNat ∧ (b - a).toNat ≤ 32767)

/-- A count that stops at 65,535. -/
def hold16 (n : Nat) : Nat := min n 65535

/-- A count or rate that stops at 4,294,967,295. -/
def hold32 (n : Nat) : Nat := min n 4294967295

/-- D held within -2,000,000,000 to +2,000,000,000 dal (R50). -/
def holdD (d : Int) : Int := max (-2000000000) (min 2000000000 d)

/-- A value held to the nearer limit of a range. -/
def clampTo (lo hi v : Int) : Int := max lo (min hi v)

/-! ## The clock -/

/-- Time passes: `dt` bit times (log entry 1). -/
def Part.elapse (dt : Nat) (s : Part) : Part := { s with now := s.now + dt }

/-- The expiry of a timer that runs to a moment: its effect once the clock has come to that moment, and none
before it, as of a timer that has been stopped or started again since (R120, R156, R164; log entry 9). -/
def Part.whenDue (moment : Nat) (f : Part → Part) (s : Part) : Part := if moment ≤ s.now then f s else s

/-- Whole seconds left before a moment, 0 once it is past. A part second is left out: DESIGN CHOICE, R126 and R165
say whole seconds and give no rounding (log entry 63). -/
def Part.secondsLeft (s : Part) (moment : Nat) : Nat := (moment - s.now) / bitsPerSecond

/-! ## Configuration and part state -/

/-- The active configuration, and nothing fitted where there is none (R168). -/
def Part.cfg (s : Part) : Config := s.image.config.getD Config.nothingFitted

/-- Whether the part is RUNNING (5.8). -/
def Part.running (s : Part) : Bool := decide (s.image.state = .running)

/-- The seven outlets in number order. -/
def allOutlets : List Outlet := [0, 1, 2, 3, 4, 5, 6]

/-- The eight guard channels in number order. -/
def allChannels : List ChannelNo := [0, 1, 2, 3, 4, 5, 6, 7]

/-! ## Limit levels (R30) -/

/-- Whether an outlet's inputs are followed: all are while there is no valid active configuration,
otherwise those of a fitted outlet; the others read inactive (R30). The level of an outlet that is not fitted is stored
underneath, and a RELOAD IMAGE that changes what is fitted masks or shows it at once: DESIGN CHOICE, R30 does not say
(log entry 62). -/
def Part.levelsRead (s : Part) (o : Outlet) : Bool := s.image.config.isNone || s.cfg.fitted o

/-- The taken open level of an outlet. -/
def Part.openLevel (s : Part) (o : Outlet) : Bool := s.levelsRead o && s.inst.limits[o].open_

/-- The taken closed level of an outlet. -/
def Part.closedLevel (s : Part) (o : Outlet) : Bool := s.levelsRead o && s.inst.limits[o].closed

/-! ## Cut records and responses (R173, 11.1) -/

/-- A cut record is written: it takes the sequence number and the arrival stamp, and joins the newest end;
a full queue gives up its oldest record, which the loss count counts (R173). -/
def Part.writeRecord (body : RecordBody) (s : Part) : Part :=
  let rec_ : CutRecord := { seq := s.port.seq, stamp := s.vol.arrivalCounter, body := body }
  let full := decide (maxRecords ≤ s.port.records.length)
  let kept := if full then s.port.records.tail else s.port.records
  { s with port :=
      { s.port with
        records := kept ++ [rec_]
        seq := s.port.seq + 1
        loss := if full then hold16 (s.port.loss + 1) else s.port.loss } }

/-- The response to the request in progress (11.1): its code, the result, the items after it. -/
def Part.respond (code : Octet) (result : Result) (payload : List Octet) (s : Part) : Part :=
  { s with port := { s.port with response := some { code := code, result := result, payload := payload } } }

/-- A response frame as it leaves the port: start octet, length, code, result, items, check word
(12.3). -/
def Response.frame (r : Response) : List Octet :=
  withCheck ([0x7E] ++ be2 (2 + r.payload.length) ++ [r.code] ++ be1 (resultCode r.result) ++ r.payload)

/-! ## The train -/

/-- Whether a record's head interface is CLEARED. -/
def BatchRecord.headCleared (r : BatchRecord) : Bool :=
  match r.head with
  | some h => decide (h.state = .cleared)
  | none => false

/-- Whether a record has a head interface that is not CLEARED. -/
def BatchRecord.headLive (r : BatchRecord) : Bool :=
  match r.head with
  | some h => decide (h.state ≠ .cleared)
  | none => false

/-- The record of a batch, if the train holds one. -/
def findBatch (b : BatchNo) (recs : List BatchRecord) : Option BatchRecord :=
  recs.find? (fun r => decide (r.batch = b))

/-- The train with one batch's record changed. -/
def updateBatch (b : BatchNo) (f : BatchRecord → BatchRecord) (recs : List BatchRecord) :
    List BatchRecord :=
  recs.map (fun r => if r.batch = b then f r else r)

/-- The part with one batch's record changed. -/
def Part.modBatch (b : BatchNo) (f : BatchRecord → BatchRecord) (s : Part) : Part :=
  { s with train := { s.train with records := updateBatch b f s.train.records } }

/-- The part with the head interface of one batch's record changed, where it has one. -/
def Part.modHead (b : BatchNo) (f : HeadInterface → HeadInterface) (s : Part) : Part :=
  s.modBatch b (fun r => { r with head := r.head.map f })

/-- The oldest record whose head interface exists and is not CLEARED: the detection window of R73. -/
def oldestLive (recs : List BatchRecord) : Option BatchNo :=
  (recs.find? BatchRecord.headLive).map BatchRecord.batch

/-- The window's record and head interface, as the detector holds the window (R73). -/
def Part.windowHead (s : Part) : Option (BatchRecord × HeadInterface) :=
  match s.det.window with
  | none => none
  | some b =>
    match findBatch b s.train.records with
    | none => none
    | some r => r.head.map (fun h => (r, h))

/-- The state of the window interface, or none when the window is empty. -/
def Part.windowState (s : Part) : Option HeadState := s.windowHead.map (fun w => w.2.state)

/-- Whether the window interface is IN_MIX or PAST_MID. -/
def Part.inMix (s : Part) : Bool :=
  match s.windowState with
  | some .inMix => true
  | some .pastMid => true
  | _ => false

/-- The batch at the meter (R3): the window's record while it is PAST_MID, otherwise the newest PRESENT
record. -/
def Part.atMeter (s : Part) : Option BatchRecord :=
  match s.windowHead with
  | some (r, h) =>
    if h.state = .pastMid then some r
    else s.train.records.reverse.find? (fun r => decide (r.status = .present))
  | none => s.train.records.reverse.find? (fun r => decide (r.status = .present))

/-- The FILLING order, if any (R96). -/
def Part.fillingOrder (s : Part) : Option Order := s.planner.orders.find? Order.filling

/-- Whether a guard channel with action HOLD_LAUNCH is made (R110). -/
def Part.holdLaunchMade (s : Part) : Bool :=
  allChannels.any (fun c =>
    s.guard.channels[c].made && decide (s.cfg.guards[c].action = .holdLaunch))

end Sys2Proof.Machine
end

