-- ==== Sys2Proof/Machine/Image.lean ====
section
/-! DEFINITION. The image store: the layout of the image (12.5), its validation and LOADING (R168), STORE IMAGE's
staging (R170), PROGRAMMING's end (R171), and what either reset does to the part (R175). -/

namespace Sys2Proof.Machine

/-! ## Reading the image (12.5) -/

/-- Offset of the record of product n, with n from 0. -/
def productOffset (n : Nat) : Nat := 142 + 16 * n

/-- Offset of the record of guard channel c, with c from 0. -/
def guardOffset (c : Nat) : Nat := 382 + 16 * c

/-- Product record n of the image. -/
def productAt (img : List Octet) (n : Nat) : ProductConfig :=
  let o := productOffset n
  { alpha := field img o 2, beta := field img (o + 2) 2, growth := field img (o + 4) 2,
    refDensity := field img (o + 6) 2, densityTol := field img (o + 8) 2,
    refMarker := field img (o + 10) 2, markerTol := field img (o + 12) 2 }

/-- Bit `n` of a field's value. -/
def bitOf (v n : Nat) : Bool := v.testBit n

/-- Contact of a guard record: none, or contact n as n - 1. -/
def contactOf? (n : Nat) : Option (Fin 4) :=
  if h : 1 ≤ n ∧ n ≤ 4 then some ⟨n - 1, by omega⟩ else none

/-- Guard record c of the image. Fields of a record that is not enabled may hold any value (12.5). Codes outside
their list are read as the first code there, and a contact above 4 as none: DESIGN CHOICE, only READ STATUS
shows them (R139; log entry 49). -/
def guardAt (img : List Octet) (c : Nat) : GuardConfig :=
  let o := guardOffset c
  let bits := field img o 1
  { enable := bitOf bits 0, latch := bitOf bits 1, inhibit := bitOf bits 2,
    compare := if bitOf bits 3 then .low else .high,
    sense := if bitOf bits 4 then .failsafe else .normal,
    source := (sourceOf? (field img (o + 1) 1)).getD .correctedDensity,
    tracking := (trackingOf? (field img (o + 2) 1)).getD .fixed,
    action := (actionOf? (field img (o + 3) 1)).getD .alarm,
    contact := contactOf? (field img (o + 4) 1),
    makeCount := field img (o + 5) 1, breakCount := field img (o + 6) 1,
    threshold := signed4 (field img (o + 8) 4), passband := field img (o + 12) 4 }

/-- The active configuration that a valid image gives (12.5). -/
def parseConfig (img : List Octet) : Config :=
  { driveEnabled := decide (field img 1 2 = 0x5A5A),
    station := field img 3 1, role := (roleOf? (field img 4 1)).getD .relay,
    chainage := field img 5 4, listening := BitVec.ofNat 48 (field img 9 6),
    statusInterval := field img 15 1, samplePeriod := field img 16 2,
    trunkWeight := field img 18 2, deliveryWeight := field img 20 2,
    densityFitted := bitOf (field img 22 1) 0, markerFitted := bitOf (field img 22 1) 1,
    warmup := field img 23 1, makeCount := field img 24 1, breakCount := field img 25 1,
    u0 := field img 26 4, drift := field img 30 2, margin := field img 32 4,
    keepBehind := field img 36 4, launchWidth := field img 40 4,
    outletsFitted := BitVec.ofNat 6 (field img 44 1), transmixFitted := bitOf (field img 45 1) 0,
    travelTimeout := field img 46 2, highWater := field img 48 1, lowWater := field img 49 1,
    holdTime := field img 50 2,
    products := Vector.ofFn (fun n => productAt img n.val),
    guards := Vector.ofFn (fun c => guardAt img c.val) }

/-! ## Validation (R168) -/

/-- A value in a closed range. -/
def inRange (lo hi v : Nat) : Bool := decide (lo ≤ v ∧ v ≤ hi)

/-- The field checks of the station section, in offset order. The spares of octets 52 to 141 are one field
of the table (12.5), so a spare that is not zero fails at 52. -/
def stationChecks (img : List Octet) : List (Nat × Bool) :=
  [ (0, decide (field img 0 1 = 3)),
    (1, decide (field img 1 2 = 0x5A5A ∨ field img 1 2 = 0xA5A5)),
    (3, inRange 1 48 (field img 3 1)),
    (4, inRange 1 4 (field img 4 1)),
    (5, inRange 0 maxDal (field img 5 4)),
    (15, inRange 2 60 (field img 15 1)),
    (16, inRange 100 1000 (field img 16 2)),
    (18, inRange 1 65535 (field img 18 2)),
    (20, inRange 1 65535 (field img 20 2)),
    (22, inRange 0 3 (field img 22 1)),
    (23, inRange 1 255 (field img 23 1)),
    (24, inRange 1 64 (field img 24 1)),
    (25, inRange 1 64 (field img 25 1)),
    (26, inRange 0 100000 (field img 26 4)),
    (30, inRange 0 4095 (field img 30 2)),
    (32, inRange 0 100000 (field img 32 4)),
    (36, inRange 0 maxDal (field img 36 4)),
    (40, inRange 0 1000000 (field img 40 4)),
    (44, inRange 0 63 (field img 44 1)),
    (45, inRange 0 1 (field img 45 1)),
    (46, inRange 5 600 (field img 46 2)),
    (48, inRange 8 24 (field img 48 1)),
    (49, inRange 0 23 (field img 49 1)),
    (50, inRange 1 4000 (field img 50 2)),
    (52, ((img.drop 52).take 90).all (fun o => decide (o = 0))) ]

/-- The field checks of product record n (12.5; R36, R58, 5.2 of Interface Detection). -/
def productChecks (img : List Octet) (n : Nat) : List (Nat × Bool) :=
  let o := productOffset n
  [ (o, inRange 0 32767 (field img o 2)),
    (o + 2, inRange 0 4095 (field img (o + 2) 2)),
    (o + 4, inRange 0 4095 (field img (o + 4) 2)),
    (o + 6, inRange 5000 10000 (field img (o + 6) 2)),
    (o + 8, inRange 1 2000 (field img (o + 8) 2)),
    (o + 10, inRange 0 60000 (field img (o + 10) 2)),
    (o + 12, inRange 1 30000 (field img (o + 12) 2)),
    (o + 14, decide (field img (o + 14) 2 = 0)) ]

/-- The field checks of guard record c: all of them when it is enabled, only its enable octet's spare bits
and its spare octet when it is not (R127, 12.5). -/
def guardChecks (img : List Octet) (c : Nat) : List (Nat × Bool) :=
  let o := guardOffset c
  let head := (o, inRange 0 31 (field img o 1))
  let spare := (o + 7, decide (field img (o + 7) 1 = 0))
  if bitOf (field img o 1) 0 then
    [ head,
      (o + 1, inRange 1 12 (field img (o + 1) 1)),
      (o + 2, inRange 1 3 (field img (o + 2) 1)),
      (o + 3, inRange 1 5 (field img (o + 3) 1)),
      (o + 4, inRange 0 4 (field img (o + 4) 1)),
      (o + 5, inRange 1 64 (field img (o + 5) 1)),
      (o + 6, inRange 1 64 (field img (o + 6) 1)),
      spare,
      (o + 12, inRange 0 2147483648 (field img (o + 12) 4)) ]
  else [head, spare]

/-- The rules of R127 on channel c when it is enabled, each failing at the later field's offset. -/
def guardCrossChecks (img : List Octet) (c : Nat) : List (Nat × Bool) :=
  let o := guardOffset c
  let role := field img 4 1
  let action := field img (o + 3) 1
  let contact := field img (o + 4) 1
  if bitOf (field img o 1) 0 then
    [ (o + 2, decide (field img (o + 2) 1 = 3 → field img (o + 1) 1 = 11)),
      (o + 3, decide (action = 2 → field img 45 1 = 1) && decide (action = 3 → role = 3) &&
        decide (action = 5 → role = 1)),
      (o + 4, (List.range c).all (fun e =>
        !(bitOf (field img (guardOffset e) 1) 0 && decide (contact ≠ 0) &&
          decide (field img (guardOffset e + 4) 1 = contact)))) ]
  else []

/-- The role and cross-field rules, in the order of the offsets they fail at (R168). -/
def crossChecks (img : List Octet) : List (Nat × Bool) :=
  let role := field img 4 1
  [ (5, decide (role = 1 ↔ field img 5 4 = 0)),
    (9, !bitOf (field img 9 6) (field img 3 1 - 1)),
    (44, decide (role = 2 → field img 44 1 = 0)),
    (45, decide (role = 2 → field img 45 1 = 0) && decide (role = 4 → field img 45 1 = 1)),
    (49, decide (field img 49 1 < field img 48 1)) ] ++
  (List.range 8).flatMap (guardCrossChecks img)

/-- Every check after the check word, in the order of R168. -/
def imageChecks (img : List Octet) : List (Nat × Bool) :=
  stationChecks img ++ (List.range 15).flatMap (productChecks img) ++
    (List.range 8).flatMap (guardChecks img) ++ crossChecks img

/-- The offset of the first check that fails. -/
def firstFailing (checks : List (Nat × Bool)) : Option Nat :=
  (checks.find? (fun c => !c.2)).map Prod.fst

/-- What LOADING records of the nonvolatile image: the offset of the first failing field, or none. A
spoiled image fails its check word (R171). -/
def imageFailure (spoiled : Bool) (img : List Octet) : Option Nat :=
  if spoiled || !checkGood img then some 510 else firstFailing (imageChecks img)

/-! ## LOADING, staging and PROGRAMMING -/

/-- LOADING, whole: the image is copied and validated, and the part is in STANDBY or CONFIG_FAULT
(R168). -/
def ImageStore.load (i : ImageStore) : ImageStore :=
  match imageFailure i.spoiled i.nonvolatile with
  | none => { i with state := .standby, config := some (parseConfig i.nonvolatile), failOffset := none }
  | some offset => { i with state := .configFault, config := none, failOffset := some offset }

/-- The nonvolatile image is left invalid with contents the manual does not give (R171, log entry 4). -/
def ImageStore.spoil (i : ImageStore) : ImageStore :=
  { i with
    nonvolatile := (List.range 512).map (Config.damagedOctet i.spoilings)
    spoiled := true
    spoilings := i.spoilings + 1 }

/-- The outcome of R170 for one segment. -/
inductive Staged where
  /-- Refused with SEQUENCE; `emptied` says whether the buffer is emptied. -/
  | sequence (emptied : Bool)
  /-- Refused with VALUE; the buffer is emptied. -/
  | value
  /-- Accepted, with the octets the buffer then holds. -/
  | taken (octets : List Octet)
  deriving DecidableEq, Repr

/-- The checks of R170, in order, on a segment. -/
def stageSegment (staging : Option (List Octet)) (first last : Bool) (offset : Nat)
    (octets : List Octet) : Staged :=
  match (if first then some [] else staging) with
  | none => .sequence false
  | some held =>
    if offset ≠ held.length then .sequence true
    else if 512 < offset + octets.length then .sequence true
    else if last && decide (offset + octets.length ≠ 512) then .sequence true
    else if last && !checkGood (held ++ octets) then .value
    else .taken (held ++ octets)

/-- PROGRAMMING begins: the return state is recorded (R171). -/
def ImageStore.beginProgramming (i : ImageStore) : ImageStore :=
  { i with state := .programming, returnState := some i.state }

/-- PROGRAMMING ends (R171): the staged image is the nonvolatile image, or that is left invalid; the
staging buffer is emptied and the part is in its return state. -/
def ImageStore.endProgramming (good : Bool) (i : ImageStore) : ImageStore :=
  let written :=
    if good then { i with nonvolatile := i.staging.getD [], spoiled := false, lastStore := .good }
    else { i.spoil with lastStore := .failed }
  { written with staging := none, state := i.returnState.getD .configFault, returnState := none }

/-! ## Resets (R175) -/

/-- What either reset leaves of the image store, before LOADING: the nonvolatile image, spoiled if it was
being written, the start count and the model's count of spoilings. -/
def ImageStore.atReset (i : ImageStore) : ImageStore :=
  let kept := if i.state = .programming then i.spoil else i
  { kept with
    state := .loading, config := none, failOffset := none, staging := none, returnState := none,
    lastStore := .none_ }

/-- What a reset leaves of the station port: a power-on reset clears the cut record queue, the sequence
number and the loss count, and a reset-line reset keeps them (R173, R175). -/
def StationPort.atReset (cause : ResetCause) (p : StationPort) : StationPort :=
  match cause with
  | .powerOn => StationPort.afterPowerOn
  | .resetLine =>
    { p with response := none, discarded := 0, alarms := 0, resetCause := .resetLine }

/-- A reset, with the LOADING it ends in (R175, R168): every volatile state takes its value after reset. -/
def Part.resetBy (cause : ResetCause) (s : Part) : Part :=
  { now := s.now, inst := Instruments.afterReset, vol := VolumeUnit.afterReset,
    train := TrainStore.afterReset, det := Detector.afterReset, planner := Planner.afterReset,
    outlet := OutletController.afterReset, guard := GuardUnit.afterReset,
    bus := LineBus.afterReset, peer := PeerMonitor.afterReset, port := s.port.atReset cause,
    image := s.image.atReset.load }

end Sys2Proof.Machine
end

