-- ==== Sys2Proof/Machine/Train.lean ====
section
/-! DEFINITION. The train store (chapter 1) and the arithmetic of the tracking engine (chapter 4), as functions on
the list of batch records: admission, insertion, statuses, retirement, the two forms of the ordering
clamp, arming, and the DEGRADED condition. -/

namespace Sys2Proof.Machine

/-! ## Admission (R6) -/

/-- Whether a record is settled: PRESENT, DEPARTED, or its head IN_MIX or PAST_MID (R6). -/
def BatchRecord.settled (r : BatchRecord) : Bool :=
  decide (r.status ≠ .approaching) ||
    (match r.head with
     | some h => decide (h.state = .inMix) || decide (h.state = .pastMid)
     | none => false)

/-- The settled limit: the newest settled record's batch number (R6). -/
def settledLimit (recs : List BatchRecord) : Option BatchNo :=
  (recs.reverse.find? BatchRecord.settled).map BatchRecord.batch

/-- A condition on a batch number that holds when the number is absent. -/
def absentOr (b : Option BatchNo) (p : BatchNo → Bool) : Bool :=
  match b with
  | none => true
  | some x => p x

/-- The records older than the place of a batch number (R6, condition 2). -/
def olderThan (b : BatchNo) (recs : List BatchRecord) : List BatchRecord :=
  recs.takeWhile (fun r => serialBefore r.batch b)

/-- The records newer than the place of a batch number. -/
def newerThan (b : BatchNo) (recs : List BatchRecord) : List BatchRecord :=
  recs.dropWhile (fun r => serialBefore r.batch b)

/-- Whether the train holds a record of a batch. -/
def knownBatch (b : BatchNo) (recs : List BatchRecord) : Bool :=
  (findBatch b recs).isSome

/-- The three conditions of R6 on a batch number the train does not hold: horizon, placement, settled
limit. -/
def admitted (t : TrainStore) (b : BatchNo) : Bool :=
  absentOr t.horizon (fun h => serialBefore h b) &&
    (newerThan b t.records).all (fun r => serialBefore b r.batch) &&
    absentOr (settledLimit t.records) (fun l => serialBefore l b)

/-- The train with a record inserted at its place (R6). -/
def insertRecord (r : BatchRecord) (recs : List BatchRecord) : List BatchRecord :=
  olderThan r.batch recs ++ r :: newerThan r.batch recs

/-! ## Statuses (R4) and retirement (R15, R16) -/

/-- The record of a batch becomes PRESENT, and the next older record, if it is PRESENT, DEPARTED (R4). -/
def makePresent (b : BatchNo) : List BatchRecord → List BatchRecord
  | [] => []
  | [r] => if r.batch = b then [{ r with status := .present }] else [r]
  | r :: n :: rest =>
    if r.batch = b then { r with status := .present } :: n :: rest
    else if n.batch = b ∧ r.status = .present then
      { r with status := .departed } :: makePresent b (n :: rest)
    else r :: makePresent b (n :: rest)

/-- Whether the oldest record retires: DEPARTED, and the next newer head CLEARED with D below -K (R15). -/
def retires (keepBehind : Nat) (r n : BatchRecord) : Bool :=
  decide (r.status = .departed) &&
    (match n.head with
     | some h => decide (h.state = .cleared) && decide (h.d < -(keepBehind : Int))
     | none => false)

/-- The records that retire, oldest first, and those that stay (R15, R16). -/
def splitRetired (keepBehind : Nat) : List BatchRecord → List BatchRecord × List BatchRecord
  | [] => ([], [])
  | [r] => ([], [r])
  | r :: n :: rest =>
    if retires keepBehind r n then
      let after := splitRetired keepBehind (n :: rest)
      (r :: after.1, after.2)
    else ([], r :: n :: rest)

/-- The retired horizon after some records have retired: the newest of them (R16, R17). -/
def horizonAfter (horizon : Option BatchNo) (retired : List BatchRecord) : Option BatchNo :=
  match retired.getLast? with
  | some r => some r.batch
  | none => horizon

/-- The keep-behind volume in force: K, and 0 at an END (R15). -/
def Part.keepBehind (s : Part) : Nat :=
  if s.cfg.role = .end_ then 0 else s.cfg.keepBehind

/-! ## Width, uncertainty, arming (R58 to R61) -/

/-- Growth factor of a product; product 0 contributes 0 (R58). -/
def growthOf (c : Config) (p : Product) : Nat := ((c.product? p).map ProductConfig.growth).getD 0

/-- The pair growth of an interface (R58). -/
def pairGrowth (c : Config) (leading trailing : Product) : Nat :=
  max (growthOf c leading) (growthOf c trailing)

/-- The predicted width W at anchoring (R59). -/
def predictedWidth (c : Config) (anchorWidth anchorChainage : Nat) (leading trailing : Product) : Nat :=
  min 1000000 (anchorWidth + (c.chainage - anchorChainage) * pairGrowth c leading trailing / 65536)

/-- The uncertainty U at anchoring, from the D that the anchoring sets (R60). -/
def uncertainty (c : Config) (d : Int) : Nat :=
  min 1000000 (c.u0 + d.toNat * c.drift / 65536)

/-- The arming distance A (R61). -/
def armingDistance (c : Config) (h : HeadInterface) : Nat := h.w / 2 + h.u + c.margin

/-- ARMED at D ≤ A, DISTANT above it (R61). -/
def armedState (c : Config) (h : HeadInterface) : HeadState :=
  if h.d ≤ (armingDistance c h : Int) then .armed else .distant

/-- A head interface's arming evaluated: only DISTANT and ARMED are the tracking engine's (R61). -/
def armHead (c : Config) (h : HeadInterface) : HeadInterface :=
  match h.state with
  | .distant => { h with state := armedState c h }
  | .armed => { h with state := armedState c h }
  | .inMix => h
  | .pastMid => h
  | .cleared => h

/-- Arming evaluated over the train (R61, step 3 of R70). -/
def armTrain (c : Config) (recs : List BatchRecord) : List BatchRecord :=
  recs.map (fun r => { r with head := r.head.map (armHead c) })

/-! ## The ordering clamp (R62 to R64) -/

/-- A head moved by the clamp to a D, with CLAMPED (R64). -/
def clampHead (d : Int) (h : HeadInterface) : HeadInterface := { h with d := d, clamped := true }

/-- An older record lowered to a D it exceeds (R62). -/
def lowerTo (d : Int) (r : BatchRecord) : BatchRecord :=
  { r with head := r.head.map (fun h => if d < h.d then clampHead d h else h) }

/-- A newer record raised to a D it is below (R62). -/
def raiseTo (d : Int) (r : BatchRecord) : BatchRecord :=
  { r with head := r.head.map (fun h => if h.d < d then clampHead d h else h) }

/-- The anchored form of the clamp: the record of batch `b` is fixed with its new D (R62). -/
def anchoredClamp (b : BatchNo) (d : Int) : List BatchRecord → List BatchRecord
  | [] => []
  | r :: rest =>
    if r.batch = b then r :: rest.map (raiseTo d)
    else lowerTo d r :: anchoredClamp b d rest

/-- The D of the oldest head interface in a train. -/
def oldestD (recs : List BatchRecord) : Option Int :=
  (recs.findSome? BatchRecord.head).map HeadInterface.d

/-- The flow form of the clamp, from the newest record to the oldest: a head above the next newer head is
brought down to it (R63). -/
def flowClamp : List BatchRecord → List BatchRecord
  | [] => []
  | r :: rest =>
    let after := flowClamp rest
    match oldestD after with
    | some d => lowerTo d r :: after
    | none => r :: after

/-! ## Moving interfaces (R51, R53, R65) -/

/-- A head's D changed and held (R50). -/
def moveHead (delta : Int) (h : HeadInterface) : HeadInterface := { h with d := holdD (h.d + delta) }

/-- Own flow on one head (R51): arrival for a head not CLEARED, trunk for a CLEARED one, and at an END a
CLEARED head stands. -/
def flowHead (role : Role) (arrival trunk : Nat) (h : HeadInterface) : HeadInterface :=
  if h.state = .cleared then
    (if role = .end_ then h else moveHead (-(trunk : Int)) h)
  else moveHead (-(arrival : Int)) h

/-- Own flow over the train (R51). -/
def ownFlow (role : Role) (arrival trunk : Nat) (recs : List BatchRecord) : List BatchRecord :=
  recs.map (fun r => { r with head := r.head.map (flowHead role arrival trunk) })

/-- Whether a live head lies upstream of a chainage: x = own chainage - D is below it (5.3, R53). -/
def upstreamOf (c : Config) (chainage : Nat) (h : HeadInterface) : Bool :=
  decide (h.state ≠ .cleared) && decide ((c.chainage : Int) - h.d < (chainage : Int))

/-- The delivered delta of a peer below own chainage over the train (R53). -/
def peerDelta (c : Config) (chainage delta : Nat) (recs : List BatchRecord) : List BatchRecord :=
  recs.map (fun r => { r with head := r.head.map (fun h =>
    if upstreamOf c chainage h then moveHead (-(delta : Int)) h else h) })

/-- RESTART_MARK over the train after a rebaseline of a delivering peer (R65). -/
def markRestart (c : Config) (chainage : Nat) (recs : List BatchRecord) : List BatchRecord :=
  recs.map (fun r => { r with head := r.head.map (fun h =>
    if upstreamOf c chainage h then { h with restartMark := true } else h) })

/-- A head re-anchored by a PASSAGE (R55); arming follows the clamp. -/
def reanchorHead (c : Config) (r : BatchRecord) (source chainage trail measuredWidth : Nat)
    (h : HeadInterface) : HeadInterface :=
  let d := holdD ((c.chainage : Int) - (chainage : Int) - (trail : Int))
  { h with
    d := d
    anchorStation := source
    anchorChainage := chainage
    w := predictedWidth c measuredWidth chainage h.leading r.product
    u := uncertainty c d
    restartMark := false }

/-- A head interface as an insertion creates it (R7, R9, R10): DISTANT, every flag clear, every optional
field absent. -/
def newHead (c : Config) (leading product : Product) (d : Int) (anchorWidth source chainage : Nat) :
    HeadInterface :=
  { leading := leading, state := .distant, d := d,
    w := predictedWidth c anchorWidth chainage leading product, u := uncertainty c d,
    anchorStation := source, anchorChainage := chainage, overdue := false, early := false,
    clamped := false, restartMark := false, channel := none, leadRec := none, midRec := none,
    trailRec := none, plan := none, midError := none, measuredWidth := none, degradedMark := none }

/-- A batch record as an insertion creates it (R7, R9, R10). -/
def newRecord (batch : BatchNo) (product : Product) (nominated : Option Nat) (h : HeadInterface) :
    BatchRecord :=
  { batch := batch, product := product, nominated := nominated, status := .approaching,
    head := some h, delivered := 0, orderLink := none }

/-! ## The DEGRADED condition (R66) -/

/-- Whether a peer's silence degrades an interface at position x: SILENT, TERMINAL or END, and
x < C_m < own chainage (R66). -/
def silentBetween (c : Config) (d : Int) (p : PeerEntry) : Bool :=
  p.silent && (match p.role with
    | some role => role.delivers
    | none => false) &&
    decide ((c.chainage : Int) - d < (p.chainage : Int)) && decide (p.chainage < c.chainage)

/-- DEGRADED, derived (R66). -/
def Part.degraded (s : Part) (h : HeadInterface) : Bool :=
  decide (h.state ≠ .cleared) && (h.restartMark || s.peer.table.any (silentBetween s.cfg h.d))

/-- Whether any head interface of the train that is not CLEARED is DEGRADED (R67, R72). -/
def Part.anyDegraded (s : Part) : Bool :=
  s.train.records.any (fun r =>
    match r.head with
    | some h => s.degraded h
    | none => false)

/-- The part with its train changed. -/
def Part.mapTrain (f : List BatchRecord → List BatchRecord) (s : Part) : Part :=
  { s with train := { s.train with records := f s.train.records } }

end Sys2Proof.Machine
end

