-- ==== Sys2Proof/Machine/Bus.lean ====
section
/-! DEFINITION. The line bus controller (chapter 9): the outbound queue with its evictions, the arbiter and the
transmit buffer, the backoff generator, the fields filled at transmit start and the frame's octets, the
checks on a received frame, the watermarks and the peer hold. -/

namespace Sys2Proof.Machine

/-! ## Statistics (R153) -/

/-- The part with its link statistics changed. -/
def Part.modStats (f : LinkStats → LinkStats) (s : Part) : Part :=
  { s with bus := { s.bus with stats := f s.bus.stats } }

/-! ## A sync that fails (R161, R162, R164) -/

/-- The sync ends with SYNC_FAILED and a reason, and the buffer is emptied (R162). The station asked, j, becomes
absent: DESIGN CHOICE (log entry 53). -/
def Part.failSync (reason : SyncFailure) (s : Part) : Part :=
  let r := s.raise .syncFailed
  { r with peer :=
      { r.peer with
        phase := .idle, syncStation := none, partialTotal := none, buffer := [],
        lastOutcome := .failed reason } }

/-- A notice has been dropped, evicted or discarded; if it is a TRAIN REQUEST, the peer monitor is told,
and the sync that waits for it ends with NOT_SENT (R142, R148, R161). -/
def Part.reportDiscarded (n : Notice) (s : Part) : Part :=
  match n, s.peer.phase with
  | .trainRequest _ _, .waitingSent => s.failSync .notSent
  | _, _ => s

/-! ## The arbiter (R144) -/

/-- Whether a queued notice is of a class. -/
def Queued.ofClass (c : Nat) (q : Queued) : Bool := decide (q.notice.cls = c)

/-- The oldest queued notice of the highest class that may be chosen: class 1 always, classes 2 and 3 only
while no peer hold is in force (R144). -/
def choose (held : Bool) (q : List Queued) : Option Queued :=
  match q.find? (Queued.ofClass 1) with
  | some n => some n
  | none =>
    if held then none
    else
      match q.find? (Queued.ofClass 2) with
      | some n => some n
      | none => q.find? (Queued.ofClass 3)

/-- The arbiter's choice: into the empty buffer, with n = 0, waiting for the gap from now (R144, R145). -/
def Part.arbitrate (s : Part) : Part :=
  match s.bus.buffer with
  | some _ => s
  | none =>
    match choose s.bus.peerHold.isSome s.bus.outbound with
    | none => s
    | some q =>
      { s with bus :=
          { s.bus with
            outbound := s.bus.outbound.eraseP (Queued.ofClass q.notice.cls)
            buffer := some { notice := q.notice, collisions := 0, phase := .waiting s.now } } }

/-! ## The outbound queue (R141, R142) -/

/-- The queue with a new STATUS in the place of the queued one; its age stays (R141). -/
def replaceStatus (n : Notice) (q : List Queued) : List Queued :=
  q.map (fun e => if e.ofClass 3 then { e with notice := n } else e)

/-- The newest queued notice of a class. -/
def newestOfClass (c : Nat) (q : List Queued) : Option Queued := q.reverse.find? (Queued.ofClass c)

/-- The queue without its newest notice of a class. -/
def evictNewest (c : Nat) (q : List Queued) : List Queued :=
  (q.reverse.eraseP (Queued.ofClass c)).reverse

/-- The class a full queue gives up a notice of, for a new notice of class `c` (R142): class 3 first, then,
for a class 1 notice, class 2. -/
def victimClass (c : Nat) (q : List Queued) : Option Nat :=
  if c < 3 ∧ q.any (Queued.ofClass 3) then some 3
  else if c < 2 ∧ q.any (Queued.ofClass 2) then some 2
  else none

/-- A notice joins as the newest of its class, and the arbiter chooses (R141, R144). -/
def Part.joinOutbound (n : Notice) (s : Part) : Part :=
  Part.arbitrate
    { s with bus := { s.bus with outbound := s.bus.outbound ++ [{ notice := n, joined := s.now }] } }

/-- The newest notice of a class is evicted (R142). -/
def Part.evict (c : Nat) (s : Part) : Part :=
  match newestOfClass c s.bus.outbound with
  | none => s
  | some q =>
    let t := s.modStats (fun st => { st with evicted := hold16 (st.evicted + 1) })
    Part.reportDiscarded q.notice
      { t with bus := { t.bus with outbound := evictNewest c t.bus.outbound } }

/-- A notice is handed to the outbound queue, by the first case of R141 that applies, and by R142 when
the queue is full. -/
def Part.enqueue (n : Notice) (s : Part) : Part :=
  if n.cls = 3 ∧ s.bus.outbound.any (Queued.ofClass 3) then
    { s with bus := { s.bus with outbound := replaceStatus n s.bus.outbound } }
  else if s.bus.outbound.length < maxOutbound then s.joinOutbound n
  else
    match victimClass n.cls s.bus.outbound with
    | some c => (s.evict c).joinOutbound n
    | none => (s.raise .outboundOverflow).reportDiscarded n

/-- The room test of R143 for a report of `segments` segments. -/
def Part.roomFor (segments : Nat) (s : Part) : Bool :=
  decide (segments ≤ maxOutbound - s.bus.outbound.length)

/-! ## Fields filled at transmit start (R146) and the frame (12.2) -/

/-- The three stage methods in one octet (12.2). -/
def methodsOctet (lead mid trail : Method) : Nat :=
  methodCode lead + 4 * methodCode mid + 16 * methodCode trail

/-- A TRAIN REPORT entry of 21 octets (12.2). -/
def putEntry (e : ReportEntry) : List Octet :=
  be2 e.batch.toNat ++ be1 e.product.val ++ be1 e.leading.val ++ sbe4 e.d ++ be4 e.w ++ be4 e.u ++
    be4 e.nominated ++ be1 (entryStateCode e.state)

/-- The entry filled for a batch of the snapshot (R160): from its record as it stands, or vacant. -/
def Part.reportEntry (s : Part) (b : BatchNo) : ReportEntry :=
  let vacant : ReportEntry :=
    { batch := b, product := 0, leading := 0, d := 0, w := 0, u := 0, nominated := 0, state := .gone }
  match findBatch b s.train.records with
  | none => vacant
  | some r =>
    match r.head with
    | none => vacant
    | some h =>
      { batch := b, product := r.product, leading := h.leading, d := h.d, w := h.w, u := h.u,
        nominated := r.nominated.getD 0, state := .head h.state }

/-- The arrival flow rate (R45): floor(S × 3,600 / (n × p)), held at 4,294,967,295; 0 for an empty
window. -/
def Part.flowRate (s : Part) : Nat :=
  hold32 (s.vol.flowWindow.sum * 3600 / (s.vol.flowWindow.length * s.cfg.samplePeriod))

/-- The flags octet of a STATUS (12.2, R146). -/
def Part.statusFlags (s : Part) : List Octet :=
  flags [s.inst.densityReady, s.inst.markerReady, s.anyDegraded, s.bus.holdSent, s.atMeter.isSome]

/-- The trail of a LAUNCH or PASSAGE: trunk counter less stamp, modulo 2^32 (R146). -/
def Part.trail (s : Part) (stamp : Counter) : Counter := s.vol.trunkCounter - stamp

/-- The payload of a notice with its time-dependent fields filled (R146, 12.2). -/
def Part.payload (s : Part) : Notice → List Octet
  | .launch batch product leadBatch leadProduct nominated w0 stamp =>
    be2 batch.toNat ++ be1 product.val ++ be2 leadBatch.toNat ++ be1 leadProduct.val ++ be4 nominated ++
      be4 w0 ++ be4 (s.trail stamp).toNat
  | .passage batch trailing leading width lead mid trail forced late degraded stamp =>
    be2 batch.toNat ++ be1 trailing.val ++ be1 leading.val ++
      be4 (if s.cfg.role = .end_ then 0 else (s.trail stamp).toNat) ++ be4 width ++
      be1 (methodsOctet lead mid trail) ++ flags [forced, late, degraded]
  | .hold slots => be2 slots
  | .trainRequest _ tag => be2 tag.toNat
  | .report _ first last keyStation keyTag total batches =>
    flags [first, last] ++ be1 keyStation ++ be2 keyTag.toNat ++ be1 total ++ be1 batches.length ++
      batches.flatMap (fun b => putEntry (s.reportEntry b))
  | .status role startCount interval =>
    be1 (roleCode role) ++ be2 startCount.toNat ++ be1 interval ++ be4 s.vol.deliveredCounter.toNat ++
      be4 s.flowRate ++ be2 ((s.atMeter.map (fun r => r.batch.toNat)).getD 0) ++ s.statusFlags

/-- A line frame: header, payload, check word (12.2). -/
def lineFrame (kind source dest chainage : Nat) (payload : List Octet) : List Octet :=
  withCheck (be1 kind ++ be1 source ++ be1 dest ++ be4 chainage ++ be1 payload.length ++ payload)

/-- The frame of a notice as it begins on the medium (R140, R146). -/
def Part.frameOf (s : Part) (n : Notice) : List Octet :=
  lineFrame n.kind s.cfg.station n.dest s.cfg.chainage (s.payload n)

/-! ## Backoff (R147) -/

/-- One draw of the generator: the next g, and r = floor(g / 4,096) (R147). -/
def draw (g : BitVec 16) : BitVec 16 × Nat :=
  let g' := g * 25173 + 13849
  (g', g'.toNat / 4096)

/-- The generator's seed (R147). -/
def seed (station : Nat) (startCount : BitVec 16) : BitVec 16 :=
  BitVec.ofNat 16 (station * 256 + startCount.toNat % 256)

/-! ## Receiving (R149) -/

/-- A TRAIN REPORT entry read from its 21 octets; none where it is malformed (R149, R177). A vacant entry
carries products of 0; any other entry names a product from 1 to 15. -/
def readEntry (o : List Octet) : Option ReportEntry :=
  match entryStateOf? (field o 20 1), productOf? (field o 2 1), productOf? (field o 3 1) with
  | some st, some product, some leading =>
    if st ≠ .gone ∧ product = 0 then none
    else some
      { batch := BitVec.ofNat 16 (field o 0 2), product := product, leading := leading,
        d := signed4 (field o 4 4), w := field o 8 4, u := field o 12 4, nominated := field o 16 4,
        state := st }
  | _, _, _ => none

/-- `n` entries read one after another. -/
def readEntries : Nat → List Octet → Option (List ReportEntry)
  | 0, _ => some []
  | n + 1, o =>
    match readEntry (o.take 21), readEntries n (o.drop 21) with
    | some e, some es => some (e :: es)
    | _, _ => none

/-- What a payload carries, by kind, or none where the notice is malformed by its length or contents
(R149, R177, 12.2). -/
def readBody (kind : Nat) (p : List Octet) : Option Body :=
  match kind with
  | 1 =>
    match realProductOf? (field p 2 1), productOf? (field p 5 1) with
    | some product, some leadProduct =>
      if p.length = 18 then
        some (.launch (BitVec.ofNat 16 (field p 0 2)) product (BitVec.ofNat 16 (field p 3 2)) leadProduct
          (field p 6 4) (field p 10 4) (field p 14 4))
      else none
    | _, _ => none
  | 2 =>
    match realProductOf? (field p 2 1), productOf? (field p 3 1) with
    | some trailing, some leading =>
      if p.length = 14 then
        some (.passage (BitVec.ofNat 16 (field p 0 2)) trailing leading (field p 4 4) (field p 8 4)
          (methodOf (field p 12 1)) (methodOf (field p 12 1 / 4)) (methodOf (field p 12 1 / 16))
          ((field p 13 1).testBit 0) ((field p 13 1).testBit 1) ((field p 13 1).testBit 2))
      else none
    | _, _ => none
  | 3 => if p.length = 2 then some (.hold (field p 0 2)) else none
  | 4 => if p.length = 2 then some (.trainRequest (BitVec.ofNat 16 (field p 0 2))) else none
  | 5 =>
    if 6 ≤ p.length ∧ field p 5 1 ≤ 3 ∧ p.length = 6 + 21 * field p 5 1 then
      match readEntries (field p 5 1) (p.drop 6) with
      | some entries =>
        some (.report ((field p 0 1).testBit 0) ((field p 0 1).testBit 1) (field p 1 1)
          (BitVec.ofNat 16 (field p 2 2)) (field p 4 1) entries)
      | none => none
    else none
  | 6 =>
    match roleOf? (field p 0 1) with
    | some role =>
      if p.length = 15 then
        let bits := field p 14 1
        some (.status role (BitVec.ofNat 16 (field p 1 2)) (field p 3 1)
          (BitVec.ofNat 32 (field p 4 4)) (field p 8 4)
          (if bits.testBit 4 then some (BitVec.ofNat 16 (field p 12 2)) else none)
          { densityReady := bits.testBit 0, markerReady := bits.testBit 1,
            anyDegraded := bits.testBit 2, holdSent := bits.testBit 3 })
      else none
    | none => none
  | _ => none

/-- Whether a kind goes to all stations (R140): every kind but TRAIN REQUEST and TRAIN REPORT. -/
def broadcast (kind : Nat) : Bool := decide (kind ≠ 4) && decide (kind ≠ 5)

/-- The notice of a frame whose check word is good, or none where it is malformed (R149). -/
def readNotice (frame : List Octet) : Option Received :=
  let kind := field frame 0 1
  let source := field frame 1 1
  let dest := field frame 2 1
  let chainage := field frame 3 4
  let payload := (frame.drop 8).take (frame.length - 10)
  if 1 ≤ source ∧ source ≤ 48 ∧ chainage ≤ maxDal ∧ field frame 7 1 = payload.length ∧
      (broadcast kind = true ↔ dest = 0) then
    (readBody kind payload).map (fun body => { source := source, chainage := chainage, body := body })
  else none

/-- What becomes of a frame heard on the medium (R149). -/
inductive Heard where
  | badCheck
  | duplicateStation
  | filtered
  | malformed
  | accepted (n : Received)
  deriving DecidableEq, Repr

/-- The checks of R149 on a frame, in order, before the room in the inbound queue is looked at. A source
number that no bit of the listening mask stands for is left to the malformed check (log entry 14). -/
def judgeFrame (c : Config) (frame : List Octet) : Heard :=
  let source := field frame 1 1
  let dest := field frame 2 1
  if frame.length < 10 || !checkGood frame then .badCheck
  else if source = c.station then .duplicateStation
  else if (dest ≠ 0 ∧ dest ≠ c.station) ∨ (1 ≤ source ∧ source ≤ 48 ∧ c.listens source = false) then
    .filtered
  else
    match readNotice frame with
    | none => .malformed
    | some n => .accepted n

/-! ## The inbound queue and its watermarks (R150, R151) -/

/-- The watermarks looked at after a change of the inbound count (R151). -/
def Part.checkWatermarks (s : Part) : Part :=
  let count := s.bus.inbound.length
  if s.bus.holdSent then
    (if count ≤ s.cfg.lowWater then
      Part.enqueue (.hold 0) { s with bus := { s.bus with holdSent := false } }
    else s)
  else
    (if s.cfg.highWater ≤ count then
      Part.enqueue (.hold s.cfg.holdTime) { s with bus := { s.bus with holdSent := true } }
    else s)

/-- An accepted notice joins the inbound queue (R150). -/
def Part.joinInbound (n : Received) (s : Part) : Part :=
  Part.checkWatermarks { s with bus := { s.bus with inbound := s.bus.inbound ++ [n] } }

/-- The oldest notice leaves the inbound queue (R150). -/
def Part.leaveInbound (s : Part) : Part :=
  Part.checkWatermarks { s with bus := { s.bus with inbound := s.bus.inbound.tail } }

/-! ## The peer hold (R152) -/

/-- The peer hold ends, and the arbiter chooses again (R152). -/
def Part.endHold (s : Part) : Part :=
  Part.arbitrate { s with bus := { s.bus with peerHold := none } }

/-- A HOLD from a source, with hold time `slots` (R152). -/
def Part.takeHold (source slots : Nat) (s : Part) : Part :=
  if slots = 0 then
    match s.bus.peerHold with
    | some h => if h.holder = source then s.endHold else s
    | none => s
  else
    let expiry := s.now + min slots 4000 * bitsPerSlot
    let later : Bool :=
      match s.bus.peerHold with
      | none => true
      | some h => decide (h.expiry < expiry)
    if later then
      { s with bus := { s.bus with peerHold := some { expiry := expiry, holder := source } } }
    else s

end Sys2Proof.Machine
end

