-- ==== Sys2Proof/Machine/Launch.lean ====
section
/-! DEFINITION. A decided launch cut taking effect at the ORIGIN (R111, R12), and the start of a route change
that brings it about (R117). -/

namespace Sys2Proof.Machine

/-- The head interface of a batch launched at this ORIGIN (R12). -/
def launchHead (c : Config) (leading : Product) : HeadInterface :=
  { leading := leading, state := .cleared, d := 0, w := c.launchWidth, u := c.u0,
    anchorStation := c.station, anchorChainage := 0, overdue := false, early := false, clamped := false,
    restartMark := false, channel := none, leadRec := none, midRec := none, trailRec := none,
    plan := none, midError := none, measuredWidth := none, degradedMark := none }

/-- The retirement test (R15) at the ORIGIN, where no order can be linked to a record (R97). -/
def Part.retirePlain (s : Part) : Part :=
  let split := splitRetired s.keepBehind s.train.records
  { s with train := { records := split.2, horizon := horizonAfter s.train.horizon split.1 } }

/-- The train store's share of a launch cut (R12, R13, R14): a known batch is left as it is, a batch that
fails R6 changes nothing, and a full train sets TRAIN_FULL. -/
def Part.launchRecord (e : LaunchEntry) (leading : Product) (s : Part) : Part :=
  if knownBatch e.batch s.train.records then s
  else if !admitted s.train e.batch then s
  else if maxTrain ≤ s.train.records.length then s.raise .trainFull
  else
    let r := newRecord e.batch e.product (some e.nominated) (launchHead s.cfg leading)
    Part.retirePlain
      (s.mapTrain (fun recs => makePresent e.batch (anchoredClamp e.batch 0 (insertRecord r recs))))

/-- The cut takes effect (R111): the LAUNCH record, the LAUNCH notice, the train's record, and the
incoming batch current. The test of step 5 is made of a current batch with launched volume 0 and a
nominated volume of at least 1 dal (R108), whose volume condition does not hold: it decides nothing. -/
def Part.launchEffect (e : LaunchEntry) (s : Part) : Part :=
  let launched := (s.planner.current.map CurrentBatch.launched).getD 0
  let leadBatch := (s.planner.current.map CurrentBatch.batch).getD (e.batch - 1)
  let leading := (s.planner.current.map CurrentBatch.product).getD 0
  let recorded := s.writeRecord (.launch e.batch e.product launched e.outlet)
  let noticed := recorded.enqueue
    (.launch e.batch e.product leadBatch leading e.nominated s.cfg.launchWidth s.vol.trunkCounter)
  let stored := noticed.launchRecord e leading
  { stored with planner :=
      { stored.planner with
        current := some { batch := e.batch, product := e.product, nominated := some e.nominated,
                          source := some e.outlet, launched := 0 }
        incoming := none
        emptyShown := false } }

/-- The outlet controller reports the start of a change toward an outlet; a launch cut that waits for that
source outlet takes effect (R117, R111). -/
def Part.reportStart (o : Outlet) (s : Part) : Part :=
  match s.planner.incoming with
  | some e => if e.outlet = o then s.launchEffect e else s
  | none => s

end Sys2Proof.Machine
end

