-- ==== Sys2Proof/Machine/Outlet.lean ====
section
/-! DEFINITION. The outlet controller (chapter 7): the route target, make-before-break changes, confirmations,
the pending target, timeouts, uncommanded movement, the conflict hold with its clearing change, the route
learned at START and the route followed in OBSERVE. -/

namespace Sys2Proof.Machine

/-- The part with its outlet controller changed. -/
def Part.modOutlet (f : OutletController → OutletController) (s : Part) : Part :=
  { s with outlet := f s.outlet }

/-- One outlet's command state set (R115). -/
def Part.command (o : Outlet) (c : CommandState) (s : Part) : Part :=
  s.modOutlet (fun k => { k with outlets := k.outlets.set o { k.outlets[o] with command := c } })

/-- One outlet's last fault set, with VALVE_FAULT (R120, R121, R122, R124). -/
def Part.faultOutlet (o : Outlet) (f : OutletFault) (s : Part) : Part :=
  (s.modOutlet (fun k =>
    { k with outlets := k.outlets.set o { k.outlets[o] with lastFault := f } })).raise .valveFault

/-- One outlet's STUCK_OPEN mark set or cleared (R121). -/
def Part.markStuck (o : Outlet) (b : Bool) (s : Part) : Part :=
  s.modOutlet (fun k => { k with outlets := k.outlets.set o { k.outlets[o] with stuckOpen := b } })

/-- The travel timer's expiry for a command given now (R117). -/
def Part.travelExpiry (s : Part) : Nat := s.now + s.cfg.travelTimeout * bitsPerSecond

/-- The outlets a clearing change closes: every fitted outlet but the target whose closed level is not
active (R124). -/
def Part.toClear (target : Route) (s : Part) : List Outlet :=
  allOutlets.filter (fun o =>
    decide (Route.outlet o ≠ target) && s.cfg.fitted o && !s.closedLevel o)

/-- The change in flight ends with a current route; no pending target is looked at here. A change that
completes at an outlet takes STUCK_OPEN from it (R118, R121). -/
def Part.finish (route : CurrentRoute) (s : Part) : Part :=
  s.modOutlet (fun k => { k with change := none, current := route })

/-- The change completes: the current route is its target, and an outlet named as the target loses
STUCK_OPEN (R118, R121). -/
def Part.completeAt (target : Route) (s : Part) : Part :=
  match target with
  | .outlet o => (s.markStuck o false).finish (.known target)
  | .closed => s.finish (.known target)

/-- The change in flight set, with a fresh travel expiry (R117). -/
def Part.inFlight (source : CurrentRoute) (target : Route) (phase : ChangePhase) (s : Part) : Part :=
  s.modOutlet (fun k =>
    { k with change := some { source := source, target := target, phase := phase, expiry := s.travelExpiry } })

/-- An outlet is commanded closed toward a target (R115, R117, R118): confirmed at once when its closed
level is active, and the change completes. -/
def Part.closeFor (o : Outlet) (source : CurrentRoute) (target : Route) (s : Part) : Part :=
  if s.closedLevel o then s.completeAt target
  else (s.command o .closing).inFlight source target .closing

/-- The clearing step of a change out of UNKNOWN (R124): every outlet to clear is commanded closed
together; with none to close the change completes. -/
def Part.clearFor (target : Route) (s : Part) : Part :=
  match s.toClear target with
  | [] => s.completeAt target
  | os => (os.foldl (fun t o => t.command o .closing) s).inFlight .unknown target .clearing

/-- What follows an open confirmation (R118, R124), by the source of the change. -/
def Part.openConfirmed (source : CurrentRoute) (target : Route) (s : Part) : Part :=
  match source with
  | .known (.outlet a) => s.closeFor a source target
  | .known .closed => s.completeAt target
  | .unknown => s.clearFor target

/-- A change starts from the current route toward a target, with no other change in flight (R117, R124):
an outlet is commanded open and the start reported, or the source is commanded closed, or the outlets to
clear are. Levels that are already active confirm at once (R115). -/
def Part.beginChange (target : Route) (s : Part) : Part :=
  let source := s.outlet.current
  let ready := s.modOutlet (fun k => { k with pending := none })
  match target with
  | .outlet b =>
    let opened := ((ready.command b .opening).inFlight source target .opening).reportStart b
    if opened.openLevel b then (opened.command b .idle).openConfirmed source target
    else opened
  | .closed =>
    match source with
    | .known (.outlet a) => ready.closeFor a source target
    | .known .closed => ready
    | .unknown => ready.clearFor target

/-- A change ends with a current route, and the pending target is applied (R119). -/
def Part.applyPending (s : Part) : Part :=
  match s.outlet.pending with
  | none => s
  | some p =>
    let cleared := s.modOutlet (fun k => { k with pending := none })
    if CurrentRoute.known p = s.outlet.current then cleared else cleared.beginChange p

/-! ## The route target (R116) -/

/-- The target of R116: the route of the lowest-numbered made channel of the override, otherwise the
planned route as last handed. -/
def OutletController.wantedTarget (k : OutletController) : Option Route :=
  match k.override with
  | [] => k.planned
  | (_, r) :: _ => some r

/-- The target recomputed, and acted on when its value has changed (R116, R117, R119, R124, R125). -/
def Part.retarget (s : Part) : Part :=
  match s.outlet.wantedTarget with
  | none => s.modOutlet (fun k => { k with target := none })
  | some t =>
    let changed := decide (s.outlet.target ≠ some t)
    let set := s.modOutlet (fun k => { k with target := some t })
    match s.outlet.mode with
    | some .operate =>
      if s.outlet.conflictHold then set
      else
        match s.outlet.change with
        | some c =>
          if t = c.target then
            let calm := set.modOutlet (fun k => { k with pending := none })
            match t with
            | .outlet o => calm.reportStart o
            | .closed => calm
          else if changed then set.modOutlet (fun k => { k with pending := some t })
          else set
        | none =>
          if changed && decide (s.outlet.current ≠ .known t) then set.beginChange t else set
    | _ => set.modOutlet (fun k => { k with wanted := some t })

/-- A planned route is handed (R107, R116). -/
def Part.handRoute (r : Route) (s : Part) : Part :=
  Part.retarget (s.modOutlet (fun k => { k with planned := some r }))

/-- A channel's place in the override, in channel order (R116). -/
def joinOverride (c : ChannelNo) (r : Route) (o : List (ChannelNo × Route)) : List (ChannelNo × Route) :=
  o.filter (fun e => decide (e.1 < c)) ++ (c, r) :: o.filter (fun e => decide (c < e.1))

/-- A channel with a route action has made: it joins the override (R116). -/
def Part.overrideMade (c : ChannelNo) (r : Route) (s : Part) : Part :=
  Part.retarget (s.modOutlet (fun k => { k with override := joinOverride c r k.override }))

/-- Such a channel has broken or been released: it leaves the override (R116). -/
def Part.overrideGone (c : ChannelNo) (s : Part) : Part :=
  Part.retarget (s.modOutlet (fun k =>
    { k with override := k.override.filter (fun e => decide (e.1 ≠ c)) }))

/-! ## The conflict hold (R124) -/

/-- An event of R124's list: a hold that has been reported ends, with a clearing change toward the target
as it stands. -/
def Part.holdEvent (s : Part) : Part :=
  if s.outlet.conflictHold && s.outlet.reported then
    let ended := s.modOutlet (fun k => { k with conflictHold := false, reported := false })
    match s.outlet.target with
    | some t => ended.beginChange t
    | none => ended
  else s

/-- A READ STATUS response has carried ROUTE_CONFLICT: the hold is reported, and it ends there if a decided
launch cut waits (R124, R174). With no hold *reported* stays as it is: DEDUCED, R124 and R174 call it an indication of
the hold (log entry 66). -/
def Part.reportConflict (s : Part) : Part :=
  if s.outlet.conflictHold then
    let shown := s.modOutlet (fun k => { k with reported := true })
    if s.planner.incoming.isSome then shown.holdEvent else shown
  else s

/-! ## Limit events (R31, R118, R121, R122) -/

/-- Whether the change in flight awaits this outlet's open level (R118). -/
def OutletController.awaitsOpen (k : OutletController) (o : Outlet) : Bool :=
  match k.change with
  | some c => decide (c.phase = .opening) && decide (c.target = .outlet o)
  | none => false

/-- Whether the change in flight awaits this outlet's closed level (R118, R124). -/
def OutletController.awaitsClosed (k : OutletController) (o : Outlet) : Bool :=
  match k.change with
  | some c => decide (c.phase ≠ .opening) && decide (k.outlets[o].command = .closing)
  | none => false

/-- The open confirmation (R118). -/
def Part.confirmOpen (o : Outlet) (s : Part) : Part :=
  match s.outlet.change with
  | some c =>
    let done := (s.command o .idle).openConfirmed c.source c.target
    if done.outlet.change.isNone then done.applyPending else done
  | none => s

/-- A close confirmation (R118); a clearing change completes with the last of them (R124). -/
def Part.confirmClosed (o : Outlet) (s : Part) : Part :=
  match s.outlet.change with
  | some c =>
    let idle := s.command o .idle
    if allOutlets.any (fun e => decide (idle.outlet.outlets[e].command = .closing)) then idle
    else (idle.completeAt c.target).applyPending
  | none => s

/-- Whether a limit event is uncommanded (R122). An IDLE outlet of the change in flight is judged by R122 too:
the source that loses its open level while the target opens, and the target that regains its own while the
source closes. DEDUCED: R118 leaves out the events of an outlet's travel, and an IDLE outlet is not commanded
to travel (log entry 48). -/
def Part.uncommanded (o : Outlet) (input : LimitInput) (active : Bool) (s : Part) : Bool :=
  let k := s.outlet
  let idle := decide (k.outlets[o].command = .idle)
  let isRoute := decide (k.current = .known (.outlet o))
  match input, active with
  | .open_, true => idle && !isRoute && !k.outlets[o].stuckOpen
  | .open_, false => idle && isRoute
  | .closed, _ => false

/-- A taken limit level change reaches the outlet controller (R118, R121, R122). In OBSERVE it moves
nothing (R125). -/
def Part.limitEvent (o : Outlet) (input : LimitInput) (active : Bool) (s : Part) : Part :=
  match s.outlet.mode with
  | some .operate =>
    let unstuck :=
      match input, active with
      | .closed, true => s.markStuck o false
      | _, _ => s
    match input, active with
    | .open_, true =>
      if s.outlet.awaitsOpen o then s.confirmOpen o
      else if s.uncommanded o input active then s.faultOutlet o .uncommanded
      else s
    | .open_, false =>
      if s.uncommanded o input active then s.faultOutlet o .uncommanded else s
    | .closed, true =>
      if unstuck.outlet.awaitsClosed o then unstuck.confirmClosed o else unstuck
    | .closed, false => s
  | _ => s

/-! ## Travel timeouts (R120, R121, R124) -/

/-- A closing outlet whose travel timed out: IDLE, STUCK_OPEN, CLOSE_TIMEOUT, VALVE_FAULT (R121). -/
def Part.closeFailed (o : Outlet) (s : Part) : Part :=
  ((s.command o .idle).markStuck o true).faultOutlet o .closeTimeout

/-- The travel timer expires (R120, R121, R124). With no change in flight the timer is stopped and its
expiry has no effect (R120). -/
def Part.travelExpired (s : Part) : Part :=
  match s.outlet.change with
  | none => s
  | some c =>
    match c.phase with
    | .opening =>
      match c.target with
      | .outlet b =>
        (((s.command b .idle).faultOutlet b .openTimeout).finish c.source).applyPending
      | .closed => (s.finish c.source).applyPending
    | _ =>
      let closing := allOutlets.filter (fun o => decide (s.outlet.outlets[o].command = .closing))
      ((closing.foldl (fun t o => t.closeFailed o) s).finish (.known c.target)).applyPending

/-! ## The route learned at START, and followed in OBSERVE (R123, R125) -/

/-- The outlets counted open: open level active, whatever the closed level (R30). -/
def Part.openOutlets (s : Part) : List Outlet := allOutlets.filter (fun o => s.openLevel o)

/-- The route that the open outlets show (R123, R125). -/
def routeShown : List Outlet → CurrentRoute
  | [] => .known .closed
  | [o] => .known (.outlet o)
  | _ :: _ :: _ => .unknown

/-- The route is learned at START (R123). -/
def Part.learnRoute (m : Mode) (s : Part) : Part :=
  let opened := s.openOutlets
  let several := decide (1 < opened.length)
  let noneOpen := opened.isEmpty
  let conflict := several ||
    (noneOpen && (decide (s.cfg.role = .end_) || decide (s.cfg.role = .origin)))
  (s.modOutlet (fun k =>
    { k with
      mode := some m
      current := routeShown opened
      change := none
      pending := none
      outlets := Vector.replicate 7 OutletState.afterReset
      conflictHold := several && decide (m = .operate)
      reported := false })).raiseIf conflict .routeConflict

/-- OBSERVE follows the limit levels of a sample event (R125). -/
def Part.followRoute (s : Part) : Part :=
  match s.outlet.mode with
  | some .observe => s.modOutlet (fun k => { k with current := routeShown s.openOutlets })
  | _ => s

/-! ## Command lines (R115) -/

/-- The open command line of an outlet. -/
def Part.openLine (s : Part) (o : Outlet) : Bool := decide (s.outlet.outlets[o].command = .opening)

/-- The close command line of an outlet. -/
def Part.closeLine (s : Part) (o : Outlet) : Bool := decide (s.outlet.outlets[o].command = .closing)

end Sys2Proof.Machine
end

