-- ==== Sys2Proof/Machine/Planner.lean ====
section
/-! DEFINITION. The cut planner (chapter 6): the cut plan and its defaults, the end and the late start of a
delivery order, the planned route, retirement with the orders it ends, and the launch cuts of the
ORIGIN. -/

namespace Sys2Proof.Machine

/-! ## Looking up orders -/

/-- The order for a batch, if the queue holds one (R96). -/
def orderFor (b : BatchNo) (orders : List Order) : Option Order :=
  orders.find? (fun o => decide (o.batch = b))

/-- The order with a number. -/
def orderNumbered (n : Nat) (orders : List Order) : Option Order :=
  orders.find? (fun o => decide (o.number = n))

/-- The queue with an order in its serial place (R97). -/
def insertOrder (o : Order) (orders : List Order) : List Order :=
  orders.takeWhile (fun e => serialBefore e.batch o.batch) ++
    o :: orders.dropWhile (fun e => serialBefore e.batch o.batch)

/-- The order numbers that follow `n`, in turn, from 255 to 1 (R97). -/
def numbersAfter (n : Nat) : List Nat := (List.range 255).map (fun k => (n + k) % 255 + 1)

/-- The next order number after `n`: the first in turn that no order in the queue holds (R97). -/
def nextNumber (n : Nat) (orders : List Order) : Nat :=
  ((numbersAfter n).find? (fun k => (orderNumbered k orders).isNone)).getD 1

/-- The batch of the record just older than a batch's record: batch k of 6.3. -/
def aheadOf (b : BatchNo) : List BatchRecord → Option BatchNo
  | [] => none
  | [_] => none
  | r :: n :: rest => if n.batch = b then some r.batch else aheadOf b (n :: rest)

/-- The part with its cut planner changed. -/
def Part.modPlanner (f : Planner → Planner) (s : Part) : Part :=
  { s with planner := f s.planner }

/-! ## The planned route (R107) -/

/-- The planned route set; it is not handed yet. -/
def Part.setPlanned (r : Route) (s : Part) : Part :=
  s.modPlanner (fun p => { p with planned := some r })

/-- The planned route handed when it differs from the one last handed (R107). -/
def Part.handPlanned (s : Part) : Part :=
  match s.planner.planned with
  | none => s
  | some r => if s.outlet.planned = some r then s else s.handRoute r

/-- The planned route that START sets, from the route learned (R107). -/
def startRoute (role : Role) (learned : CurrentRoute) : Route :=
  match role, learned with
  | .relay, _ => .closed
  | _, .known (.outlet o) => .outlet o
  | .end_, _ => .outlet transmix
  | _, _ => .closed

/-! ## The cut plan (R101, R102) -/

/-- The mix default and the clean default of a role: the same route (R102). -/
def defaultRoute (role : Role) : Route :=
  match role with
  | .end_ => .outlet transmix
  | .origin => .closed
  | .relay => .closed
  | .terminal => .closed

/-- A segment that no order claims (R101). -/
def defaultSegment (role : Role) : Segment := { route := defaultRoute role, owner := none }

/-- A segment that an order claims (R101). -/
def Order.segment (o : Order) : Segment := { route := .outlet o.outlet, owner := some o.number }

/-- An order whose policy is one of some takes a segment (R101). -/
def claims (o : Option Order) (policy : Order → Policy) (accepted : List Policy) : Option Segment :=
  match o with
  | some x => if accepted.contains (policy x) then some x.segment else none
  | none => none

/-- The four segments, unfrozen: S0 from the FILLING order, the others from Ok and Ok1 (R101). -/
def planFrom (role : Role) (filling ok ok1 : Option Order) : CutPlan :=
  let otherwise := defaultSegment role
  { s0 := (filling.map Order.segment).getD otherwise
    s1 := ((claims ok Order.tailPolicy [.withMix, .atMid]).or
      (claims ok1 Order.headPolicy [.withMix])).getD otherwise
    s2 := ((claims ok1 Order.headPolicy [.withMix, .atMid]).or
      (claims ok Order.tailPolicy [.withMix])).getD otherwise
    s3 := (ok1.map Order.segment).getD otherwise
    frozen := false }

/-- The plan of the interface at the head of batch `b`, with the orders as they stand (R101). -/
def Part.freshPlan (s : Part) (b : BatchNo) : CutPlan :=
  let ok :=
    match aheadOf b s.train.records with
    | some k => (orderFor k s.planner.orders).filter Order.filling
    | none => none
  planFrom s.cfg.role s.fillingOrder ok (orderFor b s.planner.orders)

/-- The cut plan of the window interface. -/
def Part.windowPlan (s : Part) : Option CutPlan := s.windowHead.bind (fun w => w.2.plan)

/-- The window interface's cut plan set. -/
def Part.setPlan (p : Option CutPlan) (s : Part) : Part :=
  match s.det.window with
  | some b => s.modHead b (fun h => { h with plan := p })
  | none => s

/-- The planned route takes a segment; a clean segment that no order owns sets UNPLANNED_BATCH at an END
(R102). -/
def Part.takeRoute (clean : Bool) (seg : Segment) (s : Part) : Part :=
  (s.setPlanned seg.route).raiseIf (clean && seg.owner.isNone && decide (s.cfg.role = .end_))
    .unplannedBatch

/-- The plan recomputed while it is not frozen; with the window DISTANT or ARMED the planned route becomes
the new S0 (R102). Equal segments change nothing. -/
def Part.recompute (s : Part) : Part :=
  match s.windowHead with
  | none => s
  | some (r, h) =>
    match h.plan with
    | none => s
    | some p =>
      if p.frozen then s
      else
        let q := s.freshPlan r.batch
        if q = p then s
        else
          let t := s.setPlan (some q)
          if h.state = .distant ∨ h.state = .armed then t.takeRoute (decide (q.s0 ≠ p.s0)) q.s0 else t

/-- The plan asked for at a window entry: computed unfrozen, and the planned route becomes S0 (R102). A
RELAY and an ORIGIN have none (R74, R73). -/
def Part.enterPlan (s : Part) : Part :=
  match s.det.window with
  | some b =>
    if s.cfg.role.delivers then
      let q := s.freshPlan b
      (s.setPlan (some q)).takeRoute true q.s0
    else s
  | none => s

/-! ## The end of an order (R99, R104) -/

/-- A segment given back to its default when an ended order owned it (R104). -/
def Segment.strip (role : Role) (n : Nat) (g : Segment) : Segment :=
  if g.owner = some n then defaultSegment role else g

/-- Every segment an ended order owns in a frozen plan given back to its default (R104). -/
def CutPlan.strip (role : Role) (n : Nat) (p : CutPlan) : CutPlan :=
  { p with s0 := p.s0.strip role n, s1 := p.s1.strip role n, s2 := p.s2.strip role n,
           s3 := p.s3.strip role n }

/-- A frozen plan without an ended order (R104). -/
def Part.stripPlan (n : Nat) (s : Part) : Part :=
  match s.windowPlan with
  | some p => if p.frozen then s.setPlan (some (p.strip s.cfg.role n)) else s
  | none => s

/-- The planned route becomes the default of the segment in force (R104). -/
def Part.redirect (s : Part) : Part := s.takeRoute (!s.inMix) (defaultSegment s.cfg.role)

/-- An order ends with a reason, in the order of R99. The planned route is not handed here. -/
def Part.endOrder (o : Order) (reason : EndReason) (s : Part) : Part :=
  let volume := if o.filling then s.vol.tally else 0
  let recorded := s.writeRecord (.delivery o.number o.batch o.outlet volume reason)
  let unlinked := recorded.modBatch o.batch (fun r => { r with orderLink := none })
  let removed := unlinked.modPlanner (fun p =>
    { p with orders := p.orders.filter (fun e => decide (e.number ≠ o.number)) })
  match o.filling, reason with
  | true, .done => removed.recompute
  | true, _ => ((removed.redirect).stripPlan o.number).recompute
  | false, _ => (removed.stripPlan o.number).recompute

/-- The FILLING order ends, if there is one and it is not the order numbered `keep`. -/
def Part.endFilling (keep : Option Nat) (reason : EndReason) (s : Part) : Part :=
  match s.fillingOrder with
  | some o => if some o.number = keep then s else s.endOrder o reason
  | none => s

/-- An order turns FILLING, and the volume unit sets the tally to 0 (R42, R98, R103). -/
def Part.turnFilling (n : Nat) (s : Part) : Part :=
  { s with
    planner := { s.planner with
      orders := s.planner.orders.map (fun o => if o.number = n then { o with filling := true } else o) }
    vol := { s.vol with tally := 0 } }

/-! ## Stages and late starts (R98, R103) -/

/-- The planned route takes a segment, and the orders change state (R103). -/
def Part.takeSegment (clean : Bool) (seg : Segment) (s : Part) : Part :=
  let ended := s.endFilling seg.owner .done
  let started :=
    match seg.owner.bind (fun n => orderNumbered n ended.planner.orders) with
    | some o => if o.filling then ended else ended.turnFilling o.number
    | none => ended
  started.takeRoute clean seg

/-- The segment that follows a stage (R103). -/
def CutPlan.after (p : CutPlan) : Stage → Segment
  | .leading => p.s1
  | .midpoint => p.s2
  | .trailing => p.s3

/-- A step's stages taken by the cut planner: the plan is frozen and the planned route takes the segment
after the last stage (R103). The planned route is not handed here. -/
def Part.planStep (last : Stage) (s : Part) : Part :=
  match s.windowPlan with
  | none => s
  | some p =>
    (s.setPlan (some { p with frozen := true })).takeSegment (decide (last = .trailing)) (p.after last)

/-- A withdrawal taken by the cut planner: the plan unfrozen and recomputed, the planned route its new S0
(R103). -/
def Part.planWithdrawal (s : Part) : Part :=
  match s.det.window, s.windowPlan with
  | some b, some _ =>
    let q := s.freshPlan b
    (s.setPlan (some q)).takeRoute true q.s0
  | _, _ => s

/-- An order starts late (R98). Where another FILLING order ends by it under a plan that is not frozen, the
recompute of R99 sets the planned route to the default, with UNPLANNED_BATCH at an END, before the started
order's outlet: that route, which lasts no time, is not handed. DEDUCED, while R107 hands each new value (log
entry 45). -/
def Part.lateStart (o : Order) (s : Part) : Part :=
  ((((s.endFilling (some o.number) .done).turnFilling o.number).setPlanned
    (.outlet o.outlet))).recompute

/-- The QUEUED order of a batch that has become PRESENT starts late (R98). -/
def Part.lateStartFor (b : BatchNo) (s : Part) : Part :=
  match orderFor b s.planner.orders with
  | some o => if o.filling then s else s.lateStart o
  | none => s

/-- The FILLING order's volume limit tested after an addition to its tally (R105). -/
def Part.limitTest (s : Part) : Part :=
  match s.fillingOrder with
  | some o =>
    if o.limit ≠ 0 ∧ o.limit ≤ s.vol.tally then (s.endOrder o .limit).handPlanned else s
  | none => s

/-- A guard channel's END_ORDER action (R106). -/
def Part.guardEnd (s : Part) : Part :=
  match s.fillingOrder with
  | some o => (s.endOrder o .guard).handPlanned
  | none => s

/-! ## Retirement (R15, R16) -/

/-- The linked order of a record that retires ends (R16). -/
def Part.endRetired (s : Part) (r : BatchRecord) : Part :=
  match r.orderLink.bind (fun n => orderNumbered n s.planner.orders) with
  | some o => s.endOrder o (if o.filling then .done else .cancelled)
  | none => s

/-- The retirement test (R15): the records that retire leave, oldest first, the horizon takes the newest of
them, and their orders end (R16). The planned route is not handed here. -/
def Part.retire (s : Part) : Part :=
  let split := splitRetired s.keepBehind s.train.records
  let left := { s with train := { records := split.2, horizon := horizonAfter s.train.horizon split.1 } }
  split.1.foldl Part.endRetired left

/-! ## Launch cuts (R108 to R112) -/

/-- The volume condition of the current batch (R109). -/
def Part.volumeCondition (s : Part) : Bool :=
  match s.planner.current with
  | none => true
  | some c =>
    match c.nominated with
    | none => false
    | some n => decide (n ≤ c.launched)

/-- Whether a cut toward an outlet takes effect when it is decided (R111): in OBSERVE, or with the route
there already and no change in flight. -/
def Part.cutAtOnce (o : Outlet) (s : Part) : Bool :=
  decide (s.outlet.mode = some .observe) ||
    (decide (s.outlet.current = .known (.outlet o)) && s.outlet.change.isNone)

/-- A cut is decided: the oldest entry becomes the incoming batch, and its source outlet the planned route,
handed (R110); it takes effect as R111 gives. -/
def Part.decideCut (e : LaunchEntry) (rest : List LaunchEntry) (s : Part) : Part :=
  let decided := s.modPlanner (fun p =>
    { p with launches := rest, incoming := some e, planned := some (.outlet e.outlet) })
  let handed := (decided.handRoute (.outlet e.outlet)).holdEvent
  if s.cutAtOnce e.outlet && handed.planner.incoming.isSome then handed.launchEffect e else handed

/-- LAUNCH_QUEUE_EMPTY, once for each current batch (R110). -/
def Part.showEmpty (s : Part) : Part :=
  if s.planner.current.isSome && !s.planner.emptyShown then
    (s.modPlanner (fun p => { p with emptyShown := true })).raise .launchQueueEmpty
  else s

/-- The cut test (R110). -/
def Part.cutTest (s : Part) : Part :=
  if s.volumeCondition then
    match s.planner.launches with
    | [] => s.showEmpty
    | e :: rest =>
      if s.planner.incoming.isSome || s.holdLaunchMade then s else s.decideCut e rest
  else s

/-- The trunk increment of a sample event added to the current batch's launched volume (R108). -/
def Part.addLaunched (trunk : Nat) (s : Part) : Part :=
  s.modPlanner (fun p =>
    { p with current := p.current.map (fun c => { c with launched := hold32 (c.launched + trunk) }) })

end Sys2Proof.Machine
end

