-- ==== Sys2Proof/Machine/Detector.lean ====
section
/-! DEFINITION. The interface detector (chapter 5): the choice of a channel, window entry, the stages by
analyser, by volume, late and forced, withdrawal, the mix list, and the completion of an interface. -/

namespace Sys2Proof.Machine

/-- The part with its detector changed. -/
def Part.modDet (f : Detector → Detector) (s : Part) : Part := { s with det := f s.det }

/-- The window interface changed. -/
def Part.modWindow (f : HeadInterface → HeadInterface) (s : Part) : Part :=
  match s.det.window with
  | some b => s.modHead b f
  | none => s

/-! ## Choosing a channel (R75, R76) -/

/-- |b - a|. -/
def span (a b : Nat) : Nat := max a b - min a b

/-- The reference set of two reference values and their tolerances (R75, R76). -/
def refSet (a b ta tb : Nat) : RefSet :=
  { a := a, b := b, ta := ta, tb := tb, rising := decide (a < b), thr := (a + b) / 2,
    p := min ta tb / 4 }

/-- The score of a channel (R75). -/
def RefSet.score (r : RefSet) : Nat := span r.a r.b * 256 / (r.ta + r.tb)

/-- Whether two references lie far enough apart (R75). -/
def RefSet.apart (r : RefSet) : Bool := decide (2 * (r.ta + r.tb) ≤ span r.a r.b)

/-- The reference set of the DENSITY channel, when that channel is usable for a pair (R75). -/
def Part.densityRefs (s : Part) (leading trailing : Product) : Option RefSet :=
  match s.cfg.product? leading, s.cfg.product? trailing with
  | some l, some t =>
    let r := refSet l.refDensity t.refDensity l.densityTol t.densityTol
    if s.cfg.densityFitted && s.inst.densityReady && r.apart then some r else none
  | _, _ => none

/-- The reference set of the MARKER channel, when that channel is usable for a pair (R75). -/
def Part.markerRefs (s : Part) (leading trailing : Product) : Option RefSet :=
  match s.cfg.product? leading, s.cfg.product? trailing with
  | some l, some t =>
    let r := refSet l.refMarker t.refMarker l.markerTol t.markerTol
    if s.cfg.markerFitted && s.inst.markerReady && r.apart then some r else none
  | _, _ => none

/-- The channel chosen for a pair, with its reference set (R75). -/
def Part.chooseChannel (s : Part) (leading trailing : Product) : Channel × Option RefSet :=
  match s.densityRefs leading trailing, s.markerRefs leading trailing with
  | some d, some m => if m.score ≤ d.score then (.density, some d) else (.marker, some m)
  | some d, none => (.density, some d)
  | none, some m => (.marker, some m)
  | none, none => (.volume, none)

/-! ## Window entry (R74) -/

/-- The four counts at 0. -/
def Part.zeroCounts (s : Part) : Part :=
  s.modDet (fun d => { d with leadCount := 0, midCount := 0, trailCount := 0, breakRun := 0 })

/-- The window interface's channel set, with the reference set that goes with it (R74, R77). -/
def Part.setChannel (ch : Channel × Option RefSet) (s : Part) : Part :=
  (s.modWindow (fun h => { h with channel := some ch.1 })).modDet (fun d => { d with refs := ch.2 })

/-- The channel chosen for the window interface as readiness stands (R75). -/
def Part.choiceNow (s : Part) : Channel × Option RefSet :=
  match s.windowHead with
  | some (r, h) => s.chooseChannel h.leading r.product
  | none => (.volume, none)

/-- A window entry, steps 1 to 4 of R74. Step 5 is an evaluation. -/
def Part.enterWindow (b : BatchNo) (s : Part) : Part :=
  let recorded := s.modDet (fun d => { d with window := some b })
  let chosen := recorded.setChannel recorded.choiceNow
  let cleared := (chosen.zeroCounts).modDet (fun d => { d with mix := [], midStamp := none })
  (cleared.enterPlan).handPlanned

/-- The window moves to the oldest head interface that is not CLEARED, or is empty (R73, R74). -/
def Part.nextWindow (s : Part) : Part :=
  match oldestLive s.train.records with
  | some b => s.enterWindow b
  | none => s.modDet (fun _ => Detector.afterReset)

/-- An interface the window moves away from gives up its channel and its plan (R74). -/
def Part.leaveWindow (s : Part) : Part :=
  s.modWindow (fun h => { h with channel := none, plan := none })

/-! ## Stages (R79 to R84, R88) -/

/-- The stage record written now: the arrival stamp is the arrival counter as last left (R88). -/
def Part.stageRecord (s : Part) (m : Method) : StageRecord :=
  { method := m, stamp := s.vol.arrivalCounter }

/-- One stage taken on a head interface. EARLY is set by an analyser's edge from DISTANT (R79, R84, R87);
the trailing edge leaves the state to the completion (R91). -/
def HeadInterface.take (m : Method) (stamp : StageRecord) (h : HeadInterface) : Stage → HeadInterface
  | .leading =>
    { h with
      state := .inMix, leadRec := some stamp
      early := h.early || (decide (m = .analyser) && decide (h.state = .distant)) }
  | .midpoint => { h with state := .pastMid, midRec := some stamp, midError := some h.d }
  | .trailing => { h with trailRec := some stamp }

/-- One stage taken (R88): its record, and what the detector keeps of it. -/
def Part.takeStage (m : Method) (s : Part) (g : Stage) : Part :=
  let marked := s.modWindow (fun h => h.take m (s.stageRecord m) g)
  match g with
  | .leading => marked.modDet (fun d => { d with breakRun := 0 })
  | .midpoint => marked.modDet (fun d => { d with midStamp := some s.vol.trunkCounter })
  | .trailing => marked

/-- The stages due by volume on a head interface, in stage order (R84). -/
def HeadInterface.volumeDue (h : HeadInterface) : List Stage :=
  let half : Int := (h.w / 2 : Nat)
  let trailing := if h.d ≤ -half then [Stage.trailing] else []
  let midpoint := if h.d ≤ 0 then Stage.midpoint :: trailing else []
  match h.state with
  | .distant => if h.d ≤ half then Stage.leading :: midpoint else []
  | .armed => if h.d ≤ half then Stage.leading :: midpoint else []
  | .inMix => midpoint
  | .pastMid => trailing
  | .cleared => []

/-- The stages due by the analyser's counts, in stage order (R79, R81, R82, R83). -/
def Detector.analyserDue (make : Nat) (state : HeadState) (d : Detector) : List Stage :=
  let trailing := if make ≤ d.trailCount then [Stage.trailing] else []
  let midpoint := if make ≤ d.midCount then Stage.midpoint :: trailing else []
  match state with
  | .distant => if make ≤ d.leadCount then Stage.leading :: midpoint else []
  | .armed => if make ≤ d.leadCount then Stage.leading :: midpoint else []
  | .inMix => midpoint
  | .pastMid => trailing
  | .cleared => []

/-! ## Completion (R90, R91, R92) -/

/-- The measured width (R90). -/
def HeadInterface.widthMeasured (h : HeadInterface) : Nat :=
  match h.leadRec, h.trailRec with
  | some l, some t =>
    if l.method = .analyser ∧ t.method = .analyser then min 1000000 (t.stamp - l.stamp).toNat else h.w
  | _, _ => h.w

/-- The method of a stage record; an absent record reads as ANALYSER, which R91 never meets: a completed
interface has all three. -/
def methodIn (r : Option StageRecord) : Method := (r.map StageRecord.method).getD .analyser

/-- Whether any of the three stages was taken by a method (R92). -/
def HeadInterface.anyMethod (m : Method) (h : HeadInterface) : Bool :=
  [h.leadRec, h.midRec, h.trailRec].any (fun r => decide (r.map StageRecord.method = some m))

/-- The INTERFACE record of a completed interface (R91). -/
def interfaceRecord (r : BatchRecord) (h : HeadInterface) (mix : List (Outlet × Nat)) : RecordBody :=
  .interface r.batch h.leading r.product (methodIn h.leadRec) (methodIn h.midRec) (methodIn h.trailRec)
    (h.measuredWidth.getD h.w) (h.midError.getD h.d) h.early h.clamped h.overdue
    (h.degradedMark.getD false) mix

/-- The PASSAGE notice of a completed interface (R92). -/
def passageNotice (r : BatchRecord) (h : HeadInterface) (stamp : Counter) : Notice :=
  .passage r.batch r.product h.leading (h.measuredWidth.getD h.w) (methodIn h.leadRec)
    (methodIn h.midRec) (methodIn h.trailRec) (h.anyMethod .forced) (h.anyMethod .late)
    (h.degradedMark.getD false) stamp

/-- Steps 2 and 3 of R91: the INTERFACE record and the PASSAGE notice. -/
def Part.reportPassage (s : Part) : Part :=
  match s.windowHead with
  | some (r, h) =>
    let recorded := s.writeRecord (interfaceRecord r h s.det.mix)
    if s.cfg.role = .origin then recorded
    else recorded.enqueue (passageNotice r h (s.det.midStamp.getD 0))
  | none => s

/-- A head interface CLEARED, its measured width and degraded mark fixed (step 1 of R91). -/
def HeadInterface.clear (degraded : Bool) (h : HeadInterface) : HeadInterface :=
  { h with state := .cleared, measuredWidth := some h.widthMeasured, degradedMark := some degraded }

/-- The completion of the window interface (R91), up to the window entry of step 7; the evaluation of the
new window is the caller's. -/
def Part.complete (s : Part) : Part :=
  match s.windowHead with
  | none => s
  | some (r, h) =>
    let cleared := s.modWindow (HeadInterface.clear (s.degraded h))
    let planned := (cleared.reportPassage.planStep .trailing).setPlan none
    let present := planned.mapTrain (makePresent r.batch)
    let settled := (present.lateStartFor r.batch).retire
    let emptied := settled.modDet (fun d => { d with midStamp := none, mix := [] })
    ((emptied.handPlanned).holdEvent).nextWindow

/-- A step of stages with one method, handed to the cut planner together (R83). A trailing edge completes
the interface. The planned route of the step is handed first, and then a reported conflict hold ends: its clearing
change goes to the new target, and starts before the S0 of a window that follows is handed. DEDUCED, for a
withdrawal and a late start too: R124 does not say which comes first within one step (log entry 60). -/
def Part.takeStages (m : Method) (stages : List Stage) (s : Part) : Part :=
  match stages.getLast? with
  | none => s
  | some last =>
    let marked := stages.foldl (Part.takeStage m) s
    match last with
    | .trailing => marked.complete
    | .leading => ((marked.planStep .leading).handPlanned).holdEvent
    | .midpoint => ((marked.planStep .midpoint).handPlanned).holdEvent

/-! ## Evaluation by volume and overdue (R84 to R86) -/

/-- Whether D is below -A. -/
def Part.past (s : Part) (h : HeadInterface) : Bool :=
  decide (h.d < -(armingDistance s.cfg h : Int))

/-- Whether the window interface is DEGRADED with its D below -A: on an analyser channel, DISTANT or ARMED, it is
overdue and the detector keeps waiting for the end of DEGRADED (R86). -/
def Part.waitsOverdue (s : Part) : Bool :=
  match s.windowHead with
  | some (_, h) => s.degraded h && s.past h
  | none => false

/-- The window interface found overdue: OVERDUE and its alarm the first time, and the alarm again when
`again` says so (R86). -/
def Part.markOverdue (again : Bool) (h : HeadInterface) (s : Part) : Part :=
  (s.modWindow (fun x => { x with overdue := true })).raiseIf (!h.overdue || again) .interfaceOverdue

/-- The volume conditions and the overdue condition of the window evaluated, and again for each window
entered (R84, R86, R74). `fuel` bounds the windows entered: one for each record and one more. `waited`
says that the window was DEGRADED below -A just before the event evaluated: when it is no longer DEGRADED, and
still DISTANT or ARMED on an analyser and below -A, INTERFACE_OVERDUE is set again with its late stages (R86). -/
def Part.evaluateWith : Nat → Bool → Part → Part
  | 0, _, s => s
  | fuel + 1, waited, s =>
    match s.windowHead with
    | none => s
    | some (_, h) =>
      match h.channel with
      | some .volume =>
        if s.degraded h then (if s.past h then s.markOverdue false h else s)
        else
          let due := h.volumeDue
          if due.contains .trailing then
            Part.evaluateWith fuel false (s.takeStages .volume due)
          else s.takeStages .volume due
      | _ =>
        if (h.state = .distant ∨ h.state = .armed) ∧ s.past h = true then
          let degraded := s.degraded h
          let marked := s.markOverdue (waited && !degraded) h
          if degraded then marked
          else
            Part.evaluateWith fuel false (marked.takeStages .late [.leading, .midpoint, .trailing])
        else s

/-- An evaluation of the window as it stands. -/
def Part.evaluate (s : Part) : Part := s.evaluateWith (s.train.records.length + 1) false

/-- A hand-off for an event of R67 (R70, R85, R86). `before` is the part just before the event: "still below -A"
is read of that moment and of this one, so a window that the same event brings below -A sets no alarm again.
DEDUCED (log entry 59). -/
def Part.handOffReleased (before s : Part) : Part :=
  s.evaluateWith (s.train.records.length + 1) before.waitsOverdue

/-- An insertion's window entry, when the oldest head interface that is not CLEARED is now another
(R13, R74). -/
def Part.windowAfterInsertion (s : Part) : Part :=
  if oldestLive s.train.records = s.det.window then s else (s.leaveWindow.nextWindow).evaluate

/-! ## Readiness reports (R77) -/

/-- Whether an analyser channel's analyser is READY. -/
def Part.channelReady (s : Part) : Channel → Bool
  | .density => s.inst.densityReady
  | .marker => s.inst.markerReady
  | .volume => true

/-- A change of analyser readiness reaches the detector (R77). Changes of both analysers at one moment are one report: the
channel is chosen once, with both as they now stand, and no stage is taken on a channel that only one of the two reports
would give. DESIGN CHOICE, R28 and R77 do not say which of the two comes first (log entry 64). -/
def Part.readinessReport (s : Part) : Part :=
  match s.windowHead with
  | none => s
  | some (_, h) =>
    if h.state = .distant ∨ h.state = .armed then
      let ch := s.choiceNow
      if h.channel = some ch.1 then s else ((s.setChannel ch).zeroCounts).evaluate
    else
      match h.channel with
      | some ch =>
        if s.channelReady ch then s else ((s.setChannel (.volume, none)).zeroCounts).evaluate
      | none => s

/-! ## Readings (R78 to R83) -/

/-- A count that rises to its limit while its condition holds, and else is 0 (R78). -/
def runCount (limit : Nat) (holds : Bool) (n : Nat) : Nat := if holds then min limit (n + 1) else 0

/-- |v - a|. -/
def distance (v : Int) (a : Nat) : Nat := (v - (a : Int)).natAbs

/-- The leading condition (R78). -/
def RefSet.leads (r : RefSet) (v : Int) : Bool := decide (r.ta < distance v r.a)

/-- The midpoint condition (R78). -/
def RefSet.crosses (r : RefSet) (v : Int) : Bool :=
  if r.rising then decide ((r.thr : Int) + r.p ≤ v) else decide (v ≤ (r.thr : Int) - r.p)

/-- The trailing condition (R78). -/
def RefSet.trails (r : RefSet) (v : Int) : Bool := decide (distance v r.b ≤ r.tb)

/-- The withdrawal condition (R78). -/
def RefSet.withdraws (r : RefSet) (v : Int) : Bool :=
  decide ((distance v r.a : Int) ≤ (r.ta : Int) - r.p)

/-- The counts updated from the event's value (R78). -/
def Detector.count (c : Config) (state : HeadState) (r : RefSet) (v : Int) (d : Detector) : Detector :=
  { d with
    leadCount := runCount c.makeCount (r.leads v) d.leadCount
    midCount := runCount c.makeCount (r.crosses v) d.midCount
    trailCount := runCount c.makeCount (r.trails v) d.trailCount
    breakRun := if state = .inMix then runCount c.breakCount (r.withdraws v) d.breakRun else 0 }

/-- A withdrawal (R80). -/
def Part.withdraw (s : Part) : Part :=
  let back := s.modWindow (fun h =>
    { h with leadRec := none, early := false, state := armedState s.cfg h })
  let emptied := (back.zeroCounts).modDet (fun d => { d with mix := [] })
  ((emptied.planWithdrawal).handPlanned).holdEvent

/-- The event's readings taken: `density` and `marker` are the values on the two channels, absent where
the event does not hand them as usable (R78 to R83). -/
def Part.takeReadings (density marker : Option Int) (s : Part) : Part :=
  match s.windowHead, s.det.refs with
  | some (_, h), some refs =>
    let value :=
      match h.channel with
      | some .density => density
      | some .marker => marker
      | _ => none
    match value with
    | none => s
    | some v =>
      let counted := s.modDet (Detector.count s.cfg h.state refs v)
      if h.state = .inMix ∧ s.cfg.breakCount ≤ counted.det.breakRun then counted.withdraw
      else
        let due := counted.det.analyserDue s.cfg.makeCount h.state
        if due.contains .trailing then (counted.takeStages .analyser due).evaluate
        else counted.takeStages .analyser due
  | _, _ => s

/-! ## The mix list (R89) -/

/-- Volume credited to an outlet's entry, or to a new entry while there are fewer than three (R89). -/
def creditMix (o : Outlet) (volume : Nat) (mix : List (Outlet × Nat)) : List (Outlet × Nat) :=
  if mix.any (fun e => decide (e.1 = o)) then
    mix.map (fun e => if e.1 = o then (e.1, hold32 (e.2 + volume)) else e)
  else if mix.length < 3 then mix ++ [(o, hold32 volume)]
  else mix

/-- The event's delivery increment credited to the mix list (R89). -/
def Part.creditMixList (delivery : Nat) (s : Part) : Part :=
  match s.outlet.current with
  | .known (.outlet o) =>
    if s.cfg.role.delivers && s.inMix && decide (delivery ≠ 0) then
      s.modDet (fun d => { d with mix := creditMix o delivery d.mix })
    else s
  | _ => s

/-! ## Forced stages (R87) -/

/-- The stage a head interface would take next (R87). -/
def HeadInterface.next (h : HeadInterface) : Option Stage :=
  match h.state with
  | .distant => some .leading
  | .armed => some .leading
  | .inMix => some .midpoint
  | .pastMid => some .trailing
  | .cleared => none

/-- The stages a forced stage brings: itself, and on the VOLUME channel those then due and not suspended
(R87). `h` is the window interface after the forced stage. -/
def Part.stagesAfterForce (s : Part) (h : HeadInterface) : List Stage :=
  if h.channel = some .volume ∧ s.degraded h = false then h.volumeDue else []

/-- A forced stage taken, with the volume stages that follow (R87): the part, and the stages taken. -/
def Part.force (g : Stage) (s : Part) : Part × List Stage :=
  let taken := (s.takeStages .forced [g]).zeroCounts
  match g with
  | .trailing => (taken.evaluate.holdEvent, [g])
  | _ =>
    let more :=
      match taken.windowHead with
      | some (_, h) => taken.stagesAfterForce h
      | none => []
    (taken.evaluate.holdEvent, g :: more)

end Sys2Proof.Machine
end

