-- ==== Sys2Proof/Machine/Instrument.lean ====
section
/-! DEFINITION. The instrument interface (chapter 2): judging a sample set, the values in use, analyser readiness,
the pulses handed with an event, missed sets, and what a sample event carries. -/

namespace Sys2Proof.Machine

/-- The part with its instrument interface changed. -/
def Part.modInst (f : Instruments → Instruments) (s : Part) : Part := { s with inst := f s.inst }

/-- The accepted range of each reading of a set, in set order (2.2). -/
def acceptedRange (i : Fin 8) : Int × Int :=
  match i.val with
  | 0 => (5000, 10000)
  | 1 => (0, 60000)
  | 2 => (-4000, 8000)
  | 3 => (0, 15000)
  | _ => (0, 10000)

/-- Whether a reading is valid: indicated and in range (R25). -/
def readingValid (i : Fin 8) (r : Reading) : Bool :=
  r.indicated && decide ((acceptedRange i).1 ≤ r.value ∧ r.value ≤ (acceptedRange i).2)

/-- What a channel keeps after a reading: the value held to the range, its validity, and the last valid
value (R25). -/
def ReadingChannel.judge (i : Fin 8) (r : Reading) (c : ReadingChannel) : ReadingChannel :=
  { last := some (clampTo (acceptedRange i).1 (acceptedRange i).2 r.value, readingValid i r)
    lastValid := if readingValid i r then some r.value else c.lastValid }

/-- What a sample event carries from the instrument interface (R21): the valid density reading and its
usable mark, the marker reading where usable, the values in use, the valid general inputs and the pulses
handed. -/
structure Sample where
  density : Option Int
  densityUsable : Bool
  marker : Option Int
  temperature : Int
  pressure : Int
  general : Vector (Option Int) 4
  trunkPulses : Nat
  deliveryPulses : Nat
  deriving DecidableEq, Repr

/-- The valid value of a reading of a set. -/
def validReading (set : SampleSet) (i : Fin 8) : Option Int :=
  if readingValid i set[i] then some set[i].value else none

/-- An analyser's readiness and warm-up count after a reading (R27). -/
def warmed (fitted : Bool) (warmup : Nat) (valid : Bool) (ready : Bool) (count : Nat) : Bool × Nat :=
  if !fitted then (false, count)
  else if !valid then (false, 0)
  else if ready then (true, warmup)
  else if count + 1 < warmup then (false, count + 1)
  else (true, warmup)

/-- The pulses handed with an event: the pending count, at most 65,535 of it (R29). -/
def pulsesHanded (pending : Nat) : Nat := min pending 65535

/-- The instrument interface after a completed set (R21, steps 1 to 3). -/
def Instruments.takeSet (c : Config) (set : SampleSet) (i : Instruments) : Instruments :=
  let channels := Vector.ofFn (fun k => (i.channels[k]).judge k set[k])
  let density := warmed c.densityFitted c.warmup (readingValid 0 set[0]) i.densityReady i.densityWarmup
  let marker := warmed c.markerFitted c.warmup (readingValid 1 set[1]) i.markerReady i.markerWarmup
  { i with
    transferOpen := false
    channels := channels
    densityReady := density.1, densityWarmup := density.2
    markerReady := marker.1, markerWarmup := marker.2
    tempInUse := (channels[2].lastValid).getD 1500, tHeld := !readingValid 2 set[2]
    pressInUse := (channels[3].lastValid).getD 0, pHeld := !readingValid 3 set[3]
    missedRun := 0
    trunkPending := i.trunkPending - pulsesHanded i.trunkPending
    deliveryPending := i.deliveryPending - pulsesHanded i.deliveryPending }

/-- The sample event of a set: `i` is the instrument interface before it and `j` after it (R21). -/
def sampleOf (set : SampleSet) (i j : Instruments) : Sample :=
  { density := validReading set 0, densityUsable := j.densityReady
    marker := if j.markerReady then validReading set 1 else none
    temperature := j.tempInUse, pressure := j.pressInUse
    general := Vector.ofFn (fun n => validReading set ⟨n.val + 4, by omega⟩)
    trunkPulses := pulsesHanded i.trunkPending, deliveryPulses := pulsesHanded i.deliveryPending }

/-- Whether an analyser channel has lost READY between two readings of the instrument interface (R28). -/
def lost (ch : Channel) (i j : Instruments) : Bool :=
  match ch with
  | .density => i.densityReady && !j.densityReady
  | .marker => i.markerReady && !j.markerReady
  | .volume => false

/-- ANALYSER_LOST when the channel that lost READY is the window's detection channel (R28). Where both analysers
change at one moment it is judged by the channel held before either change, whichever analyser the detector would go
to: DESIGN CHOICE, R28 does not say which of the two reports comes first (log entry 64). -/
def Part.reportLoss (before : Instruments) (s : Part) : Part :=
  match s.windowHead with
  | some (_, h) =>
    match h.channel with
    | some ch => s.raiseIf (lost ch before s.inst) .analyserLost
    | none => s
  | none => s

/-- Whether readiness of either analyser differs between two moments (R77). -/
def readinessDiffers (i j : Instruments) : Bool :=
  decide (i.densityReady ≠ j.densityReady) || decide (i.markerReady ≠ j.markerReady)

/-- A missed set counted (R23). -/
def Instruments.countMissed (i : Instruments) : Instruments :=
  { i with missedRun := hold16 (i.missedRun + 1), missedTotal := hold16 (i.missedTotal + 1) }

/-- The instrument interface at the fourth missed set in a row: both analysers lose READY, and temperature
and pressure are held (R24). -/
def Instruments.dropReady (i : Instruments) : Instruments :=
  { i with densityReady := false, markerReady := false, densityWarmup := 0, markerWarmup := 0,
           tHeld := true, pHeld := true }

/-- A missed set (R23, R24). Where both analysers lose READY at the fourth, the detector takes the two losses together
(log entry 64). -/
def Part.missedSet (s : Part) : Part :=
  let counted := s.modInst Instruments.countMissed
  if counted.inst.missedRun = 4 then
    let dropped := (counted.modInst Instruments.dropReady).raise .sampleMissed
    let told := dropped.reportLoss counted.inst
    if readinessDiffers counted.inst told.inst then told.readinessReport else told
  else counted.raiseIf (decide (4 < counted.inst.missedRun)) .sampleMissed

/-- A new sample request is issued: a transfer opens, and the next request falls due one sample period
after this one (R20). -/
def Part.openRequest (due : Nat) (s : Part) : Part :=
  s.modInst (fun i =>
    { i with transferOpen := true, nextRequest := some (due + s.cfg.samplePeriod * bitsPerMs) })

/-- A sample request falls due (R20, R23). -/
def Part.requestDue (s : Part) : Part :=
  match s.inst.nextRequest with
  | some due =>
    s.whenDue due (fun t => (if t.inst.transferOpen then t.missedSet else t).openRequest due)
  | none => s

/-- The instrument interface at START (R33). -/
def Instruments.atStart (i : Instruments) : Instruments :=
  { i with densityReady := false, markerReady := false, densityWarmup := 0, markerWarmup := 0,
           tempInUse := 1500, pressInUse := 0, tHeld := true, pHeld := true, missedRun := 0,
           missedTotal := 0, trunkPending := 0, deliveryPending := 0 }

/-- A pulse on a meter input (R29). -/
def Instruments.pulse (m : Meter) (i : Instruments) : Instruments :=
  match m with
  | .trunk => { i with trunkPending := hold32 (i.trunkPending + 1) }
  | .delivery => { i with deliveryPending := hold32 (i.deliveryPending + 1) }

/-- The taken level of one limit input (R30). -/
def LimitLevels.get (l : LimitLevels) : LimitInput → Bool
  | .open_ => l.open_
  | .closed => l.closed

/-- One limit input's taken level set (R30). -/
def LimitLevels.put (l : LimitLevels) (input : LimitInput) (active : Bool) : LimitLevels :=
  match input with
  | .open_ => { l with open_ := active }
  | .closed => { l with closed := active }

/-- A taken level stored (R30). -/
def Instruments.setLimit (o : Outlet) (input : LimitInput) (active : Bool) (i : Instruments) :
    Instruments :=
  { i with limits := i.limits.set o ((i.limits[o]).put input active) }

end Sys2Proof.Machine
end

