-- ==== Sys2Proof/Machine/Volume.lean ====
section
/-! DEFINITION. The volume unit (chapter 3): the correction factor, the two meters' residues and accumulators, the
counters, the tally, the corrected density and the flow window, as one sample event leaves them. -/

namespace Sys2Proof.Machine

/-! ## The correction factor (R37, R38) -/

/-- 2^30, the reference value of both terms and of the factor. -/
abbrev unity : Nat := 1073741824

/-- The temperature term CTL (R37). -/
def ctl (alpha : Nat) (temperature : Int) : Int :=
  (unity : Int) - alpha * (clampTo (-4000) 8000 temperature - 1500)

/-- The pressure term CPL (R37). -/
def cpl (beta : Nat) (pressure : Int) : Int := (unity : Int) + beta * clampTo 0 15000 pressure

/-- The correction factor VCF (R38). -/
def vcf (alpha beta : Nat) (temperature pressure : Int) : Nat :=
  (ctl alpha temperature * cpl beta pressure / (unity : Int)).toNat

/-- The factor of a sample event with a product at the meter; product 0 has coefficients of 0 (R36). -/
def vcfOf (c : Config) (p : Product) (temperature pressure : Int) : Nat :=
  match c.product? p with
  | some e => vcf e.alpha e.beta temperature pressure
  | none => vcf 0 0 temperature pressure

/-! ## One meter (R35, R39, R40) -/

/-- What one sample event brings of one meter: reference volume in cL, whole decalitres, and the residue
and accumulator it leaves. -/
structure MeterCount where
  centilitres : Nat
  whole : Nat
  residue : Nat
  acc : Nat
  deriving DecidableEq, Repr

/-- One used meter counted (R39, R40). -/
def countMeter (pulses weight factor residue acc : Nat) : MeterCount :=
  let fine := pulses * weight * factor + residue
  let sum := acc + fine / unity
  { centilitres := fine / unity, whole := sum / 1000, residue := fine % unity, acc := sum % 1000 }

/-- An unused meter (R34). -/
def unusedMeter (residue acc : Nat) : MeterCount :=
  { centilitres := 0, whole := 0, residue := residue, acc := acc }

/-- Whether the role uses the trunk meter (R34). -/
def usesTrunk (r : Role) : Bool :=
  match r with
  | .end_ => false
  | .origin => true
  | .relay => true
  | .terminal => true

/-- The trunk meter at a sample event. -/
def Part.countTrunk (s : Part) (pulses factor : Nat) : MeterCount :=
  if usesTrunk s.cfg.role then
    countMeter pulses s.cfg.trunkWeight factor s.vol.trunkResidue s.vol.trunkAcc
  else unusedMeter s.vol.trunkResidue s.vol.trunkAcc

/-- The delivery meter at a sample event; the roles that deliver use it (R34). -/
def Part.countDelivery (s : Part) (pulses factor : Nat) : MeterCount :=
  if s.cfg.role.delivers then
    countMeter pulses s.cfg.deliveryWeight factor s.vol.deliveryResidue s.vol.deliveryAcc
  else unusedMeter s.vol.deliveryResidue s.vol.deliveryAcc

/-! ## Density, flow window, tally (R42 to R45) -/

/-- The corrected density of a valid reading (R43). -/
def correctDensity (reading : Int) (factor : Nat) : Nat :=
  (reading.toNat * unity + factor / 2) / factor

/-- The flow window with an entry at its newest end, at most 16 (R44). -/
def joinFlow (entry : Nat) (window : List Nat) : List Nat :=
  (if 16 ≤ window.length then window.tail else window) ++ [entry]

/-- The tally after an event's delivery increment: the FILLING order's, when the confirmed route is its
outlet (R42). -/
def Part.tallyAfter (s : Part) (delivery : Nat) : Nat :=
  match s.fillingOrder with
  | some o =>
    if s.cfg.role.delivers ∧ s.outlet.current = .known (.outlet o.outlet) then
      hold32 (s.vol.tally + delivery)
    else s.vol.tally
  | none => s.vol.tally

/-- The product at the meter (R36): that of the batch at the meter, otherwise 0. -/
def Part.meterProduct (s : Part) : Product :=
  match s.atMeter with
  | some r => r.product
  | none => 0

/-! ## A sample event counted (R41) -/

/-- What the volume unit hands on (R41): the increments, and the corrected density where usable. -/
structure Counted where
  arrival : Nat
  trunk : Nat
  delivery : Nat
  corrected : Option Nat
  deriving DecidableEq, Repr

/-- What a sample event hands on, with the part as it stood before the event (R39 to R43). -/
def Part.counted (s : Part) (e : Sample) : Counted :=
  let factor := vcfOf s.cfg s.meterProduct e.temperature e.pressure
  let trunk := s.countTrunk e.trunkPulses factor
  let delivery := s.countDelivery e.deliveryPulses factor
  { arrival := trunk.whole + delivery.whole, trunk := trunk.whole, delivery := delivery.whole
    corrected := if e.densityUsable then e.density.map (fun d => correctDensity d factor) else none }

/-- The volume unit after a sample event (R36 to R45). -/
def Part.volumeAfter (s : Part) (e : Sample) : VolumeUnit :=
  let product := s.meterProduct
  let factor := vcfOf s.cfg product e.temperature e.pressure
  let trunk := s.countTrunk e.trunkPulses factor
  let delivery := s.countDelivery e.deliveryPulses factor
  let arrival := trunk.whole + delivery.whole
  { trunkResidue := trunk.residue, deliveryResidue := delivery.residue
    trunkAcc := trunk.acc, deliveryAcc := delivery.acc
    trunkCounter := s.vol.trunkCounter + BitVec.ofNat 32 trunk.whole
    deliveredCounter := s.vol.deliveredCounter + BitVec.ofNat 32 delivery.whole
    arrivalCounter := s.vol.arrivalCounter + BitVec.ofNat 32 arrival
    flowWindow := joinFlow (trunk.centilitres + delivery.centilitres) s.vol.flowWindow
    lastVcf := some factor
    lastDensity :=
      match e.density with
      | some d =>
        some { value := correctDensity d factor, usable := e.densityUsable, event := s.vol.sampleEvents + 1 }
      | none => s.vol.lastDensity
    product := product
    uncorrected := decide (product = 0)
    tally := s.tallyAfter delivery.whole
    sampleEvents := s.vol.sampleEvents + 1 }

/-- The delivery increment added to *delivered here* of the batch at the meter (R3). -/
def Part.creditDelivered (delivery : Nat) (s : Part) : Part :=
  match s.atMeter with
  | some r => s.modBatch r.batch (fun x => { x with delivered := x.delivered + BitVec.ofNat 32 delivery })
  | none => s

/-- The volume unit takes a sample event, and the train store and the mix list take their shares of it with
the window and the route as they stood (R3, R41, R42, R89). -/
def Part.countVolume (e : Sample) (s : Part) : Part :=
  let n := s.counted e
  (({ s with vol := s.volumeAfter e }).creditDelivered n.delivery).creditMixList n.delivery

end Sys2Proof.Machine
end

