-- ==== Sys2Proof/Machine/Tracking.lean ====
section
/-! DEFINITION. The tracking engine's events (chapter 4) with their clamp, arming, retirement and hand-off in the
order of R70, and the insertions of the train store that notices bring (R7 to R10, R13, R14). -/

namespace Sys2Proof.Machine

/-- The window interface's D. -/
def Part.windowD (s : Part) : Option Int := s.windowHead.map (fun w => w.2.d)

/-! ## Own flow (R51) -/

/-- Every buffered report entry counted down by an event's arrival increment (R163). -/
def Part.countDown (arrival : Nat) (s : Part) : Part :=
  { s with peer :=
      { s.peer with buffer := s.peer.buffer.map (fun e => { e with d := holdD (e.d - arrival) }) } }

/-- A sample event's flow over the train: the move, the flow clamp, arming and the retirement test (R51,
R63, R61, R15). The hand-off is the caller's. -/
def Part.flowStep (arrival trunk : Nat) (s : Part) : Part :=
  let moved := s.mapTrain (fun recs =>
    armTrain s.cfg (flowClamp (ownFlow s.cfg.role arrival trunk recs)))
  (moved.retire).handPlanned

/-- The window interface handed to the detector when its D is no longer what it was (step 5 of R70). -/
def Part.handOffIfMoved (before : Option Int) (s : Part) : Part :=
  if s.windowD = before then s else s.evaluate

/-! ## Peer deltas and restart marks (R53, R65) -/

/-- A peer's delivered delta applied, with what follows it (R53, R70). The delta of a peer at own chainage or
downstream of it changes no interface. -/
def Part.applyDelta (chainage delta : Nat) (s : Part) : Part :=
  if chainage < s.cfg.chainage then
    let moved := s.mapTrain (fun recs => armTrain s.cfg (flowClamp (peerDelta s.cfg chainage delta recs)))
    ((moved.retire).handPlanned).handOffIfMoved s.windowD
  else s

/-- Whether a record's head interface is one that R65 marks for a peer at a chainage. -/
def BatchRecord.upstream (c : Config) (chainage : Nat) (r : BatchRecord) : Bool :=
  match r.head with
  | some h => upstreamOf c chainage h
  | none => false

/-- What a rebaseline of a peer brings: RESTART_MARK upstream of a delivering peer below own chainage (R65),
and where R65 sets it, on a head interface that has it already too, the hand-off of R67 (log entry 36). -/
def Part.applyRestart (role : Role) (chainage : Nat) (s : Part) : Part :=
  if role.delivers = true ∧ chainage < s.cfg.chainage ∧
      s.train.records.any (BatchRecord.upstream s.cfg chainage) = true then
    Part.handOffReleased s (s.mapTrain (markRestart s.cfg chainage))
  else s

/-! ## Changes by a PASSAGE, a LAUNCH or a merge (R57, R13) -/

/-- What follows a change of the train by a notice: a window entry when the oldest head interface that is
not CLEARED is another, otherwise the hand-off of R70. A change of the window interface itself while it is
IN_MIX or PAST_MID, by its own re-anchor or by a move of its D, hands nothing (R57; log entry 41).
`before` is the part before the change, `own` says that the change is a re-anchor of the window interface, and
`released` that it cleared a RESTART_MARK, on whichever interface (R67). -/
def Part.offerNotice (before : Part) (own released : Bool) (s : Part) : Part :=
  if oldestLive s.train.records = s.det.window then
    match s.windowState with
    | some .distant =>
      if released then Part.handOffReleased before s else s.handOffIfMoved before.windowD
    | some .armed =>
      if released then Part.handOffReleased before s else s.handOffIfMoved before.windowD
    | _ =>
      if released && !own && decide (s.windowD = before.windowD) then Part.handOffReleased before s else s
  else s.windowAfterInsertion

/-- What the train store makes of a batch number that needs a record (R6, R14). -/
inductive Admission where
  | known | refused | full | room
  deriving DecidableEq, Repr

/-- The admission of a batch number (R6, R14). -/
def Part.admission (b : BatchNo) (s : Part) : Admission :=
  if knownBatch b s.train.records then .known
  else if !admitted s.train b then .refused
  else if maxTrain ≤ s.train.records.length then .full
  else .room

/-- An admitted record inserted where there is room, with what follows it (R13). -/
def Part.insertNew (r : BatchRecord) (d : Int) (s : Part) : Part :=
  let placed := s.mapTrain (fun recs =>
    armTrain s.cfg (anchoredClamp r.batch d (insertRecord r recs)))
  Part.offerNotice s false false (placed.retire).handPlanned

/-- A record offered to the train: inserted where it is admitted and there is room, TRAIN_FULL where there
is none (R6, R13, R14). -/
def Part.offerRecord (r : BatchRecord) (d : Int) (s : Part) : Part :=
  match s.admission r.batch with
  | .known => s
  | .refused => s
  | .full => s.raise .trainFull
  | .room => s.insertNew r d

/-- A nominated volume as a notice or an entry carries it: 0 is none (R10, R1; log entry 17). A volume above
the 40,000,000 dal of R1 is kept as carried: no rule calls such a notice malformed (log entry 44). -/
def nominatedOf (n : Nat) : Option Nat := if n = 0 then none else some n

/-! ## LAUNCH (R7, R8) -/

/-- A LAUNCH notice handled by the train store (R7, R8): at an ORIGIN it changes nothing. -/
def Part.takeLaunch (source : Nat) (batch : BatchNo) (product leadProduct : Product)
    (nominated launchWidth trail : Nat) (s : Part) : Part :=
  if s.cfg.role = .origin then s
  else if knownBatch batch s.train.records then
    s.modBatch batch (fun r => { r with nominated := r.nominated.or (nominatedOf nominated) })
  else
    let d := holdD ((s.cfg.chainage : Int) - trail)
    s.offerRecord
      (newRecord batch product (nominatedOf nominated)
        (newHead s.cfg leadProduct product d launchWidth source 0)) d

/-! ## PASSAGE (R9, R55) -/

/-- A known batch's head interface re-anchored, with what follows it (R55, R70). -/
def Part.reanchor (source chainage : Nat) (batch : BatchNo) (trail width : Nat) (h : HeadInterface)
    (s : Part) : Part :=
  let moved := s.mapTrain (fun recs =>
    armTrain s.cfg (anchoredClamp batch (holdD ((s.cfg.chainage : Int) - chainage - trail))
      (updateBatch batch (fun r =>
        { r with head := r.head.map (reanchorHead s.cfg r source chainage trail width) }) recs)))
  Part.offerNotice s (decide (s.det.window = some batch)) h.restartMark (moved.retire).handPlanned

/-- A PASSAGE notice handled by the train store and the tracking engine (R9). -/
def Part.takePassage (source chainage : Nat) (batch : BatchNo) (product leadProduct : Product)
    (trail width : Nat) (s : Part) : Part :=
  if s.cfg.chainage ≤ chainage then
    s.modStats (fun st => { st with downstreamPassages := hold16 (st.downstreamPassages + 1) })
  else
    match findBatch batch s.train.records with
    | some r =>
      match r.head with
      | some h => if h.state = .cleared then s else s.reanchor source chainage batch trail width h
      | none => s
    | none =>
      let d := holdD ((s.cfg.chainage : Int) - chainage - trail)
      s.offerRecord
        (newRecord batch product none (newHead s.cfg leadProduct product d width source chainage)) d

/-! ## A report entry (R10) -/

/-- A buffered report entry handed to the train store (R10, R164); at an ORIGIN it is passed over. -/
def Part.mergeEntry (source chainage : Nat) (e : ReportEntry) (s : Part) : Part :=
  if s.cfg.role = .origin then s
  else
    s.offerRecord
      (newRecord e.batch e.product (nominatedOf e.nominated)
        (newHead s.cfg e.leading e.product e.d e.w source chainage)) e.d

end Sys2Proof.Machine
end

