-- ==== Sys2Proof/Machine/Guard.lean ====
section
/-! DEFINITION. The guard unit (chapter 8): sources, thresholds in force, the evaluation of a channel, making,
breaking and release, and the alarm contacts. -/

namespace Sys2Proof.Machine

/-- The part with one guard channel's working state changed. -/
def Part.modChannel (c : ChannelNo) (f : GuardChannel → GuardChannel) (s : Part) : Part :=
  { s with guard := { s.guard with channels := s.guard.channels.set c (f s.guard.channels[c]) } }

/-- The configuration of a channel. -/
def Part.guardConfig (s : Part) (c : ChannelNo) : GuardConfig := s.cfg.guards[c]

/-! ## Sources and thresholds (R128, R129) -/

/-- The value of a source on a sample event, or none where it is invalid (R128). -/
def Part.sourceValue (e : Sample) (n : Counted) (s : Part) : GuardSource → Option Int
  | .correctedDensity => n.corrected.map (fun d => (d : Int))
  | .marker => e.marker
  | .densityDeviation =>
    match n.corrected, s.cfg.product? s.vol.product with
    | some d, some p => some (((d : Int) - p.refDensity).natAbs : Int)
    | _, _ => none
  | .arrivalFlowRate => some s.flowRate
  | .pressure => some e.pressure
  | .temperature => some e.temperature
  | .general k => e.general[k]
  | .tally => s.fillingOrder.map (fun _ => (s.vol.tally : Int))
  | .windowD => s.windowD

/-- The threshold in force of a channel on a sample event, or none (R129). -/
def Part.threshold (g : GuardConfig) (s : Part) : Option Int :=
  match g.tracking with
  | .fixed => some g.threshold
  | .productRef => (s.cfg.product? s.vol.product).map (fun p => (p.refDensity : Int) + g.threshold)
  | .orderLimit =>
    match s.fillingOrder with
    | some o => if o.limit = 0 then none else some ((o.limit : Int) - g.threshold)
    | none => none

/-- The make condition (R131). -/
def makeHolds (g : GuardConfig) (v t : Int) : Bool :=
  match g.compare with
  | .high => decide (t < v)
  | .low => decide (v < t)

/-- The break condition (R131). -/
def breakHolds (g : GuardConfig) (v t : Int) : Bool :=
  match g.compare with
  | .high => decide (v < t - g.passband)
  | .low => decide (t + g.passband < v)

/-! ## One valid sample (R131, R133) -/

/-- The channel after one valid sample, before any make or break is taken. -/
def GuardChannel.sample (g : GuardConfig) (v t : Int) (k : GuardChannel) : GuardChannel :=
  let seen := { k with lastValue := some v, lastThreshold := some t }
  if k.made then
    if k.latched then { seen with makeRun := 0, breakRun := 0 }
    else { seen with makeRun := 0, breakRun := if breakHolds g v t then k.breakRun + 1 else 0 }
  else if k.inhibitPending then
    { seen with makeRun := 0, breakRun := 0, inhibitPending := makeHolds g v t }
  else { seen with makeRun := if makeHolds g v t then k.makeRun + 1 else 0, breakRun := 0 }

/-- Whether a channel makes after a sample: its make run has reached the make count (R131). -/
def GuardChannel.dueToMake (g : GuardConfig) (k : GuardChannel) : Bool :=
  !k.made && decide (0 < k.makeRun) && decide (g.makeCount ≤ k.makeRun)

/-- Whether a channel breaks after a sample: its break run has reached the break count (R131). -/
def GuardChannel.dueToBreak (g : GuardConfig) (k : GuardChannel) : Bool :=
  k.made && !k.latched && decide (0 < k.breakRun) && decide (g.breakCount ≤ k.breakRun)

/-! ## Contacts (R138) -/

/-- Whether a contact is energized in RUNNING, by its channel's state and sense (R138). -/
def energized (sense : ContactSense) (made : Bool) : Bool :=
  match sense with
  | .normal => made
  | .failsafe => !made

/-- A channel's contact driven by its state (R138). -/
def Part.driveContact (c : ChannelNo) (s : Part) : Part :=
  match (s.guardConfig c).contact with
  | some n =>
    { s with guard :=
        { s.guard with
          contacts := s.guard.contacts.set n (energized (s.guardConfig c).sense s.guard.channels[c].made) } }
  | none => s

/-! ## Make and break (R135 to R137) -/

/-- The route a route action names (R116). -/
def actionRoute : GuardAction → Option Route
  | .forceTransmix => some (.outlet transmix)
  | .forceClosed => some .closed
  | .alarm => none
  | .endOrder => none
  | .holdLaunch => none

/-- A channel's action applied at its make (R136). -/
def Part.applyAction (c : ChannelNo) (a : GuardAction) (s : Part) : Part :=
  match actionRoute a with
  | some r => s.overrideMade c r
  | none => if a = .endOrder then s.guardEnd else s

/-- A channel's action withdrawn at its break or release (R137). -/
def Part.withdrawAction (c : ChannelNo) (a : GuardAction) (s : Part) : Part :=
  match actionRoute a with
  | some _ => s.overrideGone c
  | none => if a = .holdLaunch ∧ s.holdLaunchMade = false then s.cutTest else s

/-- A channel makes, in the order of R135. -/
def Part.guardMake (c : ChannelNo) (s : Part) : Part :=
  let g := s.guardConfig c
  let made := s.modChannel c (fun k => { k with made := true, makeRun := 0, breakRun := 0, latched := g.latch })
  let recorded := made.writeRecord (.guard c .made g.action made.guard.channels[c].lastValue)
  ((recorded.raise .guardMade).applyAction c g.action).driveContact c

/-- A channel breaks or is released, in the order of R137. -/
def Part.guardBreak (event : GuardEvent) (c : ChannelNo) (s : Part) : Part :=
  let g := s.guardConfig c
  let broken := s.modChannel c (fun k =>
    { k with made := false, makeRun := 0, breakRun := 0, latched := false })
  let recorded := broken.writeRecord (.guard c event g.action broken.guard.channels[c].lastValue)
  (recorded.withdrawAction c g.action).driveContact c

/-! ## Evaluation (R131, R132) -/

/-- One channel evaluated on a sample event. Its source is read of `taken`, the part as it stands when the guard
unit takes the event (R128), and the channel itself of `s`, as the channels before it leave it (R131). That the
threshold in force is read of `taken` too is DEDUCED: R129 names no moment (log entry 57). A channel that is not
enabled, and an invalid sample, leave it as it is (R130, R132). -/
def Part.evaluateChannel (e : Sample) (n : Counted) (taken s : Part) (c : ChannelNo) : Part :=
  let g := s.guardConfig c
  if g.enable then
    match taken.sourceValue e n g.source, taken.threshold g with
    | some v, some t =>
      let seen := s.modChannel c (GuardChannel.sample g v t)
      if (seen.guard.channels[c]).dueToMake g then seen.guardMake c
      else if (seen.guard.channels[c]).dueToBreak g then seen.guardBreak .broken c
      else seen
    | _, _ => s
  else s

/-- The guard unit takes a sample event: the channels in order (R131), each with its source as it stands now
(R128). -/
def Part.evaluateGuards (e : Sample) (n : Counted) (s : Part) : Part :=
  allChannels.foldl (Part.evaluateChannel e n s) s

/-! ## START (R130, R138) -/

/-- A channel's working state at START (R130). -/
def GuardChannel.atStart (g : GuardConfig) : GuardChannel :=
  { GuardChannel.afterReset with inhibitPending := g.inhibit }

/-- The guard unit at START: BROKEN channels with their inhibit pending, and the contacts of enabled
FAILSAFE channels energized (R130, R138). -/
def Part.startGuards (s : Part) : Part :=
  { s with guard :=
      { channels := Vector.ofFn (fun c => GuardChannel.atStart s.cfg.guards[c])
        contacts := Vector.ofFn (fun n => allChannels.any (fun c =>
          (s.guardConfig c).enable && decide ((s.guardConfig c).contact = some n) &&
            decide ((s.guardConfig c).sense = .failsafe))) } }

end Sys2Proof.Machine
end

