-- ==== Sys2Proof/Machine/Peer.lean ====
section
/-! DEFINITION. The peer monitor (chapter 10): the peer table, silence, received STATUS notices, the answer to a
TRAIN REQUEST, the sync with its reassembly buffer and merge, and the taking of a notice from the inbound
queue. -/

namespace Sys2Proof.Machine

/-- The part with its peer monitor changed. -/
def Part.modPeer (f : PeerMonitor → PeerMonitor) (s : Part) : Part := { s with peer := f s.peer }

/-! ## The peer table (R155) -/

/-- The entry of a station. -/
def findPeer (station : Nat) (table : List PeerEntry) : Option PeerEntry :=
  table.find? (fun e => decide (e.station = station))

/-- The table with one station's entry changed. -/
def updatePeer (station : Nat) (f : PeerEntry → PeerEntry) (table : List PeerEntry) : List PeerEntry :=
  table.map (fun e => if e.station = station then f e else e)

/-- An entry as its first notice creates it (R155). -/
def newPeer (station chainage : Nat) : PeerEntry :=
  { station := station, chainage := chainage, role := none, startCount := none, delivered := none,
    interval := none, silent := false, expiry := none, rate := none, atMeter := none, flags := none }

/-- The table with an entry for a station, in station-number order (R155). -/
def withPeer (station chainage : Nat) (table : List PeerEntry) : List PeerEntry :=
  if (findPeer station table).isSome then table
  else table.filter (fun e => decide (e.station < station)) ++
    newPeer station chainage :: table.filter (fun e => decide (station < e.station))

/-- The part with one station's entry changed. -/
def Part.modEntry (station : Nat) (f : PeerEntry → PeerEntry) (s : Part) : Part :=
  s.modPeer (fun p => { p with table := updatePeer station f p.table })

/-- The role that a notice names: only a STATUS names one (R155). -/
def Body.role : Body → Option Role
  | .status role _ _ _ _ _ _ => some role
  | .launch .. => none
  | .passage .. => none
  | .hold .. => none
  | .trainRequest .. => none
  | .report .. => none

/-- An entry after a notice, before the notice's own handling: its chainage, a STATUS's role and interval,
and its silence ended (R155, R156, R157). -/
def PeerEntry.heard (n : Received) (e : PeerEntry) : PeerEntry :=
  let told := { e with chainage := n.chainage, silent := false }
  match n.body with
  | .status role _ interval _ _ _ _ => { told with role := some role, interval := some (max 2 (min 60 interval)) }
  | _ => told

/-- Whether a notice changes what R67 names of an entry: its chainage, a role already held, or its
silence. -/
def PeerEntry.handsOff (n : Received) (e : PeerEntry) : Bool :=
  decide (e.chainage ≠ n.chainage) || e.silent ||
    (match e.role, n.body.role with
     | some r, some q => decide (r ≠ q)
     | _, _ => false)

/-- A notice reaches the peer monitor for its source's entry (R155, R156). -/
def Part.hearPeer (n : Received) (s : Part) : Part :=
  let listed := s.modPeer (fun p => { p with table := withPeer n.source n.chainage p.table })
  match findPeer n.source listed.peer.table with
  | none => listed
  | some e =>
    let told := (listed.modEntry n.source (PeerEntry.heard n)).raiseIf
      (decide (e.chainage ≠ n.chainage)) .chainageChanged
    if e.handsOff n then Part.handOffReleased s told else told

/-- The silence expiry set from the interval held, once a notice has been taken (R156). -/
def Part.renewExpiry (station : Nat) (s : Part) : Part :=
  s.modEntry station (fun e =>
    { e with expiry := e.interval.map (fun i => s.now + 4 * i * bitsPerSecond) })

/-- The silence expiry of a station is reached (R156). -/
def Part.silenceExpired (station : Nat) (s : Part) : Part :=
  match (findPeer station s.peer.table).bind PeerEntry.expiry with
  | none => s
  | some moment =>
    s.whenDue moment (fun t =>
      Part.handOffReleased t
        ((t.modEntry station (fun e => { e with silent := true, expiry := none })).raise .peerSilent))

/-! ## STATUS received (R157) -/

/-- The three ways a delivered counter is settled (R157). -/
inductive Settled where
  | baseline
  | delta (n : Nat)
  | rebaseline
  deriving DecidableEq, Repr

/-- How a STATUS settles an entry's delivered counter (R157). -/
def PeerEntry.settle (e : PeerEntry) (startCount : BitVec 16) (delivered : Counter) : Settled :=
  match e.delivered with
  | none => .baseline
  | some old =>
    if e.startCount = some startCount ∧ (delivered - old).toNat < 2147483648 then
      .delta (delivered - old).toNat
    else .rebaseline

/-- A STATUS handled by the peer monitor, after its entry has been updated (R157). -/
def Part.takeStatus (source : Nat) (startCount : BitVec 16) (delivered : Counter) (rate : Nat)
    (atMeter : Option BatchNo) (flags : StatusFlags) (s : Part) : Part :=
  match findPeer source s.peer.table with
  | none => s
  | some e =>
    let stored := s.modEntry source (fun x =>
      { x with startCount := some startCount, delivered := some delivered, rate := some rate
               atMeter := atMeter, flags := some flags })
    match e.settle startCount delivered with
    | .baseline => stored
    | .delta n => stored.applyDelta e.chainage n
    | .rebaseline =>
      match e.role with
      | some role => (stored.raise .peerRestart).applyRestart role e.chainage
      | none => stored.raise .peerRestart

/-- The STATUS this station hands (R158). -/
def Part.statusNotice (s : Part) : Notice :=
  .status s.cfg.role s.image.startCount s.cfg.statusInterval

/-- One STATUS interval has elapsed (R158). -/
def Part.statusDue (s : Part) : Part :=
  match s.peer.nextStatus with
  | none => s
  | some due =>
    s.whenDue due (fun t =>
      (t.modPeer (fun p =>
        { p with nextStatus := some (due + t.cfg.statusInterval * bitsPerSecond) })).enqueue t.statusNotice)

/-! ## Answering a TRAIN REQUEST (R159, R143) -/

/-- The snapshot: the batches of the records that have a head interface, in train order (R159). -/
def Part.snapshot (s : Part) : List BatchNo :=
  (s.train.records.filter (fun r => r.head.isSome)).map BatchRecord.batch

/-- The number of segments of a report of `e` entries (R143). -/
def segmentCount (e : Nat) : Nat := if e = 0 then 1 else (e + 2) / 3

/-- Segment `i` of a report, from 0 (R159). -/
def segmentAt (dest : Nat) (tag : BitVec 16) (batches : List BatchNo) (i : Nat) : Notice :=
  .report dest (decide (i = 0)) (decide (i + 1 = segmentCount batches.length)) dest tag batches.length
    ((batches.drop (3 * i)).take 3)

/-- A TRAIN REQUEST answered, where there is room for the report (R159, R143). -/
def Part.answerRequest (source : Nat) (tag : BitVec 16) (s : Part) : Part :=
  let batches := s.snapshot
  let segments := (List.range (segmentCount batches.length)).map (segmentAt source tag batches)
  if s.roomFor segments.length then segments.foldl (fun t n => t.enqueue n) s else s

/-! ## The sync (R161 to R164) -/

/-- SYNC FROM accepted: the tag advances, the sync begins, and the TRAIN REQUEST is handed (R161). The phase
is set first, so that a request dropped at once finds the sync it belongs to. -/
def Part.beginSync (station : Nat) (s : Part) : Part :=
  let tag := s.peer.tag + 1
  (s.modPeer (fun p =>
    { p with tag := tag, phase := .waitingSent, syncStation := some station, partialTotal := none,
             buffer := [] })).enqueue (.trainRequest station tag)

/-- The expiry of the sync timer, while a sync awaits or receives (R161). -/
def SyncPhase.expiry? : SyncPhase → Option Nat
  | .idle => none
  | .waitingSent => none
  | .awaiting e => some e
  | .receiving e => some e

/-- The TRAIN REQUEST has left: the sync awaits its report, and the timer starts (R148, R161). -/
def Part.requestLeft (s : Part) : Part :=
  match s.peer.phase with
  | .waitingSent =>
    s.modPeer (fun p => { p with phase := .awaiting (s.now + syncSeconds * bitsPerSecond) })
  | _ => s

/-- The sync timer expires (R164). -/
def Part.syncExpired (s : Part) : Part :=
  match s.peer.phase.expiry? with
  | some moment => s.whenDue moment (Part.failSync .timeout)
  | none => s

/-- What the checks of R162 decide for a segment that is no stray and carries the right key. -/
inductive Verdict where
  | fails (reason : SyncFailure)
  | appends
  deriving DecidableEq, Repr

/-- The checks of R162 from the top of its table: `total` is the partial report's declared total, absent
while it is empty, and `count` the entries received so far. A segment that restarts the report is judged
with both emptied. -/
def judgeSegment (total : Option Nat) (count : Nat) (first last : Bool) (declared entries : Nat) : Verdict :=
  if total.isNone && !first then .fails .missingFirst
  else if total.isSome && !first && decide (total ≠ some declared) then .fails .totalChanged
  else if first && decide (maxReport < declared) then .fails .tooMany
  else if entries = 0 ∧ 0 < declared then .fails .emptySegment
  else if declared < count + entries then .fails .tooMany
  else if last && decide (count + entries ≠ declared) then .fails .short
  else .appends

/-- A segment's entries as they are buffered (R163). -/
def Part.translated (s : Part) (chainage : Nat) (entries : List ReportEntry) : List ReportEntry :=
  entries.map (fun e => { e with d := holdD (e.d + (s.cfg.chainage : Int) - chainage) })

/-- The four counts of a merge (R164). -/
structure MergeCounts where
  inserted : Nat
  known : Nat
  refused : Nat
  vacant : Nat
  deriving DecidableEq, Repr

/-- A report entry counted by what the train store makes of it (R164). -/
def MergeCounts.tally (n : MergeCounts) (vacant origin : Bool) (a : Admission) : MergeCounts :=
  if vacant then { n with vacant := n.vacant + 1 }
  else if origin then { n with refused := n.refused + 1 }
  else
    match a with
    | .known => { n with known := n.known + 1 }
    | .refused => { n with refused := n.refused + 1 }
    | .full => { n with refused := n.refused + 1 }
    | .room => { n with inserted := n.inserted + 1 }

/-- The buffered entries merged in buffer order (R164). -/
def mergeEntries (source chainage : Nat) : List ReportEntry → Part × MergeCounts → Part × MergeCounts
  | [], x => x
  | e :: rest, (s, n) =>
    let vacant := decide (e.state = .gone)
    let counted := n.tally vacant (decide (s.cfg.role = .origin)) (s.admission e.batch)
    mergeEntries source chainage rest
      (if vacant then (s, counted) else (s.mergeEntry source chainage e, counted))

/-- A complete report merged, and the sync ended MERGED (R164). The station asked, j, becomes absent: DESIGN
CHOICE (log entry 53). -/
def Part.mergeReport (source chainage : Nat) (s : Part) : Part :=
  let done := mergeEntries source chainage s.peer.buffer
    (s, { inserted := 0, known := 0, refused := 0, vacant := 0 })
  done.1.modPeer (fun p =>
    { p with
      phase := .idle, syncStation := none, partialTotal := none, buffer := []
      lastOutcome := .merged done.2.inserted done.2.known done.2.refused done.2.vacant })

/-- A segment appended: FIRST restarts the report, and LAST completes it (R162, R163, R164). -/
def Part.appendSegment (source chainage expiry : Nat) (first last : Bool) (declared : Nat)
    (entries : List ReportEntry) (s : Part) : Part :=
  let kept := if first then [] else s.peer.buffer
  let appended := s.modPeer (fun p =>
    { p with
      phase := .receiving expiry
      partialTotal := some declared
      buffer := kept ++ s.translated chainage entries })
  if last then appended.mergeReport source chainage else appended

/-- A TRAIN REPORT segment handled (R162). -/
def Part.takeSegmentNotice (source chainage : Nat) (first last : Bool) (keyStation : Nat)
    (keyTag : BitVec 16) (declared : Nat) (entries : List ReportEntry) (s : Part) : Part :=
  match s.peer.phase.expiry? with
  | none => s.modPeer (fun p => { p with strays := hold16 (p.strays + 1) })
  | some expiry =>
    if s.peer.syncStation ≠ some source then
      s.modPeer (fun p => { p with strays := hold16 (p.strays + 1) })
    else if keyStation ≠ s.cfg.station ∨ keyTag ≠ s.peer.tag then s.failSync .key
    else
      let total := if first then none else s.peer.partialTotal
      let count := if first then 0 else s.peer.buffer.length
      match judgeSegment total count first last declared entries.length with
      | .fails reason => s.failSync reason
      | .appends => s.appendSegment source chainage expiry first last declared entries

/-! ## Taking a notice (R150) -/

/-- A notice's own handling, by kind (R150). -/
def Part.handleNotice (n : Received) (s : Part) : Part :=
  match n.body with
  | .launch batch product _ leadProduct nominated width trail =>
    s.takeLaunch n.source batch product leadProduct nominated width trail
  | .passage batch product leadProduct trail width _ _ _ _ _ _ =>
    s.takePassage n.source n.chainage batch product leadProduct trail width
  | .hold slots => s.takeHold n.source slots
  | .trainRequest tag => s.answerRequest n.source tag
  | .report first last keyStation keyTag total entries =>
    s.takeSegmentNotice n.source n.chainage first last keyStation keyTag total entries
  | .status _ startCount _ delivered rate atMeter flags =>
    s.takeStatus n.source startCount delivered rate atMeter flags

/-- The kind code of an accepted notice (12.2). -/
def Body.kind : Body → Nat
  | .launch .. => 1
  | .passage .. => 2
  | .hold .. => 3
  | .trainRequest .. => 4
  | .report .. => 5
  | .status .. => 6

/-- One notice taken whole: it leaves the queue, its source's entry is updated, it is handled, and the
silence expiry is set again (R150, R155, R156). -/
def Part.takeNotice (n : Received) (s : Part) : Part :=
  (((s.leaveInbound).hearPeer n).handleNotice n).renewExpiry n.source

/-- The oldest inbound notice taken, when it is of a kind (R150). A command for another kind finds nothing
to take (log entry 12). -/
def Part.takeOldest (kind : Nat) (s : Part) : Part :=
  match s.bus.inbound with
  | [] => s
  | n :: _ => if n.body.kind = kind then s.takeNotice n else s

end Sys2Proof.Machine
end

