-- ==== Sys2Proof/Machine/Status.lean ====
section
/-! DEFINITION. What the station computer reads (R19, R32, R48, R72, R93, R113, R126, R139, R153, R165, R173 to R175),
as the octets that R177 and chapter 12 lay out. -/

namespace Sys2Proof.Machine

/-! ## Small codings (R177; log entry 20) -/

/-- A route: CLOSED is 1, outlet n is n + 1. -/
def routeCode : Route → Nat
  | .closed => 1
  | .outlet o => outletNumber o + 1

/-- A current route: UNKNOWN is 1, CLOSED is 2, outlet n is n + 2. -/
def currentCode : CurrentRoute → Nat
  | .unknown => 1
  | .known r => routeCode r + 1

/-- A part state, in the order of the table of 11.3. -/
def stateCode : PartState → Nat
  | .loading => 1
  | .standby => 2
  | .configFault => 3
  | .programming => 4
  | .running => 5

/-- A reset cause, in the order of R175. -/
def causeCode : ResetCause → Nat
  | .powerOn => 1
  | .resetLine => 2

/-- A detection channel, in the order of R2. -/
def channelCode : Channel → Nat
  | .density => 1
  | .marker => 2
  | .volume => 3

/-- A batch status, in the order of R1. -/
def statusCode : BatchStatus → Nat
  | .approaching => 1
  | .present => 2
  | .departed => 3

/-- A command state, in the order of R114. -/
def commandCode : CommandState → Nat
  | .idle => 1
  | .opening => 2
  | .closing => 3

/-- A last fault, in the order of R114. -/
def outletFaultCode : OutletFault → Nat
  | .none_ => 1
  | .openTimeout => 2
  | .closeTimeout => 3
  | .uncommanded => 4

/-- A phase of a change, in the order of R114. -/
def phaseCode : ChangePhase → Nat
  | .opening => 1
  | .closing => 2
  | .clearing => 3

/-- The compare of a guard channel, by the image's codes (12.5). -/
def compareCode : Compare → Nat
  | .high => 0
  | .low => 1

/-- A last store outcome, in the order of R171. -/
def storeCode : StoreOutcome → Nat
  | .none_ => 1
  | .good => 2
  | .failed => 3

/-- Why a sync failed, in the order of R161, R162 and R164. -/
def failureCode : SyncFailure → Nat
  | .notSent => 1
  | .key => 2
  | .missingFirst => 3
  | .tooMany => 5
  | .totalChanged => 4
  | .emptySegment => 6
  | .short => 7
  | .timeout => 8

/-- An outlet's position from its two taken levels (R30): OPEN, SHUT, MOVING, BOTH. -/
def positionCode (open_ closed : Bool) : Nat :=
  match open_, closed with
  | true, false => 1
  | false, true => 2
  | false, false => 3
  | true, true => 4

/-- One outlet and its volume (R89). -/
def putMix (e : Outlet × Nat) : List Octet := be1 (outletNumber e.1) ++ be4 e.2

/-! ## READ STATUS, block by block -/

/-- Readiness of an analyser: READY, not READY, NOT_FITTED (R32). -/
def readinessCode (fitted ready : Bool) : Nat := if !fitted then 3 else if ready then 1 else 2

/-- A reading channel (R32). -/
def putChannel (c : ReadingChannel) : List Octet :=
  optField 3 (fun (l : Int × Bool) => sbe2 l.1 ++ flag l.2) c.last ++ optField 2 sbe2 c.lastValid

/-- An outlet's levels and position (R32). -/
def Part.putLevels (s : Part) (o : Outlet) : List Octet :=
  flags [s.openLevel o, s.closedLevel o] ++ be1 (positionCode (s.openLevel o) (s.closedLevel o))

/-- The instrument interface (R32). T_HELD and P_HELD take an octet each, behind the value in use: DEDUCED (log
entry 20). -/
def Part.instrumentStatus (s : Part) : List Octet :=
  s.inst.channels.toList.flatMap putChannel ++
    be1 (readinessCode s.cfg.densityFitted s.inst.densityReady) ++ be1 s.inst.densityWarmup ++
    be1 (readinessCode s.cfg.markerFitted s.inst.markerReady) ++ be1 s.inst.markerWarmup ++
    sbe2 s.inst.tempInUse ++ flag s.inst.tHeld ++ sbe2 s.inst.pressInUse ++ flag s.inst.pHeld ++
    be2 s.inst.missedRun ++ be2 s.inst.missedTotal ++
    be4 s.inst.trunkPending ++ be4 s.inst.deliveryPending ++
    allOutlets.flatMap s.putLevels

/-- The last corrected density with its usable mark (R48) and the sample event it came from (R43), whose code
is a free value (log entry 56). -/
def putDensity (d : CorrectedDensity) : List Octet :=
  be2 d.value ++ flag d.usable ++ be4 (Config.sampleEventCode d.event).toNat

/-- The volume unit (R48, R43). -/
def Part.volumeStatus (s : Part) : List Octet :=
  let trunk := usesTrunk s.cfg.role
  let delivery := s.cfg.role.delivers
  be1 s.vol.product.val ++ flag s.vol.uncorrected ++ optField 4 be4 s.vol.lastVcf ++
    be4 s.vol.trunkCounter.toNat ++ be4 s.vol.deliveredCounter.toNat ++ be4 s.vol.arrivalCounter.toNat ++
    (if trunk then be2 s.vol.trunkAcc else []) ++ (if delivery then be2 s.vol.deliveryAcc else []) ++
    (if trunk then be4 s.vol.trunkResidue else []) ++
    (if delivery then be4 s.vol.deliveryResidue else []) ++
    optField 7 putDensity s.vol.lastDensity ++
    be4 s.flowRate ++ be1 s.vol.flowWindow.length ++ be4 s.vol.tally

/-- A reference set (R93). No range is stated for thr and p, which take four octets (R177). -/
def putRefs (r : RefSet) : List Octet :=
  be2 r.a ++ be2 r.b ++ be2 r.ta ++ be2 r.tb ++ be1 (if r.rising then 1 else 2) ++ be4 r.thr ++ be4 r.p

/-- The interface detector (R93). The chosen channel and the reference set are optional items, absent where there is
none: DEDUCED (log entry 61). -/
def Part.detectorStatus (s : Part) : List Octet :=
  optField 2 (fun (b : BatchNo) => be2 b.toNat) s.det.window ++
    optField 1 (fun c => be1 (channelCode c)) (s.windowHead.bind (fun w => w.2.channel)) ++
    optField 17 putRefs s.det.refs ++
    be1 s.det.leadCount ++ be1 s.det.midCount ++ be1 s.det.trailCount ++ be1 s.det.breakRun ++
    optField 4 (fun (c : Counter) => be4 c.toNat) s.det.midStamp ++ listField putMix s.det.mix

/-- One outlet of the outlet controller (R126). -/
def putOutlet (o : OutletState) : List Octet :=
  be1 (commandCode o.command) ++ flag o.stuckOpen ++ be1 (outletFaultCode o.lastFault)

/-- A route in one octet (R126). -/
def putRoute (r : Route) : List Octet := be1 (routeCode r)

/-- The change in flight with the whole seconds left (R126). -/
def Part.putChange (s : Part) (c : Change) : List Octet :=
  be1 (currentCode c.source) ++ putRoute c.target ++ be1 (phaseCode c.phase) ++
    be4 (s.secondsLeft c.expiry)

/-- The outlet controller (R126). -/
def Part.outletStatus (s : Part) : List Octet :=
  optField 1 (fun m => be1 (modeCode m)) s.outlet.mode ++ be1 (currentCode s.outlet.current) ++
    optField 1 putRoute s.outlet.target ++ optField 1 putRoute s.outlet.planned ++
    optField 1 (fun (e : ChannelNo × Route) => be1 (e.1.val + 1)) s.outlet.override.head? ++
    optField 7 s.putChange s.outlet.change ++ optField 1 putRoute s.outlet.pending ++
    s.outlet.outlets.toList.flatMap putOutlet ++
    flags [s.outlet.conflictHold, s.outlet.reported] ++ optField 1 putRoute s.outlet.wanted

/-- One guard channel (R139). The source, tracking, action and contact of a channel that is not enabled show
as `guardAt` reads them (log entry 49), and a threshold in force beyond the four octets shows modulo 2^32
(log entry 50). The last value takes four octets whatever its source: DEDUCED, R130 and R139 state no range for a
source value (log entry 68). -/
def Part.putGuard (s : Part) (c : ChannelNo) : List Octet :=
  let g := s.guardConfig c
  let k := s.guard.channels[c]
  flag g.enable ++ be1 (sourceCode g.source) ++ be1 (compareCode g.compare) ++
    be1 (trackingCode g.tracking) ++ be1 (actionCode g.action) ++
    be1 ((g.contact.map (fun n => n.val + 1)).getD 0) ++
    be1 (if k.made then 2 else 1) ++ be1 k.makeRun ++ be1 k.breakRun ++
    flags [k.latched, k.inhibitPending] ++ optField 4 sbe4 k.lastValue ++ optField 4 sbe4 k.lastThreshold

/-- The guard unit (R139). -/
def Part.guardStatus (s : Part) : List Octet :=
  allChannels.flatMap s.putGuard ++ flags s.guard.contacts.toList

/-- The twelve link statistics (R153). -/
def putStats (t : LinkStats) : List Octet :=
  [t.framesSent, t.collisions, t.excessive, t.late, t.deferrals, t.evicted, t.framesReceived, t.badCheck,
    t.filtered, t.malformed, t.inboundDropped, t.downstreamPassages].flatMap be2

/-- The notices of a class in the outbound queue (R153). -/
def countClass (c : Nat) (q : List Queued) : Nat := q.countP (Queued.ofClass c)

/-- The line bus controller (R153). An empty transmit buffer shows as an optional item that is absent: DEDUCED (log
entry 61). Of the slots left a part slot is left out: DESIGN CHOICE (log entry 63). -/
def Part.busStatus (s : Part) : List Octet :=
  putStats s.bus.stats ++
    be1 (countClass 1 s.bus.outbound) ++ be1 (countClass 2 s.bus.outbound) ++
    be1 (countClass 3 s.bus.outbound) ++
    optField 3 (fun (b : TxBuffer) => be1 b.notice.kind ++ be1 b.notice.cls ++ be1 b.collisions)
      s.bus.buffer ++
    be1 s.bus.inbound.length ++
    optField 5 (fun (h : PeerHold) => be1 h.holder ++ be4 ((h.expiry - s.now) / bitsPerSlot))
      s.bus.peerHold ++
    be1 (if s.bus.holdSent then 2 else 1)

/-- The four flags of a received STATUS (12.2). -/
def putPeerFlags (f : StatusFlags) : List Octet :=
  flags [f.densityReady, f.markerReady, f.anyDegraded, f.holdSent]

/-- One peer table entry (R165, R155). Before the peer's first STATUS its last rate and flags are optional items that
are absent: DEDUCED, R165 does not call them optional (log entry 61). -/
def putPeer (e : PeerEntry) : List Octet :=
  be1 e.station ++ be4 e.chainage ++ optField 1 (fun r => be1 (roleCode r)) e.role ++
    optField 2 (fun (n : BitVec 16) => be2 n.toNat) e.startCount ++
    optField 4 (fun (n : Counter) => be4 n.toNat) e.delivered ++ optField 1 be1 e.interval ++
    flag e.silent ++ optField 4 (fun m => be4 (Config.momentCode m).toNat) e.expiry ++
    optField 4 be4 e.rate ++ optField 2 (fun (b : BatchNo) => be2 b.toNat) e.atMeter ++
    optField 1 putPeerFlags e.flags

/-- The sync phase, in the order of R161's table; absent with no sync in progress (R165). -/
def syncPhaseCode : SyncPhase → Option Nat
  | .idle => none
  | .waitingSent => some 1
  | .awaiting _ => some 2
  | .receiving _ => some 3

/-- The outcome of the last sync, each with the items that go with it (R165). No range is stated for the four
counts, which take four octets each (R177). -/
def putOutcome : SyncOutcome → List Octet
  | .none_ => be1 1
  | .merged inserted known refused vacant =>
    be1 2 ++ be4 inserted ++ be4 known ++ be4 refused ++ be4 vacant
  | .failed reason => be1 3 ++ be1 (failureCode reason)

/-- The peer monitor (R165). With no sync in progress j is absent: DESIGN CHOICE, R165 does not say whether the
last one stays (log entry 53). The phase, the two times left and the declared total are optional items, absent while no
sync is in progress, while the timer does not run and before a FIRST: DEDUCED, R165 does not call them optional (log
entry 61). -/
def Part.peerStatus (s : Part) : List Octet :=
  listField putPeer s.peer.table ++ optField 1 be1 (syncPhaseCode s.peer.phase) ++
    optField 1 be1 s.peer.syncStation ++ be2 s.peer.tag.toNat ++
    optField 4 (fun m => be4 (s.secondsLeft m)) s.peer.phase.expiry? ++
    be1 s.peer.buffer.length ++ optField 1 be1 s.peer.partialTotal ++ putOutcome s.peer.lastOutcome ++
    be2 s.peer.strays ++ optField 4 (fun m => be4 (s.secondsLeft m)) s.peer.nextStatus

/-- The offset of the first failing field, as READ STATUS shows it: absent in every state but CONFIG_FAULT
(R168). A part PROGRAMMING from CONFIG_FAULT keeps it for its return (R171). -/
def ImageStore.shownOffset (i : ImageStore) : Option Nat :=
  if i.state = .configFault then i.failOffset else none

/-- The image store (R168, R171). -/
def Part.imageStatus (s : Part) : List Octet :=
  optField 2 be2 s.image.shownOffset ++ be1 (storeCode s.image.lastStore)

/-- The seventeen flags in three octets (R174): bit n - 1 of the field for the n-th (R177), its most
significant octet first (5.6), as the clear mask is laid out (12.3). -/
def StationPort.flagOctets (p : StationPort) : List Octet := be3 p.alarms.toNat

/-- What READ STATUS reports, in the order of the rules that list it (R174, R177). -/
def Part.statusPayload (s : Part) : List Octet :=
  s.port.flagOctets ++ s.instrumentStatus ++ s.volumeStatus ++ flag s.anyDegraded ++ s.detectorStatus ++
    s.outletStatus ++ s.guardStatus ++ s.busStatus ++ s.peerStatus ++ s.imageStatus

/-! ## READ TRAIN (R19, R1, R2, R72) -/

/-- A stage record (R2). -/
def putStage (r : StageRecord) : List Octet := be1 (methodCode r.method) ++ be4 r.stamp.toNat

/-- A cut plan's segments and its frozen indication (R2). -/
def putPlan (p : CutPlan) : List Octet :=
  putRoute p.s0.route ++ putRoute p.s1.route ++ putRoute p.s2.route ++ putRoute p.s3.route ++ flag p.frozen

/-- A head interface: the fields of R2 and the two derived values of R72. -/
def Part.putHead (s : Part) (h : HeadInterface) : List Octet :=
  be1 h.leading.val ++ be1 (headStateCode h.state) ++ sbe4 h.d ++ be4 h.w ++ be4 h.u ++
    be1 h.anchorStation ++ be4 h.anchorChainage ++
    flags [h.overdue, h.early, h.clamped, h.restartMark] ++
    optField 1 (fun c => be1 (channelCode c)) h.channel ++
    optField 5 putStage h.leadRec ++ optField 5 putStage h.midRec ++ optField 5 putStage h.trailRec ++
    optField 5 putPlan h.plan ++ optField 4 sbe4 h.midError ++ optField 4 be4 h.measuredWidth ++
    be4 (armingDistance s.cfg h) ++ flag (s.degraded h)

/-- The octets of a head interface, whatever it holds. -/
abbrev headOctets : Nat := 61

/-- A batch record: the fields of R1. -/
def Part.putRecord (s : Part) (r : BatchRecord) : List Octet :=
  be2 r.batch.toNat ++ be1 r.product.val ++ optField 4 be4 r.nominated ++ be1 (statusCode r.status) ++
    optField headOctets s.putHead r.head ++ be4 r.delivered.toNat ++ optField 1 be1 r.orderLink

/-- The number of records and the retired horizon (R19). -/
def Part.trainTail (s : Part) : List Octet :=
  be1 s.train.records.length ++ optField 2 (fun (b : BatchNo) => be2 b.toNat) s.train.horizon

/-! ## READ ORDERS (R113) -/

/-- A delivery order (R96). -/
def putOrder (o : Order) : List Octet :=
  be1 o.number ++ be2 o.batch.toNat ++ be1 (outletNumber o.outlet) ++ be4 o.limit ++
    be1 (policyCode o.headPolicy) ++ be1 (policyCode o.tailPolicy) ++ be1 (if o.filling then 2 else 1)

/-- A segment with its owner (R113). -/
def putSegment (g : Segment) : List Octet := putRoute g.route ++ optField 1 be1 g.owner

/-- A cut plan with its owners and its frozen indication (R113). -/
def putOwnedPlan (p : CutPlan) : List Octet :=
  putSegment p.s0 ++ putSegment p.s1 ++ putSegment p.s2 ++ putSegment p.s3 ++ flag p.frozen

/-- A launch entry (R108). -/
def putLaunch (e : LaunchEntry) : List Octet :=
  be2 e.batch.toNat ++ be1 e.product.val ++ be4 e.nominated ++ be1 (outletNumber e.outlet)

/-- The current batch (R108). -/
def putCurrent (c : CurrentBatch) : List Octet :=
  be2 c.batch.toNat ++ be1 c.product.val ++ optField 4 be4 c.nominated ++
    optField 1 (fun o => be1 (outletNumber o)) c.source ++ be4 c.launched

/-- What READ ORDERS reports, by role (R113). With no order FILLING the tally is an optional item that is absent:
DEDUCED (log entry 61). The "no entries" of a RELAY are a list with a count of 0: DEDUCED, R177 gives a count to a
list whose length varies, and this one's does not (log entry 67). -/
def Part.ordersPayload (s : Part) : List Octet :=
  let planned := optField 1 putRoute s.planner.planned
  match s.cfg.role with
  | .relay => be1 0 ++ planned
  | .origin =>
    listField putLaunch s.planner.launches ++ optField 8 putLaunch s.planner.incoming ++
      optField 14 putCurrent s.planner.current ++ flag s.planner.emptyShown ++ planned
  | _ =>
    listField putOrder s.planner.orders ++ optField 4 be4 (s.fillingOrder.map (fun _ => s.vol.tally)) ++
      be1 s.planner.nextOrder ++ optField 13 putOwnedPlan s.windowPlan ++ planned

/-! ## Cut records (12.4) -/

/-- The kind code of a cut record (12.4). -/
def RecordBody.kind : RecordBody → Nat
  | .interface .. => 1
  | .delivery .. => 2
  | .launch .. => 3
  | .guard .. => 4

/-- Three pairs, the unused ones zero (12.4). -/
def putMixPairs (mix : List (Outlet × Nat)) : List Octet :=
  mix.flatMap putMix ++ List.replicate (5 * (3 - mix.length)) 0

/-- The body of a cut record (12.4). -/
def RecordBody.octets : RecordBody → List Octet
  | .interface batch leading trailing lead mid trail width error early clamped overdue degraded mix =>
    be2 batch.toNat ++ be1 leading.val ++ be1 trailing.val ++ be1 (methodsOctet lead mid trail) ++
      be4 width ++ sbe4 error ++ flags [early, clamped, overdue, degraded] ++ be1 mix.length ++
      putMixPairs mix
  | .delivery order batch outlet volume reason =>
    be1 order ++ be2 batch.toNat ++ be1 (outletNumber outlet) ++ be4 volume ++ be1 (endReasonCode reason)
  | .launch batch product launched source =>
    be2 batch.toNat ++ be1 product.val ++ be4 launched ++ be1 (outletNumber source)
  | .guard channel event action value =>
    be1 (channel.val + 1) ++ be1 (guardEventCode event) ++ be1 (actionCode action) ++ optField 4 sbe4 value

/-- A cut record (12.4). -/
def CutRecord.octets (r : CutRecord) : List Octet :=
  be1 r.body.kind ++ be2 r.seq.toNat ++ be4 r.stamp.toNat ++ r.body.octets

/-- What TAKE RECORD returns (12.3): the loss count, the number of records then in the queue, and the record
taken, if there was one. -/
def takePayload (loss : Nat) (remaining : Nat) (r : Option CutRecord) : List Octet :=
  be2 loss ++ be1 remaining ++
    (match r with
     | some x => 1 :: x.octets
     | none => [0])

/-! ## IDENTIFY (R175) -/

/-- What IDENTIFY reports (R175). In PROGRAMMING entered from CONFIG_FAULT there is no valid configuration, and
the station number, role and format version are absent (log entry 54). -/
def Part.identity (s : Part) : List Octet :=
  be4 Config.partIdentification.toNat ++ be4 Config.familyIdentification.toNat ++
    be1 (stateCode s.image.state) ++
    optField 1 (fun m => be1 (modeCode m)) s.outlet.mode ++ be1 (causeCode s.port.resetCause) ++
    be2 s.image.startCount.toNat ++
    optField 1 (fun (c : Config) => be1 c.station) s.image.config ++
    optField 1 (fun (c : Config) => be1 (roleCode c.role)) s.image.config ++
    optField 1 (fun (_ : Config) => be1 3) s.image.config ++ be2 s.port.discarded

end Sys2Proof.Machine
end

