-- ==== Sys2Proof/Machine/Requests.lean ====
section
/-! DEFINITION. The requests of the station port (chapter 11): the checks of R167, then the owning block's checks and
effects, then the response. One meaning for each request of the table, and for the two frames that are no
request. -/

namespace Sys2Proof.Machine

/-- A command's effect on the part, `dt` bit times after the command before it. The queue of waiting
commands is not touched. -/
def State.run (dt : Nat) (f : Part → Part) (s : State) : Host.Outcome State Fault Refusal :=
  .next { s with part := f (s.part.elapse dt) }

/-! ## The port's own checks (R167) -/

/-- The refusal of R167 for a request served in some part states and for some roles, or none. -/
def Part.portCheck (states : List PartState) (roles : List Role) (s : Part) : Option Result :=
  if s.image.state = .programming then some .busy
  else if !states.contains s.image.state then some .state
  else if !roles.contains s.cfg.role then some .role
  else none

/-- A request with R167's checks made: its service, or the refusal. -/
def Part.request (code : Octet) (states : List PartState) (roles : List Role) (serve : Part → Part)
    (s : Part) : Part :=
  match s.portCheck states roles with
  | some r => s.respond code r []
  | none => serve s

/-- All four roles. -/
def allRoles : List Role := [.origin, .relay, .terminal, .end_]

/-- The roles that deliver. -/
def deliveryRoles : List Role := [.terminal, .end_]

/-- The states that hold no run and no write: STANDBY and CONFIG_FAULT. -/
def idleStates : List PartState := [.standby, .configFault]

/-! ## IDENTIFY, READ STATUS (R175, R174) -/

/-- IDENTIFY (R175). -/
def Part.serveIdentify (s : Part) : Part := s.respond 0x01 .accepted s.identity

/-- Every outlet's last fault set to none (R126). -/
def Part.clearFaults (s : Part) : Part :=
  s.modOutlet (fun k =>
    { k with outlets := Vector.ofFn (fun o => { k.outlets[o] with lastFault := .none_ }) })

/-- READ STATUS (R174, R126, R124): the response, then the flags cleared, then the conflict hold
reported. -/
def Part.serveReadStatus (mask : BitVec 24) (s : Part) : Part :=
  let answered := s.respond 0x02 .accepted s.statusPayload
  let cleared := { answered with port := answered.port.clear mask }
  let faults := if mask.getLsbD (Alarm.bit .valveFault) then cleared.clearFaults else cleared
  if s.running && s.port.alarmSet .routeConflict then faults.reportConflict else faults

/-! ## The image (R169, R170, R171) -/

/-- The part with its image store changed. -/
def Part.modImage (f : ImageStore → ImageStore) (s : Part) : Part := { s with image := f s.image }

/-- STORE IMAGE (R170, R171). -/
def Part.serveStoreImage (first last : Bool) (offset : Nat) (octets : List Octet) (s : Part) : Part :=
  match stageSegment s.image.staging first last offset octets with
  | .sequence _ => (s.modImage (fun i => { i with staging := none })).respond 0x10 .sequence []
  | .value => (s.modImage (fun i => { i with staging := none })).respond 0x10 .value []
  | .taken held =>
    let staged := s.modImage (fun i => { i with staging := some held })
    if last then
      (staged.modImage ImageStore.beginProgramming).respond 0x10 .accepted (be1 (stateCode .programming))
    else staged.respond 0x10 .accepted []

/-- RELOAD IMAGE (R169). -/
def Part.serveReload (s : Part) : Part :=
  let loaded := s.modImage (fun i => ImageStore.load { i with staging := none })
  loaded.respond 0x11 .accepted (be1 (stateCode loaded.image.state) ++ optField 2 be2 loaded.image.failOffset)

/-- PROGRAMMING ends (R171). Outside PROGRAMMING nothing is being written, and nothing changes. -/
def Part.programmingEnds (good : Bool) (s : Part) : Part :=
  if s.image.state = .programming then
    (s.modImage (ImageStore.endProgramming good)).raiseIf (!good) .storeFailed
  else s

/-! ## START (R172) -/

/-- The present batch that START declares: a presence octet of 1 with a product from 1 to 15. `none` is a
value the request is refused for (R172, R177). -/
def presentOf (presence : Octet) (batch : BatchNo) (product : Octet) : Option (Option (BatchNo × Product)) :=
  if presence = 0 then some none
  else if presence = 1 then (realProductOf? product.toNat).map (fun p => some (batch, p))
  else none

/-- The record of the batch that START declares present (R11). -/
def presentRecord (batch : BatchNo) (product : Product) : BatchRecord :=
  { batch := batch, product := product, nominated := none, status := .present, head := none,
    delivered := 0, orderLink := none }

/-- The ORIGIN's current batch at START (R108). -/
def startCurrent (role : Role) (current : CurrentRoute) (present : Option (BatchNo × Product)) :
    Option CurrentBatch :=
  match role, present with
  | .origin, some (b, p) =>
    some { batch := b, product := p, nominated := none, launched := 0,
           source := match current with
             | .known (.outlet o) => some o
             | _ => none }
  | _, _ => none

/-- The mode taken: OBSERVE where the drive is inhibited (R172). -/
def modeTaken (c : Config) (m : Mode) : Mode := if c.driveEnabled then m else .observe

/-- The blocks take up their START values, in the order of R172. -/
def Part.startBlocks (m : Mode) (present : Option (BatchNo × Product)) (s : Part) : Part :=
  let sampled := (s.modInst Instruments.atStart).openRequest s.now
  let learned := sampled.learnRoute m
  let stored := learned.mapTrain (fun recs =>
    match present with
    | some (b, p) => recs ++ [presentRecord b p]
    | none => recs)
  let current := stored.modPlanner (fun k =>
    { k with current := startCurrent s.cfg.role stored.outlet.current present })
  let planned := (current.setPlanned (startRoute s.cfg.role current.outlet.current)).handPlanned
  let guarded := planned.startGuards
  let seeded := { guarded with bus :=
    { guarded.bus with generator := some (seed s.cfg.station s.image.startCount) } }
  (seeded.modPeer (fun p =>
    { p with nextStatus := some (s.now + s.cfg.statusInterval * bitsPerSecond) })).enqueue s.statusNotice

/-- START (R172). -/
def Part.serveStart (mode presence : Octet) (batch : BatchNo) (product : Octet) (s : Part) : Part :=
  match modeOf? mode.toNat, presentOf presence batch product with
  | some m, some present =>
    let taken := modeTaken s.cfg m
    let counted := s.modImage (fun i => { i with startCount := i.startCount + 1, state := .running })
    let started := counted.startBlocks taken present
    started.respond 0x12 .accepted (be1 (modeCode taken) ++ be2 started.image.startCount.toNat)
  | _, _ => s.respond 0x12 .value []

/-! ## Orders (R97, R100) -/

/-- The fitted outlet, from 1 to 6, that an operand names. -/
def Part.fittedOutlet (s : Part) (outlet : Octet) : Option Outlet :=
  (tankOutletOf? outlet.toNat).filter s.cfg.fitted

/-- An order made of a request's operands, or none for step 1 of R97. -/
def Part.orderOf (s : Part) (batch : BatchNo) (outlet : Octet) (limit : Nat) (head tail : Octet) :
    Option Order :=
  match s.fittedOutlet outlet, policyOf? head.toNat, policyOf? tail.toNat with
  | some o, some h, some t =>
    if maxDal < limit ∨ (s.cfg.role = .end_ ∧ limit ≠ 0) then none
    else some { number := s.planner.nextOrder, batch := batch, outlet := o, limit := limit,
                headPolicy := h, tailPolicy := t, filling := false }
  | _, _, _ => none

/-- Steps 2 to 5 of R97: the refusal, or none. -/
def Part.orderRefusal (s : Part) (o : Order) : Option Result :=
  match findBatch o.batch s.train.records with
  | none => some .unknownBatch
  | some r =>
    if r.status = .departed ∨ (r.status = .present ∧ s.inMix = true) then some .sequence
    else if (orderFor o.batch s.planner.orders).isSome then some .duplicate
    else if maxOrders ≤ s.planner.orders.length then some .full
    else none

/-- An order accepted (R97): it joins the queue, its batch's link names it, the next number advances, and it
starts late or the plan is recomputed. -/
def Part.acceptOrder (o : Order) (s : Part) : Part :=
  let orders := insertOrder o s.planner.orders
  let queued := s.modPlanner (fun p => { p with orders := orders, nextOrder := nextNumber o.number orders })
  let linked := queued.modBatch o.batch (fun r => { r with orderLink := some o.number })
  match (findBatch o.batch linked.train.records).map BatchRecord.status with
  | some .present => ((linked.lateStart o).handPlanned).holdEvent
  | _ => (linked.recompute).handPlanned

/-- QUEUE ORDER (R97). -/
def Part.serveQueueOrder (batch : BatchNo) (outlet : Octet) (limit : Nat) (head tail : Octet) (s : Part) :
    Part :=
  match s.orderOf batch outlet limit head tail with
  | none => s.respond 0x20 .value []
  | some o =>
    match s.orderRefusal o with
    | some r => s.respond 0x20 r []
    | none => (s.acceptOrder o).respond 0x20 .accepted (be1 o.number)

/-- CANCEL ORDER (R100). -/
def Part.serveCancelOrder (number : Nat) (s : Part) : Part :=
  match orderNumbered number s.planner.orders with
  | none => s.respond 0x21 .value []
  | some o =>
    ((s.endOrder o .cancelled).handPlanned).respond 0x21 .accepted
      (be1 (if o.filling then 2 else 1) ++ be4 (if o.filling then s.vol.tally else 0))

/-! ## Launches (R108, R112) -/

/-- A launch entry made of a request's operands, or none for R108's VALUE. -/
def Part.launchOf (s : Part) (batch : BatchNo) (product : Octet) (volume : Nat) (outlet : Octet) :
    Option LaunchEntry :=
  match realProductOf? product.toNat, s.fittedOutlet outlet with
  | some p, some o =>
    if 1 ≤ volume ∧ volume ≤ maxDal then
      some { batch := batch, product := p, nominated := volume, outlet := o }
    else none
  | _, _ => none

/-- The newest of the queue, the incoming batch and the current batch (R108). -/
def Planner.newestLaunch (p : Planner) : Option BatchNo :=
  ((p.launches.getLast?.map LaunchEntry.batch).or (p.incoming.map LaunchEntry.batch)).or
    (p.current.map CurrentBatch.batch)

/-- Whether a batch number equals that of the current batch, the incoming batch or an entry (R108). -/
def Planner.launchKnown (b : BatchNo) (p : Planner) : Bool :=
  decide (p.current.map CurrentBatch.batch = some b) || decide (p.incoming.map LaunchEntry.batch = some b) ||
    p.launches.any (fun e => decide (e.batch = b))

/-- Whether a batch number comes in order for a launch (R108). -/
def Part.launchInOrder (s : Part) (b : BatchNo) : Bool :=
  match s.planner.newestLaunch with
  | some n => serialBefore n b
  | none =>
    match s.train.horizon with
    | some h => !(decide (b = h) || serialBefore b h)
    | none => true

/-- QUEUE LAUNCH (R108). Where several refusals apply, the first in the order in which R108 lists them is
given: DEDUCED, R108 states no order (log entry 46). -/
def Part.serveQueueLaunch (batch : BatchNo) (product : Octet) (volume : Nat) (outlet : Octet) (s : Part) :
    Part :=
  match s.launchOf batch product volume outlet with
  | none => s.respond 0x22 .value []
  | some e =>
    if s.planner.launchKnown batch then s.respond 0x22 .duplicate []
    else if !s.launchInOrder batch then s.respond 0x22 .sequence []
    else if maxLaunches ≤ s.planner.launches.length then s.respond 0x22 .full []
    else
      ((s.modPlanner (fun p => { p with launches := p.launches ++ [e] })).cutTest).respond 0x22 .accepted []

/-- FORCE LAUNCH (R112). A request that meets both refusals is answered with BUSY, which R112 names first:
DEDUCED, R112 states no order (log entry 47). -/
def Part.serveForceLaunch (s : Part) : Part :=
  if s.holdLaunchMade then s.respond 0x23 .busy []
  else
    match s.planner.launches, s.planner.incoming with
    | e :: rest, none =>
      let decided := s.decideCut e rest
      decided.respond 0x23 .accepted (be2 e.batch.toNat ++ flag decided.planner.incoming.isNone)
    | _, _ => s.respond 0x23 .sequence []

/-! ## FORCE STAGE (R87) -/

/-- The state of the head interface of a batch that has been the window, as one octet. A record that has
retired since left the train with its head CLEARED (R15). -/
def Part.headStateOctet (b : BatchNo) (s : Part) : List Octet :=
  match (findBatch b s.train.records).bind BatchRecord.head with
  | some h => be1 (headStateCode h.state)
  | none => be1 (headStateCode .cleared)

/-- The response items of a served FORCE STAGE: the stages taken, the new state, and after a trailing edge
the new window (R87). The stages taken are a set, one bit each (R177; log entry 26). -/
def Part.forcePayload (b : BatchNo) (taken : List Stage) (s : Part) : List Octet :=
  flags [taken.contains .leading, taken.contains .midpoint, taken.contains .trailing] ++
    s.headStateOctet b ++
    (if taken.contains .trailing then optField 2 (fun (w : BatchNo) => be2 w.toNat) s.det.window else [])

/-- FORCE STAGE (R87). -/
def Part.serveForceStage (batch : BatchNo) (stage : Octet) (s : Part) : Part :=
  match stageOf? stage.toNat with
  | none => s.respond 0x24 .value []
  | some g =>
    match s.windowHead with
    | none => s.respond 0x24 .state []
    | some (r, h) =>
      if r.batch ≠ batch then s.respond 0x24 .unknownBatch []
      else if h.next ≠ some g then s.respond 0x24 .sequence (s.headStateOctet batch)
      else
        let done := s.force g
        done.1.respond 0x24 .accepted (done.1.forcePayload batch done.2)

/-! ## RELEASE GUARD, SYNC FROM (R134, R161) -/

/-- RELEASE GUARD (R134). -/
def Part.serveReleaseGuard (channel : Octet) (s : Part) : Part :=
  match (channelOf? channel.toNat).filter (fun c => (s.guardConfig c).enable) with
  | none => s.respond 0x25 .value []
  | some c =>
    if s.guard.channels[c].made && s.guard.channels[c].latched then
      let released := s.guardBreak .released c
      released.respond 0x25 .accepted (be1 (if released.guard.channels[c].made then 2 else 1))
    else s.respond 0x25 .sequence []

/-- SYNC FROM (R161). -/
def Part.serveSyncFrom (station : Nat) (s : Part) : Part :=
  if ¬(1 ≤ station ∧ station ≤ 48) ∨ station = s.cfg.station ∨ s.cfg.listens station = false then
    s.respond 0x26 .value []
  else if s.peer.phase ≠ .idle then s.respond 0x26 .busy []
  else (s.beginSync station).respond 0x26 .accepted (be2 (s.peer.tag + 1).toNat)

/-! ## READ TRAIN, READ ORDERS, TAKE RECORD (R19, R113, R173) -/

/-- READ TRAIN (R19). -/
def Part.serveReadTrain (index : Nat) (s : Part) : Part :=
  match s.train.records[index]? with
  | some r => s.respond 0x30 .accepted (s.putRecord r ++ s.trainTail)
  | none => s.respond 0x30 .value s.trainTail

/-- READ ORDERS (R113). -/
def Part.serveReadOrders (s : Part) : Part := s.respond 0x31 .accepted s.ordersPayload

/-- TAKE RECORD (R173). -/
def Part.serveTakeRecord (s : Part) : Part :=
  let rest := s.port.records.tail
  let taken := { s with port := { s.port with records := rest, loss := 0 } }
  taken.respond 0x32 .accepted (takePayload s.port.loss rest.length s.port.records.head?)

/-- A frame that is discarded (R166). -/
def Part.countDiscarded (s : Part) : Part :=
  { s with port := { s.port with discarded := hold16 (s.port.discarded + 1) } }

/-! ## The meanings -/

/-- POWER_ON_RESET (R175, R168). -/
def execPowerOnReset (dt : Nat) (s : State) : Host.Outcome State Fault Refusal :=
  s.run dt (Part.resetBy .powerOn)

/-- RESET_LINE_RESET (R175, R168). -/
def execResetLineReset (dt : Nat) (s : State) : Host.Outcome State Fault Refusal :=
  s.run dt (Part.resetBy .resetLine)

/-- IDENTIFY: served in every state (R167, R175). -/
def execIdentify (dt : Nat) (s : State) : Host.Outcome State Fault Refusal :=
  s.run dt Part.serveIdentify

/-- READ STATUS: served in every state (R167, R174). -/
def execReadStatus (dt : Nat) (clearMask : BitVec 24) (s : State) : Host.Outcome State Fault Refusal :=
  s.run dt (Part.serveReadStatus clearMask)

/-- STORE IMAGE (R170). -/
def execStoreImage (dt : Nat) (first last : Bool) (offset : BitVec 16) (octets : List Octet) (s : State) :
    Host.Outcome State Fault Refusal :=
  s.run dt (Part.request 0x10 idleStates allRoles (Part.serveStoreImage first last offset.toNat octets))

/-- PROGRAMMING_COMPLETE (R171). -/
def execProgrammingComplete (dt : Nat) (verifyGood : Bool) (s : State) : Host.Outcome State Fault Refusal :=
  s.run dt (Part.programmingEnds verifyGood)

/-- RELOAD IMAGE (R169). -/
def execReloadImage (dt : Nat) (s : State) : Host.Outcome State Fault Refusal :=
  s.run dt (Part.request 0x11 idleStates allRoles Part.serveReload)

/-- START (R172). -/
def execStart (dt : Nat) (mode presence : Octet) (batch : BatchNo) (product : Octet) (s : State) :
    Host.Outcome State Fault Refusal :=
  s.run dt (Part.request 0x12 [.standby] allRoles (Part.serveStart mode presence batch product))

/-- QUEUE ORDER (R97). -/
def execQueueOrder (dt : Nat) (batch : BatchNo) (outlet : Octet) (limit : BitVec 32) (head tail : Octet)
    (s : State) : Host.Outcome State Fault Refusal :=
  s.run dt (Part.request 0x20 [.running] deliveryRoles
    (Part.serveQueueOrder batch outlet limit.toNat head tail))

/-- CANCEL ORDER (R100). -/
def execCancelOrder (dt : Nat) (number : Octet) (s : State) : Host.Outcome State Fault Refusal :=
  s.run dt (Part.request 0x21 [.running] deliveryRoles (Part.serveCancelOrder number.toNat))

/-- QUEUE LAUNCH (R108). -/
def execQueueLaunch (dt : Nat) (batch : BatchNo) (product : Octet) (volume : BitVec 32) (outlet : Octet)
    (s : State) : Host.Outcome State Fault Refusal :=
  s.run dt (Part.request 0x22 [.running] [.origin]
    (Part.serveQueueLaunch batch product volume.toNat outlet))

/-- FORCE LAUNCH (R112). -/
def execForceLaunch (dt : Nat) (s : State) : Host.Outcome State Fault Refusal :=
  s.run dt (Part.request 0x23 [.running] [.origin] Part.serveForceLaunch)

/-- FORCE STAGE (R87). -/
def execForceStage (dt : Nat) (batch : BatchNo) (stage : Octet) (s : State) :
    Host.Outcome State Fault Refusal :=
  s.run dt (Part.request 0x24 [.running] [.relay, .terminal, .end_] (Part.serveForceStage batch stage))

/-- RELEASE GUARD (R134). -/
def execReleaseGuard (dt : Nat) (channel : Octet) (s : State) : Host.Outcome State Fault Refusal :=
  s.run dt (Part.request 0x25 [.running] allRoles (Part.serveReleaseGuard channel))

/-- SYNC FROM (R161). -/
def execSyncFrom (dt : Nat) (station : Octet) (s : State) : Host.Outcome State Fault Refusal :=
  s.run dt (Part.request 0x26 [.running] allRoles (Part.serveSyncFrom station.toNat))

/-- READ TRAIN (R19). -/
def execReadTrain (dt : Nat) (index : Octet) (s : State) : Host.Outcome State Fault Refusal :=
  s.run dt (Part.request 0x30 [.running] allRoles (Part.serveReadTrain index.toNat))

/-- READ ORDERS (R113). -/
def execReadOrders (dt : Nat) (s : State) : Host.Outcome State Fault Refusal :=
  s.run dt (Part.request 0x31 [.running] allRoles Part.serveReadOrders)

/-- TAKE RECORD (R173). -/
def execTakeRecord (dt : Nat) (s : State) : Host.Outcome State Fault Refusal :=
  s.run dt (Part.request 0x32 [.running] allRoles Part.serveTakeRecord)

/-- UNKNOWN REQUEST CODE: answered with VALUE, whatever the part state (R166; log entry 21). -/
def execUnknownRequestCode (dt : Nat) (code : Octet) (s : State) : Host.Outcome State Fault Refusal :=
  s.run dt (Part.respond code .value [])

/-- PORT FRAME DISCARDED (R166). -/
def execPortFrameDiscarded (dt : Nat) (s : State) : Host.Outcome State Fault Refusal :=
  s.run dt Part.countDiscarded

end Sys2Proof.Machine
end

