-- ==== Sys2Proof/Machine/Events.lean ====
section
/-! DEFINITION. The events that are no request: the sample cycle, the meters, the limit inputs and the travel timer;
frames heard, sent and collided; notices taken; and the timers of the line. One meaning for each. -/

namespace Sys2Proof.Machine

/-- An event of a block that takes events only while the part is RUNNING (5.8, R20, R29, R114, R140, R158):
in any other state it changes nothing. -/
def Part.whileRunning (f : Part → Part) (s : Part) : Part := if s.running then f s else s

/-! ## The sample event (R21, R22, R41, R70, R83) -/

/-- The cut planner's share of a sample event: the launched volume and the cut test at an ORIGIN (R108,
R109), the volume limit elsewhere (R105). -/
def Part.plannerShare (trunk : Nat) (s : Part) : Part :=
  if s.cfg.role = .origin then (s.addLaunched trunk).cutTest else s.limitTest

/-- The detector's share of a sample event after the mix list (R77, R83): the readiness reports, the
hand-off when the event's flow moved the window, and the readings while the window is still the one the
event found. -/
def Part.detectorShare (e : Sample) (n : Counted) (readiness moved : Bool) (s : Part) : Part :=
  let reported := if readiness then s.readinessReport else s
  let handed := if moved && decide (reported.det.window = s.det.window) then reported.evaluate else reported
  if handed.det.window = s.det.window then
    handed.takeReadings (n.corrected.map (fun d => (d : Int))) e.marker
  else handed

/-- A sample event (R21 to R28, R41): the instrument interface, the volume unit, the tracking engine with
the reassembly buffer, the cut planner, the detector, the guard unit, and the outlet controller in
OBSERVE. The order of the blocks follows R41, R70 and R83; where they leave it open log entry 11 says the
choice, and log entry 64 for readiness changes of both analysers on one event. -/
def Part.sampleEvent (set : SampleSet) (s : Part) : Part :=
  let taken := s.modInst (Instruments.takeSet s.cfg set)
  let told := taken.reportLoss s.inst
  let e := sampleOf set s.inst told.inst
  let n := told.counted e
  let before := told.windowD
  let flowed := ((told.countVolume e).flowStep n.arrival n.trunk).countDown n.arrival
  let planned := flowed.plannerShare n.trunk
  let detected := planned.detectorShare e n (readinessDiffers s.inst told.inst)
    (decide (planned.windowD ≠ before))
  (detected.evaluateGuards e n).followRoute

/-- A completed transfer: a sample event with a transfer open, and otherwise discarded (R20). -/
def Part.transferCompletes (set : SampleSet) (s : Part) : Part :=
  if s.inst.transferOpen then s.sampleEvent set else s

/-- A limit input's level taken (R30): stored in every part state, and an event to the outlet controller
while RUNNING when the outlet's inputs are followed and the level has changed (R31). -/
def Part.limitTaken (o : Outlet) (input : LimitInput) (active : Bool) (s : Part) : Part :=
  if s.inst.limits[o].get input = active then s
  else
    let stored := s.modInst (Instruments.setLimit o input active)
    if stored.running && stored.levelsRead o then stored.limitEvent o input active else stored

/-- The travel timer expires (R120). An expiry of a timer that a confirmation has stopped or started again
since has no effect (R117, R120). -/
def Part.travelDue (s : Part) : Part :=
  match s.outlet.change with
  | some c => s.whenDue c.expiry Part.travelExpired
  | none => s

/-! ## The medium (R145 to R149) -/

/-- The transmit buffer changed. -/
def Part.setBuffer (b : Option TxBuffer) (s : Part) : Part := { s with bus := { s.bus with buffer := b } }

/-- A carrier that is known to leave the medium at a moment: the medium is busy until the latest such end
(R145). -/
def Part.carrierUntil (moment : Nat) (s : Part) : Part :=
  { s with bus := { s.bus with carrierEnd := some (max moment (s.bus.carrierEnd.getD 0)) } }

/-- The interframe gap has passed since the end of the last carrier (R145). -/
def Part.gapPassed (s : Part) : Bool :=
  match s.bus.carrierEnd with
  | some moment => decide (moment + gapBits ≤ s.now)
  | none => true

/-- The buffered notice's frame begins on the medium (R145, R146). Within the gap after a carrier it does not,
and nothing happens (log entry 58). -/
def Part.transmitStart (s : Part) : Part :=
  match s.bus.buffer with
  | some b =>
    match b.phase with
    | .waiting since =>
      if s.gapPassed then
        let waited := if deferralBits < s.now - since then
            s.modStats (fun st => { st with deferrals := hold16 (st.deferrals + 1) })
          else s
        waited.setBuffer (some { b with phase := .sending (s.frameOf b.notice) })
      else s
    | _ => s
  | none => s

/-- Whether a notice is a TRAIN REQUEST. -/
def Notice.isRequest : Notice → Bool
  | .trainRequest _ _ => true
  | .launch .. => false
  | .passage .. => false
  | .hold .. => false
  | .report .. => false
  | .status .. => false

/-- The frame completes without a collision (R148), and its carrier leaves the medium (R145). -/
def Part.frameCompletes (s : Part) : Part :=
  match s.bus.buffer with
  | some b =>
    match b.phase with
    | .sending _ =>
      let sent := (s.modStats (fun st => { st with framesSent := hold16 (st.framesSent + 1) })).setBuffer none
      let left := if b.notice.isRequest then sent.requestLeft else sent
      (left.carrierUntil s.now).arbitrate
    | _ => s
  | none => s

/-- A backoff of some slots and one draw begins at the end of the jam (R147). -/
def Part.beginBackoff (b : TxBuffer) (collisions slots : Nat) (s : Part) : Part :=
  let drawn := draw (s.bus.generator.getD 0)
  { s with bus :=
      { s.bus with
        generator := some drawn.1
        buffer := some { notice := b.notice, collisions := collisions,
                         phase := .backoff (s.now + jamBits + (slots + drawn.2) * bitsPerSlot) } } }

/-- After an excessive or a late collision (R148): a class 1 notice starts afresh with a backoff of r slots,
and any other is discarded. The buffer of a discarded notice empties at the collision, before the jam has
been sent: DESIGN CHOICE, R148 names no moment (log entry 51). -/
def Part.giveUp (b : TxBuffer) (s : Part) : Part :=
  if b.notice.cls = 1 then s.beginBackoff b 0 0
  else ((s.setBuffer none).reportDiscarded b.notice).arbitrate

/-- The frame on the medium meets a collision after some of its bit times (R147, R148). The jam that follows is
this station's carrier still (R145). -/
def Part.collide (frameBits : Nat) (s : Part) : Part :=
  match s.bus.buffer with
  | some b =>
    match b.phase with
    | .sending _ =>
      let n := b.collisions + 1
      let jammed := s.carrierUntil (s.now + jamBits)
      let counted := jammed.modStats (fun st => { st with collisions := hold16 (st.collisions + 1) })
      if lateBits < frameBits then
        (counted.modStats (fun st => { st with late := hold16 (st.late + 1) })).giveUp b
      else if n < 12 then counted.beginBackoff b n (4 * min n 8)
      else (counted.modStats (fun st => { st with excessive := hold16 (st.excessive + 1) })).giveUp b
    | _ => s
  | none => s

/-- The backoff ends, and the notice waits for the gap again (R147). -/
def Part.backoffEnds (s : Part) : Part :=
  match s.bus.buffer with
  | some b =>
    match b.phase with
    | .backoff ends =>
      s.whenDue ends (fun t => t.setBuffer (some { b with phase := .waiting t.now }))
    | _ => s
  | none => s

/-- Whether this station's own frame is on the medium. The jam after a collision is not counted as part of it:
DESIGN CHOICE, R149 does not say whether a station that sends its jam is itself transmitting (log entry
52). -/
def Part.transmitting (s : Part) : Bool :=
  match s.bus.buffer with
  | some b =>
    match b.phase with
    | .sending _ => true
    | _ => false
  | none => false

/-- A frame that passes its check word counts as received (R149). -/
def Part.countReceived (s : Part) : Part :=
  s.modStats (fun st => { st with framesReceived := hold16 (st.framesReceived + 1) })

/-- A frame heard is checked, and dropped or queued (R149). -/
def Part.hearFrame (frame : List Octet) (s : Part) : Part :=
  match judgeFrame s.cfg frame with
  | .badCheck => s.modStats (fun st => { st with badCheck := hold16 (st.badCheck + 1) })
  | .duplicateStation => (s.countReceived).raise .duplicateStation
  | .filtered => (s.countReceived).modStats (fun st => { st with filtered := hold16 (st.filtered + 1) })
  | .malformed => (s.countReceived).modStats (fun st => { st with malformed := hold16 (st.malformed + 1) })
  | .accepted n =>
    if maxInbound ≤ s.bus.inbound.length then
      ((s.countReceived).modStats (fun st => { st with inboundDropped := hold16 (st.inboundDropped + 1) })).raise
        .inboundOverflow
    else (s.countReceived).joinInbound n

/-- A frame on the medium: heard while the station is not itself transmitting (R149). It comes whole, as its carrier
leaves the medium (R145, log entry 58). -/
def Part.frameHeard (frame : List Octet) (s : Part) : Part :=
  if !s.transmitting then (s.carrierUntil s.now).hearFrame frame else s

/-- The peer hold reaches its expiry (R152). -/
def Part.holdDue (s : Part) : Part :=
  match s.bus.peerHold with
  | some h => s.whenDue h.expiry Part.endHold
  | none => s

/-! ## The meanings -/

/-- SAMPLE_REQUEST_DUE (R20). -/
def execSampleRequestDue (dt : Nat) (s : State) : Host.Outcome State Fault Refusal :=
  s.run dt (Part.whileRunning Part.requestDue)

/-- SAMPLE_EVENT (R21). -/
def execSampleEvent (dt : Nat) (set : SampleSet) (s : State) : Host.Outcome State Fault Refusal :=
  s.run dt (Part.whileRunning (Part.transferCompletes set))

/-- METER_PULSE (R29). -/
def execMeterPulse (dt : Nat) (meter : Meter) (s : State) : Host.Outcome State Fault Refusal :=
  s.run dt (Part.whileRunning (Part.modInst (Instruments.pulse meter)))

/-- LIMIT_LEVEL_TAKEN (R30, R31). -/
def execLimitLevelTaken (dt : Nat) (outlet : Outlet) (input : LimitInput) (active : Bool) (s : State) :
    Host.Outcome State Fault Refusal :=
  s.run dt (Part.limitTaken outlet input active)

/-- TRAVEL_TIMEOUT (R120, R121, R124). -/
def execTravelTimeout (dt : Nat) (s : State) : Host.Outcome State Fault Refusal :=
  s.run dt (Part.whileRunning Part.travelDue)

/-- LINE_FRAME_RECEIVED (R149). -/
def execLineFrameReceived (dt : Nat) (octets : List Octet) (s : State) : Host.Outcome State Fault Refusal :=
  s.run dt (Part.whileRunning (Part.frameHeard octets))

/-- LAUNCH_NOTICE_TAKEN (R7, R8). -/
def execLaunchNoticeTaken (dt : Nat) (s : State) : Host.Outcome State Fault Refusal :=
  s.run dt (Part.whileRunning (Part.takeOldest 1))

/-- PASSAGE_NOTICE_TAKEN (R9). -/
def execPassageNoticeTaken (dt : Nat) (s : State) : Host.Outcome State Fault Refusal :=
  s.run dt (Part.whileRunning (Part.takeOldest 2))

/-- HOLD_NOTICE_TAKEN (R152). -/
def execHoldNoticeTaken (dt : Nat) (s : State) : Host.Outcome State Fault Refusal :=
  s.run dt (Part.whileRunning (Part.takeOldest 3))

/-- TRAIN_REQUEST_TAKEN (R159). -/
def execTrainRequestTaken (dt : Nat) (s : State) : Host.Outcome State Fault Refusal :=
  s.run dt (Part.whileRunning (Part.takeOldest 4))

/-- TRAIN_REPORT_SEGMENT_TAKEN (R162). -/
def execTrainReportSegmentTaken (dt : Nat) (s : State) : Host.Outcome State Fault Refusal :=
  s.run dt (Part.whileRunning (Part.takeOldest 5))

/-- STATUS_NOTICE_TAKEN (R157). -/
def execStatusNoticeTaken (dt : Nat) (s : State) : Host.Outcome State Fault Refusal :=
  s.run dt (Part.whileRunning (Part.takeOldest 6))

/-- FRAME_TRANSMIT_START (R146). -/
def execFrameTransmitStart (dt : Nat) (s : State) : Host.Outcome State Fault Refusal :=
  s.run dt (Part.whileRunning Part.transmitStart)

/-- FRAME_SENT (R148). -/
def execFrameSent (dt : Nat) (s : State) : Host.Outcome State Fault Refusal :=
  s.run dt (Part.whileRunning Part.frameCompletes)

/-- COLLISION (R147, R148). -/
def execCollision (dt : Nat) (frameBits : Nat) (s : State) : Host.Outcome State Fault Refusal :=
  s.run dt (Part.whileRunning (Part.collide frameBits))

/-- BACKOFF_END (R147). -/
def execBackoffEnd (dt : Nat) (s : State) : Host.Outcome State Fault Refusal :=
  s.run dt (Part.whileRunning Part.backoffEnds)

/-- PEER_HOLD_EXPIRY (R152). -/
def execPeerHoldExpiry (dt : Nat) (s : State) : Host.Outcome State Fault Refusal :=
  s.run dt (Part.whileRunning Part.holdDue)

/-- STATUS_INTERVAL_DUE (R158). -/
def execStatusIntervalDue (dt : Nat) (s : State) : Host.Outcome State Fault Refusal :=
  s.run dt (Part.whileRunning Part.statusDue)

/-- PEER_SILENCE_EXPIRY (R156). -/
def execPeerSilenceExpiry (dt : Nat) (station : Nat) (s : State) : Host.Outcome State Fault Refusal :=
  s.run dt (Part.whileRunning (Part.silenceExpired station))

/-- SYNC_TIMEOUT (R164). -/
def execSyncTimeout (dt : Nat) (s : State) : Host.Outcome State Fault Refusal :=
  s.run dt (Part.whileRunning Part.syncExpired)

end Sys2Proof.Machine
end

