-- ==== Sys2Proof/Machine/Dispatch.lean ====
section
/-! DEFINITION. The dispatch: one arm for each command, one meaning for each arm. -/

namespace Sys2Proof.Machine

/-- A command's effect on everything but the queue of waiting commands. -/
def exec (i : Instr) (s : State) : Host.Outcome State Fault Refusal :=
  match i with
  | .powerOnReset dt => Sys2Proof.Machine.execPowerOnReset dt s
  | .resetLineReset dt => Sys2Proof.Machine.execResetLineReset dt s
  | .identify dt => Sys2Proof.Machine.execIdentify dt s
  | .readStatus dt clearMask => Sys2Proof.Machine.execReadStatus dt clearMask s
  | .storeImage dt first last offset octets => Sys2Proof.Machine.execStoreImage dt first last offset octets s
  | .programmingComplete dt verifyGood => Sys2Proof.Machine.execProgrammingComplete dt verifyGood s
  | .reloadImage dt => Sys2Proof.Machine.execReloadImage dt s
  | .start dt mode presence batch product => Sys2Proof.Machine.execStart dt mode presence batch product s
  | .queueOrder dt batch outlet limit head tail => Sys2Proof.Machine.execQueueOrder dt batch outlet limit head tail s
  | .cancelOrder dt number => Sys2Proof.Machine.execCancelOrder dt number s
  | .queueLaunch dt batch product volume outlet => Sys2Proof.Machine.execQueueLaunch dt batch product volume outlet s
  | .forceLaunch dt => Sys2Proof.Machine.execForceLaunch dt s
  | .forceStage dt batch stage => Sys2Proof.Machine.execForceStage dt batch stage s
  | .releaseGuard dt channel => Sys2Proof.Machine.execReleaseGuard dt channel s
  | .syncFrom dt station => Sys2Proof.Machine.execSyncFrom dt station s
  | .readTrain dt index => Sys2Proof.Machine.execReadTrain dt index s
  | .readOrders dt => Sys2Proof.Machine.execReadOrders dt s
  | .takeRecord dt => Sys2Proof.Machine.execTakeRecord dt s
  | .unknownRequestCode dt code => Sys2Proof.Machine.execUnknownRequestCode dt code s
  | .portFrameDiscarded dt => Sys2Proof.Machine.execPortFrameDiscarded dt s
  | .sampleRequestDue dt => Sys2Proof.Machine.execSampleRequestDue dt s
  | .sampleEvent dt set => Sys2Proof.Machine.execSampleEvent dt set s
  | .meterPulse dt meter => Sys2Proof.Machine.execMeterPulse dt meter s
  | .limitLevelTaken dt outlet input active => Sys2Proof.Machine.execLimitLevelTaken dt outlet input active s
  | .travelTimeout dt => Sys2Proof.Machine.execTravelTimeout dt s
  | .lineFrameReceived dt octets => Sys2Proof.Machine.execLineFrameReceived dt octets s
  | .launchNoticeTaken dt => Sys2Proof.Machine.execLaunchNoticeTaken dt s
  | .passageNoticeTaken dt => Sys2Proof.Machine.execPassageNoticeTaken dt s
  | .holdNoticeTaken dt => Sys2Proof.Machine.execHoldNoticeTaken dt s
  | .statusNoticeTaken dt => Sys2Proof.Machine.execStatusNoticeTaken dt s
  | .trainRequestTaken dt => Sys2Proof.Machine.execTrainRequestTaken dt s
  | .trainReportSegmentTaken dt => Sys2Proof.Machine.execTrainReportSegmentTaken dt s
  | .frameTransmitStart dt => Sys2Proof.Machine.execFrameTransmitStart dt s
  | .frameSent dt => Sys2Proof.Machine.execFrameSent dt s
  | .collision dt frameBits => Sys2Proof.Machine.execCollision dt frameBits s
  | .backoffEnd dt => Sys2Proof.Machine.execBackoffEnd dt s
  | .peerHoldExpiry dt => Sys2Proof.Machine.execPeerHoldExpiry dt s
  | .statusIntervalDue dt => Sys2Proof.Machine.execStatusIntervalDue dt s
  | .peerSilenceExpiry dt station => Sys2Proof.Machine.execPeerSilenceExpiry dt station s
  | .syncTimeout dt => Sys2Proof.Machine.execSyncTimeout dt s

end Sys2Proof.Machine
end

