-- ==== Sys2Proof/Safety.lean ====
section
/-! DEFINITION. What a safe run keeps: the laws of the part, each as the manual states it, and the part of the
state that each command may change. -/

namespace Sys2Proof.Machine

/-! ## The laws of the part -/

/-- The batch train holds at most 64 records in serial order, no two with one batch number (R5); outside
RUNNING it is empty (R18), and no launch is queued or waits outside RUNNING or but at an ORIGIN (R95). -/
def Part.trainLaw (s : Part) : Prop :=
  s.train.records.length ≤ 64 ∧
    s.train.records.Pairwise (fun a b => serialBefore a.batch b.batch = true) ∧
    (s.running = false → s.train.records = []) ∧
    (s.running = false ∨ s.cfg.role ≠ .origin → s.planner.launches = [] ∧ s.planner.incoming = none)

/-- The D of every head interface, oldest record first. -/
def distances (recs : List BatchRecord) : List Int :=
  recs.filterMap (fun r => r.head.map HeadInterface.d)

/-- Distance-to-arrival never decreases from an older record to a newer one (R62). -/
def Part.distanceLaw (s : Part) : Prop := (distances s.train.records).Pairwise (fun a b => a ≤ b)

/-- Whether a record's head interface is IN_MIX or PAST_MID. -/
def BatchRecord.mixing (r : BatchRecord) : Bool :=
  match r.head with
  | some h => decide (h.state = .inMix) || decide (h.state = .pastMid)
  | none => false

/-- Whether a record's head interface, where it is PAST_MID, has its midpoint error (R81, R88). -/
def BatchRecord.midKept (r : BatchRecord) : Bool :=
  match r.head with
  | some h => decide (h.state ≠ .pastMid) || h.midError.isSome
  | none => true

/-- The window is the oldest head interface that is not CLEARED; a record with such a head is APPROACHING;
only the window interface is IN_MIX or PAST_MID (R73, R4); and one PAST_MID has the midpoint error that its
midpoint set (R81, R88). -/
def Part.windowLaw (s : Part) : Prop :=
  s.det.window = oldestLive s.train.records ∧
    (∀ r ∈ s.train.records, r.headLive = true → r.status = .approaching) ∧
    (∀ r ∈ s.train.records, r.mixing = true → s.det.window = some r.batch) ∧
    (∀ r ∈ s.train.records, r.midKept = true)

/-- At most 16 orders, each with a number of its own, the next number held by none, and at most one FILLING
(R96, R97). -/
def Part.orderLaw (s : Part) : Prop :=
  s.planner.orders.length ≤ 16 ∧
    (s.planner.orders.map Order.number).Nodup ∧
    (∀ o ∈ s.planner.orders, o.number ≠ s.planner.nextOrder) ∧
    s.planner.orders.countP Order.filling ≤ 1

/-- The command states that go with the change in flight: none without one; OPENING of the change target
alone in the phase OPENING; no OPENING in the others (R115, R117, R118). -/
def OutletController.commandsFit (k : OutletController) : Prop :=
  match k.change with
  | none => ∀ o : Outlet, k.outlets[o].command = .idle
  | some c =>
    if c.phase = .opening then
      ∃ b : Outlet, c.target = .outlet b ∧ ∀ o : Outlet, o ≠ b → k.outlets[o].command = .idle
    else ∀ o : Outlet, k.outlets[o].command ≠ .opening

/-- No change is in flight, and so no command line is active, unless the part is RUNNING in OPERATE; the
conflict hold stands only there, and with no change in flight (R115, R124); outside RUNNING the override is
empty (R114); and a RELAY's image fits no outlet (R168, 12.5). -/
def Part.outletLaw (s : Part) : Prop :=
  s.outlet.commandsFit ∧
    (s.outlet.change.isSome = true → s.running = true ∧ s.outlet.mode = some .operate) ∧
    (s.outlet.conflictHold = true →
      s.running = true ∧ s.outlet.mode = some .operate ∧ s.outlet.change = none) ∧
    (s.running = false → s.outlet.override = []) ∧
    (s.cfg.role = .relay → ∀ o : Outlet, s.cfg.fitted o = false)

/-- The queues of the line bus and the cut record queue stay within their places, and at most one STATUS is
queued (R141, R150, R173); outside RUNNING the line bus stands as reset leaves it (R154). -/
def Part.queueLaw (s : Part) : Prop :=
  s.bus.outbound.length ≤ 32 ∧ s.bus.outbound.countP (Queued.ofClass 3) ≤ 1 ∧
    s.bus.inbound.length ≤ 24 ∧ s.port.records.length ≤ 32 ∧
    (s.running = false → s.bus = LineBus.afterReset)

/-- The residues and accumulators hold less than one unit, and the flow window at most 16 entries (R34,
R44). -/
def Part.volumeLaw (s : Part) : Prop :=
  s.vol.trunkResidue < 1073741824 ∧ s.vol.deliveryResidue < 1073741824 ∧
    s.vol.trunkAcc < 1000 ∧ s.vol.deliveryAcc < 1000 ∧ s.vol.flowWindow.length ≤ 16

/-! ## What a command may change -/

/-- The parts of the state that the frame of a command names. -/
inductive Block where
  /-- Sampling, readings, pending pulses and limit levels (chapter 2). -/
  | instruments
  /-- The volume unit but for the tally (chapter 3). -/
  | counters
  /-- The order tally (R42). -/
  | tally
  /-- The train and its horizon (chapter 1). -/
  | train
  /-- The interface detector (chapter 5). -/
  | detector
  /-- The delivery orders and the next order number (R96). -/
  | orders
  /-- The launch queue, the current and the incoming batch (R108). -/
  | launches
  /-- The planned route and the outlet controller (R107, R114). -/
  | routes
  /-- The guard unit (chapter 8). -/
  | guards
  /-- The line bus controller (chapter 9). -/
  | bus
  /-- The peer monitor (chapter 10). -/
  | peers
  /-- The cut records with their sequence number and loss count (R173). -/
  | records
  /-- The alarm flags (R174). -/
  | alarms
  /-- The image store and the part state (11.3). -/
  | image
  deriving DecidableEq, Repr

/-- Whether a block reads the same in two states of the part. -/
def Block.same (s t : Part) : Block → Prop
  | .instruments => t.inst = s.inst
  | .counters => { t.vol with tally := 0 } = { s.vol with tally := 0 }
  | .tally => t.vol.tally = s.vol.tally
  | .train => t.train = s.train
  | .detector => t.det = s.det
  | .orders => t.planner.orders = s.planner.orders ∧ t.planner.nextOrder = s.planner.nextOrder
  | .launches =>
    t.planner.launches = s.planner.launches ∧ t.planner.current = s.planner.current ∧
      t.planner.incoming = s.planner.incoming ∧ t.planner.emptyShown = s.planner.emptyShown
  | .routes => t.planner.planned = s.planner.planned ∧ t.outlet = s.outlet
  | .guards => t.guard = s.guard
  | .bus => t.bus = s.bus
  | .peers => t.peer = s.peer
  | .records =>
    t.port.records = s.port.records ∧ t.port.seq = s.port.seq ∧ t.port.loss = s.port.loss
  | .alarms => t.port.alarms = s.port.alarms
  | .image => t.image = s.image

/-- What a change of the route target can reach: the outlets, and through a launch cut that takes effect the
launches, the train, the records and the line (R111, R117). -/
def routeBlocks : List Block := [.routes, .launches, .train, .bus, .peers, .records, .alarms]

/-- What a stage of the window interface can reach: beside the route, the detector, the orders and the tally
(R91, R103). -/
def stageBlocks : List Block := [.detector, .orders, .tally] ++ routeBlocks

/-- What a notice handed to the outbound queue can reach: a dropped TRAIN REQUEST ends a sync (R142). -/
def lineBlocks : List Block := [.bus, .peers, .alarms]

/-! ## Words that statements use -/

/-- The port has answered a request of a code with a result and the items after it (12.3). -/
def Part.answered (s : Part) (code : Octet) (result : Result) (payload : List Octet) : Prop :=
  s.port.response = some { code := code, result := result, payload := payload }

/-- The part `t` differs from `s` in the response of the port and in nothing else. -/
def Part.onlyAnswers (s t : Part) : Prop :=
  { t with port := { t.port with response := s.port.response } } = s

/-- The sample event that a set makes of the instrument interface as it stands (R21, R22). -/
def Part.eventOf (set : SampleSet) (s : Part) : Sample :=
  sampleOf set s.inst (Instruments.takeSet s.cfg set s.inst)

/-- What the volume unit hands on of that sample event (R39 to R43). -/
def Part.countOf (set : SampleSet) (s : Part) : Counted := s.counted (s.eventOf set)

/-- A sample event taken while no launch waits: the part runs with a transfer open, its train in order (R20,
R5). -/
def Part.samples (s : Part) : Prop :=
  s.running = true ∧ s.inst.transferOpen = true ∧ s.trainLaw ∧
    s.planner.launches = [] ∧ s.planner.incoming = none

/-- A sample event that finds a window interface `h` on the record `r`, no order in the queue, and each
analyser as READY after its set as before it, so that the channel stays (R73, R77). -/
def Part.samplesWindow (set : SampleSet) (r : BatchRecord) (h : HeadInterface) (s : Part) : Prop :=
  s.samples ∧ s.planner.orders = [] ∧ s.distanceLaw ∧ s.windowLaw ∧ s.windowHead = some (r, h) ∧
    (Instruments.takeSet s.cfg set s.inst).densityReady = s.inst.densityReady ∧
    (Instruments.takeSet s.cfg set s.inst).markerReady = s.inst.markerReady

/-- Whether the record of a batch is the only one whose head is not CLEARED. -/
def Part.soleLive (b : BatchNo) (s : Part) : Prop :=
  ∀ x ∈ s.train.records, x.batch ≠ b → x.headLive = false

/-- The window interface is `h`, on the record of a batch. -/
def Part.showsWindow (b : BatchNo) (h : HeadInterface) (s : Part) : Prop :=
  ∃ r, s.windowHead = some (r, h) ∧ r.batch = b

/-- The interface of `r` has been completed as `h`, and the window is empty: its batch PRESENT, the window's
stamp and mix list gone, and the INTERFACE record of `h` with a mix list written (R91). -/
def Part.showsCompleted (r : BatchRecord) (h : HeadInterface) (mix : List (Outlet × Nat)) (s : Part) : Prop :=
  (∃ x, findBatch r.batch s.train.records = some x ∧ x.head = some h ∧ x.status = .present) ∧
    s.det.window = none ∧ s.det.midStamp = none ∧ s.det.mix = [] ∧
    ∃ rec ∈ s.port.records, rec.stamp = s.vol.arrivalCounter ∧
      rec.body = .interface r.batch h.leading r.product (methodIn h.leadRec) (methodIn h.midRec)
        (methodIn h.trailRec) (h.measuredWidth.getD 0) (h.midError.getD 0) h.early h.clamped h.overdue
        (h.degradedMark.getD false) mix

/-- The mix list after a sample event's delivery increment, before its stages (R89). -/
def Part.mixAfter (delivery : Nat) (s : Part) : List (Outlet × Nat) :=
  match s.outlet.current with
  | .known (.outlet o) =>
    if s.cfg.role.delivers && s.inMix && decide (delivery ≠ 0) then creditMix o delivery s.det.mix
    else s.det.mix
  | _ => s.det.mix

/-- A notice from a peer whose entry it only confirms: the entry has its chainage, is not SILENT and holds no
other role, so that hearing it hands no window on (R67, R155). -/
def Part.knows (s : Part) (n : Received) (e : PeerEntry) : Prop :=
  findPeer n.source s.peer.table = some e ∧ e.handsOff n = false

/-- The reference set of a pair of products on an analyser's channel, where their references lie far enough apart
(R75, R76). `ref` and `tol` are a product's reference value and tolerance on that channel. -/
def pairRefs (c : Config) (ref tol : ProductConfig → Nat) (leading trailing : Product) : Option RefSet :=
  match c.product? leading, c.product? trailing with
  | some x, some y =>
    if 2 * (tol x + tol y) ≤ ((ref y : Int) - ref x).natAbs then
      some { a := ref x, b := ref y, ta := tol x, tb := tol y, rising := decide (ref x < ref y),
             thr := (ref x + ref y) / 2, p := min (tol x) (tol y) / 4 }
    else none
  | _, _ => none

/-- The detection channel of a pair as readiness stands, with its reference set: the usable channel with the higher
score, DENSITY of two that are equal, and VOLUME where neither is usable (R75, R76). -/
def Part.chosenFor (s : Part) (leading trailing : Product) : Channel × Option RefSet :=
  let density := if s.cfg.densityFitted && s.inst.densityReady then
    pairRefs s.cfg ProductConfig.refDensity ProductConfig.densityTol leading trailing else none
  let marker := if s.cfg.markerFitted && s.inst.markerReady then
    pairRefs s.cfg ProductConfig.refMarker ProductConfig.markerTol leading trailing else none
  let score (f : RefSet) : Nat := ((f.b : Int) - f.a).natAbs * 256 / (f.ta + f.tb)
  match density, marker with
  | some d, some m => if score d < score m then (.marker, some m) else (.density, some d)
  | some d, none => (.density, some d)
  | none, some m => (.marker, some m)
  | none, none => (.volume, none)

/-- The table of R101: the unfrozen plan from the FILLING order, Ok and Ok1, with the defaults of R102. -/
def planTable (role : Role) (filling ok ok1 : Option Order) : CutPlan :=
  let unclaimed : Segment :=
    { route := if role = .end_ then .outlet transmix else .closed, owner := none }
  let given (o : Option Order) : Segment :=
    match o with
    | some x => { route := .outlet x.outlet, owner := some x.number }
    | none => unclaimed
  let mixTo (first second : Option Order) (inHalf inMix : Order → Bool) : Segment :=
    match first with
    | some x => if inHalf x then given first else given (second.filter inMix)
    | none => given (second.filter inMix)
  { s0 := given filling
    s1 := mixTo ok ok1 (fun o => decide (o.tailPolicy ≠ .clean)) (fun o => decide (o.headPolicy = .withMix))
    s2 := mixTo ok1 ok (fun o => decide (o.headPolicy ≠ .clean)) (fun o => decide (o.tailPolicy = .withMix))
    s3 := given ok1
    frozen := false }

/-- The cut plan of the interface at the head of a batch, with the orders as they stand: Ok is the order for the batch
ahead, provided it is FILLING, and Ok1 the order for the batch itself (R101). -/
def Part.planFor (b : BatchNo) (s : Part) : CutPlan :=
  let ahead := (s.train.records.takeWhile (fun r => decide (r.batch ≠ b))).getLast?.map BatchRecord.batch
  let orderOf (k : BatchNo) : Option Order := s.planner.orders.find? (fun o => decide (o.batch = k))
  planTable s.cfg.role (s.planner.orders.find? Order.filling)
    ((ahead.bind orderOf).filter Order.filling) (orderOf b)

/-- What `t` shows of a report of readiness to the window interface `h` of `r` in `s`, with D at `d` and, at a sample
event, a value on a channel (R28, R77). A DISTANT or ARMED interface has the channel chosen anew; where that is
another, the counts begin at 0 with this event's reading and no volume or late stage is left due; where it is the
same, the reference set stands. One IN_MIX or PAST_MID whose analyser has lost READY goes on by volume, and no other
change reaches it. ANALYSER_LOST is set where the interface's own analyser has lost READY. Changes of both analysers
at one moment are one report (log entry 64, DESIGN CHOICE). -/
def Part.readinessTold (r : BatchRecord) (h : HeadInterface) (d : Int) (value : Channel → Option Int)
    (s t : Part) : Prop :=
  let ready (p : Part) (c : Channel) : Bool :=
    match c with
    | .density => p.inst.densityReady
    | .marker => p.inst.markerReady
    | .volume => true
  let differs := ready s .density ≠ ready t .density ∨ ready s .marker ≠ ready t .marker
  let waits (k : HeadState) : Prop := k = .distant ∨ k = .armed
  let near : Int := ((h.w / 2 + h.u + s.cfg.margin : Nat) : Int)
  let half : Int := ((h.w / 2 : Nat) : Int)
  let free := s.degraded { h with d := d } = false
  let choice := t.chosenFor h.leading r.product
  let make := s.cfg.makeCount
  t.port.alarmSet .analyserLost = (s.port.alarmSet .analyserLost ||
    (match h.channel with
     | some c => ready s c && !ready t c
     | none => false)) ∧
  ∀ x g, findBatch r.batch t.train.records = some x → x.head = some g →
    (waits h.state → differs → g.channel = some choice.1) ∧
    (waits h.state → differs → h.channel = some choice.1 → t.det.window = some r.batch →
      t.det.refs = s.det.refs) ∧
    (waits h.state → differs → h.channel ≠ some choice.1 → t.det.window = some r.batch →
      t.det.refs = choice.2 ∧ t.det.breakRun = 0 ∧
      (value choice.1 = none → t.det.leadCount = 0 ∧ t.det.midCount = 0 ∧ t.det.trailCount = 0) ∧
      (∀ f v, choice.2 = some f → value choice.1 = some v →
        t.det.leadCount = (if f.ta < (v - f.a).natAbs then min make 1 else 0) ∧
        t.det.midCount = (if (f.rising = true ∧ (f.thr : Int) + f.p ≤ v) ∨
          (f.rising = false ∧ v ≤ (f.thr : Int) - f.p) then min make 1 else 0) ∧
        t.det.trailCount = (if (v - f.b).natAbs ≤ f.tb then min make 1 else 0)) ∧
      (waits g.state → free → if choice.1 = .volume then half < d else -near ≤ d)) ∧
    (∀ c, h.state = .inMix ∨ h.state = .pastMid → h.channel = some c → ready s c = true →
      (ready t c = false →
        g.channel = some .volume ∧
        (t.det.window = some r.batch →
          t.det.refs = none ∧ t.det.leadCount = 0 ∧ t.det.midCount = 0 ∧ t.det.trailCount = 0 ∧
          t.det.breakRun = 0 ∧ (free → if g.state = .inMix then 0 < d else -half < d))) ∧
      (ready t c = true →
        g.channel = some c ∧ (t.det.window = some r.batch → t.det.refs = s.det.refs)))

/-- A window interface `h` on the record `r`, with the train in order, no launch cut that waits, and no order in the
queue. -/
def Part.windowAlone (r : BatchRecord) (h : HeadInterface) (s : Part) : Prop :=
  s.trainLaw ∧ s.distanceLaw ∧ s.windowLaw ∧ s.planner.incoming = none ∧ s.planner.orders = [] ∧
    s.windowHead = some (r, h)

/-- What `t` shows of the window interface `h` of `r`, which an event of R67 that leaves it unchanged has handed to the
detector of `s`, DEGRADED as the peers of `t` make it (R66, R85). On the VOLUME channel it takes the stages due by D and
half of W as one step (R84); while DEGRADED they are suspended, and below −A it is OVERDUE (R86). On an analyser one that
is DISTANT or ARMED below −A is OVERDUE, and takes its three stages with method LATE while it is not DEGRADED; any other
takes no stage. Completed interfaces are shown where no other head is left to be the window. -/
def Part.handedOn (r : BatchRecord) (h : HeadInterface) (s t : Part) : Prop :=
  let near : Int := ((h.w / 2 + h.u + s.cfg.margin : Nat) : Int)
  let half : Int := ((h.w / 2 : Nat) : Int)
  let past := h.d < -near
  let waits := h.state = .distant ∨ h.state = .armed
  let leads := waits ∧ h.d ≤ half
  let crosses := (leads ∨ h.state = .inMix) ∧ h.d ≤ 0
  let trails := (crosses ∨ h.state = .pastMid) ∧ h.d ≤ -half
  let record (m : Method) : StageRecord := { method := m, stamp := s.vol.arrivalCounter }
  let led : HeadInterface := if leads then { h with leadRec := some (record .volume) } else h
  let crossed : HeadInterface :=
    if crosses then { led with midRec := some (record .volume), midError := some h.d } else led
  let frozen := h.plan.map (fun q => { q with frozen := true })
  let untouched := t.train = s.train ∧ t.det = s.det
  let alarmed := t.port.alarmSet .interfaceOverdue =
    (s.port.alarmSet .interfaceOverdue || (!h.overdue && decide past))
  (h.channel = some .volume → t.degraded h = true →
    t.showsWindow r.batch { h with overdue := h.overdue || decide past } ∧ alarmed) ∧
  (h.channel = some .volume → t.degraded h = false →
    (¬leads → ¬crosses → ¬trails → untouched) ∧
    (leads → ¬crosses → t.showsWindow r.batch { led with state := .inMix, plan := frozen }) ∧
    (crosses → ¬trails →
      t.showsWindow r.batch { crossed with state := .pastMid, plan := frozen } ∧
      t.det.midStamp = some s.vol.trunkCounter) ∧
    (trails → s.soleLive r.batch →
      t.showsCompleted r
        { crossed with state := .cleared, trailRec := some (record .volume), plan := none,
                       measuredWidth := some h.w, degradedMark := some false } s.det.mix)) ∧
  (h.channel = some .density ∨ h.channel = some .marker →
    ¬(waits ∧ past) → untouched) ∧
  (h.channel = some .density ∨ h.channel = some .marker → waits → past →
    (t.degraded h = true → t.showsWindow r.batch { h with overdue := true }) ∧
    (t.degraded h = false → s.soleLive r.batch →
      t.showsCompleted r
        { h with state := .cleared, overdue := true, leadRec := some (record .late),
                 midRec := some (record .late), midError := some h.d, trailRec := some (record .late),
                 plan := none, measuredWidth := some h.w, degradedMark := some false } s.det.mix) ∧
    (s.soleLive r.batch → alarmed))

/-- Whether a cut record is the INTERFACE record of a batch. -/
def RecordBody.interfaceOf (b : BatchNo) : RecordBody → Bool
  | .interface batch .. => decide (batch = b)
  | .delivery .. => false
  | .launch .. => false
  | .guard .. => false

/-- The oldest `k` records of `place` have retired on the way to `t`, as R15 has it: of each the next newer head has
its D below −K, and is CLEARED, the record DEPARTED, or has been completed on the way, which its INTERFACE record shows
while the cut record queue has room for it. -/
def Part.retiredOf (place : List BatchRecord) (k keep : Nat) (t : Part) : Prop :=
  ∀ i, i < k → ∃ r n h, place[i]? = some r ∧ place[i + 1]? = some n ∧ n.head = some h ∧
    h.d < -(keep : Int) ∧
    (h.state = .cleared → r.status = .departed) ∧
    (h.state ≠ .cleared → 32 ≤ t.port.records.length ∨
      ∃ rec ∈ t.port.records, rec.body.interfaceOf n.batch = true)

/-- A record whose head's D is out of order by a test is brought to `d`, with CLAMPED (R62, R64). -/
def BatchRecord.broughtTo (d : Int) (out : Int → Bool) (r : BatchRecord) : BatchRecord :=
  { r with head := r.head.map (fun h => if out h.d then { h with d := d, clamped := true } else h) }

/-- The train around a record that a notice has placed at `d`: older heads above `d` come down to it, and newer
ones below it come up (R62). -/
def trainAround (d : Int) (older : List BatchRecord) (placed : BatchRecord) (newer : List BatchRecord) :
    List BatchRecord :=
  older.map (BatchRecord.broughtTo d (fun x => decide (d < x))) ++
    placed :: newer.map (BatchRecord.broughtTo d (fun x => decide (x < d)))

/-- What places a record: its product and nominated volume, and its head's leading product, D, CLAMPED, W, U,
anchor and RESTART_MARK. -/
def BatchRecord.placing (r : BatchRecord) :
    Product × Option Nat × Option (Product × Int × Bool × Nat × Nat × Nat × Nat × Bool) :=
  (r.product, r.nominated, r.head.map (fun h =>
    (h.leading, h.d, h.clamped, h.w, h.u, h.anchorStation, h.anchorChainage, h.restartMark)))

/-- The train of `t` stands as `place` does, but for its oldest records, which R15 has retired, the horizon then
being the newest of them (R16, R17); where the next head after the oldest record has been moved or completed, that
record is not one that R15 retires. -/
def Part.placedAs (place : List BatchRecord) (s t : Part) : Prop :=
  let batches := place.map BatchRecord.batch
  let keep := if s.cfg.role = .end_ then 0 else s.cfg.keepBehind
  (∃ k, t.train.records.map BatchRecord.batch = batches.drop k ∧
    t.train.horizon = (if k = 0 then s.train.horizon else batches[k - 1]?) ∧
    t.retiredOf place k keep ∧
    ∀ r ∈ t.train.records, ∃ m ∈ place, m.batch = r.batch ∧ r.placing = m.placing) ∧
  ∀ x y rest h, t.train.records = x :: y :: rest → y ∉ s.train.records → x.status = .departed →
    y.head = some h → h.state = .cleared → -(keep : Int) ≤ h.d

/-- A record `r` with the DISTANT head `h` has been inserted into the train of `s` (R13): it stands at its serial
place, with the clamp around it (R62). Where it is beyond its arming distance and no older head is live, it is the
window, entered afresh with the channel that is chosen for it (R75, R76) and, at a TERMINAL or an END, its plan
and the planned route at S0 (R101, R102), and the window before it has given up its channel and its plan (R73, R74);
where an older head that the clamp does not move is the window, the detector is untouched (R57, R70). An END whose S0
no order owns sets UNPLANNED_BATCH (log entry 18, DEDUCED). -/
def Part.insertedInto (r : BatchRecord) (h : HeadInterface) (s t : Part) : Prop :=
  ∀ older newer, s.train.records = older ++ newer →
    (∀ x ∈ older, serialBefore x.batch r.batch = true) → (∀ x ∈ newer, serialBefore r.batch x.batch = true) →
    t.placedAs (trainAround h.d older { r with head := some h } newer) s ∧
    (((h.w / 2 + h.u + s.cfg.margin : Nat) : Int) < h.d → (∀ x ∈ older, x.headLive = false) →
      let choice := s.chosenFor h.leading r.product
      let plan := t.planFor r.batch
      let planned := s.cfg.role = .terminal ∨ s.cfg.role = .end_
      { r with head := some { h with
          channel := some choice.1, plan := if planned then some plan else none } } ∈ t.train.records ∧
      t.det.refs = choice.2 ∧
      (planned → t.planner.planned = some plan.s0.route) ∧
      (s.cfg.role = .end_ → plan.s0.owner = none → t.port.alarmSet .unplannedBatch = true) ∧
      t.det.window = some r.batch ∧ t.det.leadCount = 0 ∧ t.det.midCount = 0 ∧ t.det.trailCount = 0 ∧
      t.det.breakRun = 0 ∧ t.det.mix = [] ∧ t.det.midStamp = none ∧
      ∀ x ∈ t.train.records, s.det.window = some x.batch →
        ∃ g, x.head = some g ∧ g.channel = none ∧ g.plan = none) ∧
    (∀ x g, s.windowHead = some (x, g) → x ∈ older → g.d ≤ h.d → t.det = s.det)

/-- The cut of an entry, decided in `s` or before, has taken effect in `t` (R111): the LAUNCH record of the batch
before it, the LAUNCH notice, the new current batch with nothing launched, and its CLEARED record at D = 0
(R12). -/
def Part.launchTook (e : LaunchEntry) (s t : Part) : Prop :=
  let leading := (s.planner.current.map CurrentBatch.product).getD 0
  t.planner.current =
      some { batch := e.batch, product := e.product, nominated := some e.nominated, source := some e.outlet,
             launched := 0 } ∧
    t.planner.incoming = none ∧ t.planner.emptyShown = false ∧
    t.port.records.getLast? =
      some { seq := s.port.seq, stamp := s.vol.arrivalCounter,
             body := .launch e.batch e.product ((s.planner.current.map CurrentBatch.launched).getD 0) e.outlet } ∧
    (s.bus.buffer.isSome = true → s.bus.outbound.length < 32 →
      t.bus.outbound = s.bus.outbound ++
        [{ notice := .launch e.batch e.product
             ((s.planner.current.map CurrentBatch.batch).getD (e.batch - 1)) leading e.nominated
             s.cfg.launchWidth s.vol.trunkCounter,
           joined := s.now }]) ∧
    (s.admission e.batch = .room →
      findBatch e.batch t.train.records =
        some { batch := e.batch, product := e.product, nominated := some e.nominated, status := .present,
               delivered := 0, orderLink := none,
               head := some
                 { leading := leading, state := .cleared, d := 0, w := s.cfg.launchWidth, u := s.cfg.u0,
                   anchorStation := s.cfg.station, anchorChainage := 0, overdue := false, early := false,
                   clamped := false, restartMark := false, channel := none, leadRec := none,
                   midRec := none, trailRec := none, plan := none, midError := none,
                   measuredWidth := none, degradedMark := none } })

/-- The lowest of a D and those of newer records: what the flow form of the clamp brings a head down to
(R63). -/
def lowestOf (d : Int) (recs : List BatchRecord) : Int := (distances recs).foldr min d

end Sys2Proof.Machine

namespace Sys2Proof

open Sys2Proof.Machine

/-! ## Commands -/

/-- The blocks a command may change; every other block it leaves as it is. -/
def Instr.mayChange : Instr → List Block
  | .powerOnReset _ => [.instruments, .counters, .guards, .image] ++ stageBlocks
  | .resetLineReset _ => [.instruments, .counters, .guards, .image] ++ stageBlocks
  | .identify _ => []
  | .readStatus _ _ => routeBlocks
  | .storeImage _ _ _ _ _ => [.image]
  | .programmingComplete _ _ => [.image, .alarms]
  | .reloadImage _ => [.image]
  | .start _ _ _ _ _ => [.instruments, .guards, .image] ++ routeBlocks
  | .queueOrder _ _ _ _ _ _ => [.orders, .tally] ++ routeBlocks
  | .cancelOrder _ _ => [.orders] ++ routeBlocks
  | .queueLaunch _ _ _ _ _ => routeBlocks
  | .forceLaunch _ => routeBlocks
  | .forceStage _ _ _ => stageBlocks
  | .releaseGuard _ _ => [.guards] ++ routeBlocks
  | .syncFrom _ _ => lineBlocks
  | .readTrain _ _ => []
  | .readOrders _ => []
  | .takeRecord _ => [.records]
  | .unknownRequestCode _ _ => []
  | .portFrameDiscarded _ => []
  | .sampleRequestDue _ => [.instruments] ++ stageBlocks
  | .sampleEvent _ _ => [.instruments, .counters, .guards] ++ stageBlocks
  | .meterPulse _ _ => [.instruments]
  | .limitLevelTaken _ _ _ _ => [.instruments] ++ routeBlocks
  | .travelTimeout _ => routeBlocks
  | .lineFrameReceived _ _ => lineBlocks
  | .launchNoticeTaken _ => stageBlocks
  | .passageNoticeTaken _ => stageBlocks
  | .holdNoticeTaken _ => stageBlocks
  | .statusNoticeTaken _ => stageBlocks
  | .trainRequestTaken _ => stageBlocks
  | .trainReportSegmentTaken _ => stageBlocks
  | .frameTransmitStart _ => [.bus]
  | .frameSent _ => [.bus, .peers]
  | .collision _ _ => lineBlocks
  | .backoffEnd _ => [.bus]
  | .peerHoldExpiry _ => [.bus]
  | .statusIntervalDue _ => lineBlocks
  | .peerSilenceExpiry _ _ => stageBlocks
  | .syncTimeout _ => [.peers, .alarms]

/-- Whether a command is one of the two resets. -/
def Instr.isReset : Instr → Bool
  | .powerOnReset _ => true
  | .resetLineReset _ => true
  | _ => false

/-- Whether a command is RELEASE GUARD for a channel. -/
def Instr.releases (c : ChannelNo) : Instr → Bool
  | .releaseGuard _ channel => decide (channelOf? channel.toNat = some c)
  | _ => false

/-- The bit times that passed before a command (log entry 1). -/
def Instr.dt : Instr → Nat
  | .powerOnReset dt => dt
  | .resetLineReset dt => dt
  | .identify dt => dt
  | .readStatus dt _ => dt
  | .storeImage dt _ _ _ _ => dt
  | .programmingComplete dt _ => dt
  | .reloadImage dt => dt
  | .start dt _ _ _ _ => dt
  | .queueOrder dt _ _ _ _ _ => dt
  | .cancelOrder dt _ => dt
  | .queueLaunch dt _ _ _ _ => dt
  | .forceLaunch dt => dt
  | .forceStage dt _ _ => dt
  | .releaseGuard dt _ => dt
  | .syncFrom dt _ => dt
  | .readTrain dt _ => dt
  | .readOrders dt => dt
  | .takeRecord dt => dt
  | .unknownRequestCode dt _ => dt
  | .portFrameDiscarded dt => dt
  | .sampleRequestDue dt => dt
  | .sampleEvent dt _ => dt
  | .meterPulse dt _ => dt
  | .limitLevelTaken dt _ _ _ => dt
  | .travelTimeout dt => dt
  | .lineFrameReceived dt _ => dt
  | .launchNoticeTaken dt => dt
  | .passageNoticeTaken dt => dt
  | .holdNoticeTaken dt => dt
  | .statusNoticeTaken dt => dt
  | .trainRequestTaken dt => dt
  | .trainReportSegmentTaken dt => dt
  | .frameTransmitStart dt => dt
  | .frameSent dt => dt
  | .collision dt _ => dt
  | .backoffEnd dt => dt
  | .peerHoldExpiry dt => dt
  | .statusIntervalDue dt => dt
  | .peerSilenceExpiry dt _ => dt
  | .syncTimeout dt => dt

/-- R167's table: the code of a request that is not served everywhere, the part states that serve it and the
roles that do. IDENTIFY and READ STATUS, served in every state, and the events are none of these. -/
def Instr.served : Instr → Option (Octet × List PartState × List Role)
  | .storeImage _ _ _ _ _ => some (0x10, [.standby, .configFault], [.origin, .relay, .terminal, .end_])
  | .reloadImage _ => some (0x11, [.standby, .configFault], [.origin, .relay, .terminal, .end_])
  | .start _ _ _ _ _ => some (0x12, [.standby], [.origin, .relay, .terminal, .end_])
  | .queueOrder _ _ _ _ _ _ => some (0x20, [.running], [.terminal, .end_])
  | .cancelOrder _ _ => some (0x21, [.running], [.terminal, .end_])
  | .queueLaunch _ _ _ _ _ => some (0x22, [.running], [.origin])
  | .forceLaunch _ => some (0x23, [.running], [.origin])
  | .forceStage _ _ _ => some (0x24, [.running], [.relay, .terminal, .end_])
  | .releaseGuard _ _ => some (0x25, [.running], [.origin, .relay, .terminal, .end_])
  | .syncFrom _ _ => some (0x26, [.running], [.origin, .relay, .terminal, .end_])
  | .readTrain _ _ => some (0x30, [.running], [.origin, .relay, .terminal, .end_])
  | .readOrders _ => some (0x31, [.running], [.origin, .relay, .terminal, .end_])
  | .takeRecord _ => some (0x32, [.running], [.origin, .relay, .terminal, .end_])
  | _ => none

/-- The events that come to the part while it is RUNNING: all that are neither a reset, nor a frame at the
station port, nor the end of PROGRAMMING, nor a limit level taken. -/
def Instr.isEvent : Instr → Bool
  | .sampleRequestDue _ => true
  | .sampleEvent _ _ => true
  | .meterPulse _ _ => true
  | .travelTimeout _ => true
  | .lineFrameReceived _ _ => true
  | .launchNoticeTaken _ => true
  | .passageNoticeTaken _ => true
  | .holdNoticeTaken _ => true
  | .statusNoticeTaken _ => true
  | .trainRequestTaken _ => true
  | .trainReportSegmentTaken _ => true
  | .frameTransmitStart _ => true
  | .frameSent _ => true
  | .collision _ _ => true
  | .backoffEnd _ => true
  | .peerHoldExpiry _ => true
  | .statusIntervalDue _ => true
  | .peerSilenceExpiry _ _ => true
  | .syncTimeout _ => true
  | _ => false

end Sys2Proof
end

