-- ==== Sys2Proof/WellFormed.lean ====
section
/-! DEFINITION. Which terms of `Instr` are commands that can reach the part. `exec` is total and gives an
ill-formed term the effect its rules read off its operands all the same; statements that need the bound
take `wellFormed` as a hypothesis. -/

namespace Sys2Proof

/-- The bounds that the type of an operand does not hold: at most 294 image octets in a STORE IMAGE
(12.3), at most 96 octets in a line frame (chapter 9), a collision no later than the 768 bit times of the
longest frame, and a silence expiry of a station numbered 1 to 48 (5.4). -/
def Instr.wellFormed : Instr → Bool
  | .storeImage _ _ _ _ octets => decide (octets.length ≤ 294)
  | .lineFrameReceived _ octets => decide (octets.length ≤ 96)
  | .collision _ frameBits => decide (frameBits ≤ 768)
  | .peerSilenceExpiry _ station => decide (1 ≤ station ∧ station ≤ 48)
  | .powerOnReset _ => true
  | .resetLineReset _ => true
  | .identify _ => true
  | .readStatus _ _ => true
  | .programmingComplete _ _ => true
  | .reloadImage _ => true
  | .start _ _ _ _ _ => true
  | .queueOrder _ _ _ _ _ _ => true
  | .cancelOrder _ _ => true
  | .queueLaunch _ _ _ _ _ => true
  | .forceLaunch _ => true
  | .forceStage _ _ _ => true
  | .releaseGuard _ _ => true
  | .syncFrom _ _ => true
  | .readTrain _ _ => true
  | .readOrders _ => true
  | .takeRecord _ => true
  | .unknownRequestCode _ _ => true
  | .portFrameDiscarded _ => true
  | .sampleRequestDue _ => true
  | .sampleEvent _ _ => true
  | .meterPulse _ _ => true
  | .limitLevelTaken _ _ _ _ => true
  | .travelTimeout _ => true
  | .launchNoticeTaken _ => true
  | .passageNoticeTaken _ => true
  | .holdNoticeTaken _ => true
  | .statusNoticeTaken _ => true
  | .trainRequestTaken _ => true
  | .trainReportSegmentTaken _ => true
  | .frameTransmitStart _ => true
  | .frameSent _ => true
  | .backoffEnd _ => true
  | .peerHoldExpiry _ => true
  | .statusIntervalDue _ => true
  | .syncTimeout _ => true

end Sys2Proof
end

