-- ==== Sys2Proof/Certificates/Slice0/Obligations.lean ====
section
/-! DEFINITION. The statements for the provers: the queue of commands and the resets, the requests of the station
port, the sample cycle and the field inputs, the line bus and the peers, what each command leaves as it
is, the laws that every step keeps, and the layouts read back. `p` stands for the part at the moment of
the command: the clock moved on by the command's `dt` (log entry 1). -/

open Sys2Proof Sys2Proof.Machine

/-! ## The queue of commands -/

/-- A step takes the command at the front of the queue and runs it with the rest waiting
(95_what_each_step_holds; the queue is the model's own, log entry 2). -/
def Obligations.StepRunsFrontCommand : Prop :=
  ∀ (c : Instr) (part : Part) (rest : List Instr),
    step { part := part, pending := c :: rest } = exec c { part := part, pending := rest }

/-- Every command of the table completes in every state, and touches no waiting command; with none waiting
the block idles (log entry 2, the model's choice). -/
def Obligations.EveryCommandCompletes : Prop :=
  (∀ (c : Instr) (s : State), ∃ t, exec c s = .next t ∧ t.pending = s.pending) ∧
    (∀ part : Part, step { part := part, pending := [] } = .next { part := part, pending := [] })

/-! ## Resets (R175) -/

/-- After either reset every volatile block holds the values its chapter gives (R18, R33, R49, R94, R95,
R114, R130, R138, R154, R165). The product at the meter 0 and the model's own count of sample events 0 are the
model's choice (log entry 7): R49 lists neither. So is the end of the last carrier, absent (log entry 58): R154 does
not list it. -/
def Obligations.ResetTakesResetValues : Prop :=
  ∀ (c : Instr) (s : State), c.isReset = true → ∃ t, exec c s = .next t ∧
    t.part.train = { records := [], horizon := none } ∧
    t.part.inst =
      { transferOpen := false, nextRequest := none,
        channels := Vector.replicate 8 { last := none, lastValid := none },
        densityReady := false, markerReady := false, densityWarmup := 0, markerWarmup := 0,
        tempInUse := 1500, pressInUse := 0, tHeld := false, pHeld := false, missedRun := 0,
        missedTotal := 0, trunkPending := 0, deliveryPending := 0,
        limits := Vector.replicate 7 { open_ := false, closed := false } } ∧
    t.part.vol =
      { trunkResidue := 0, deliveryResidue := 0, trunkAcc := 0, deliveryAcc := 0, trunkCounter := 0,
        deliveredCounter := 0, arrivalCounter := 0, flowWindow := [], lastVcf := none,
        lastDensity := none, product := 0, uncorrected := false, tally := 0, sampleEvents := 0 } ∧
    t.part.det =
      { window := none, refs := none, leadCount := 0, midCount := 0, trailCount := 0, breakRun := 0,
        midStamp := none, mix := [] } ∧
    t.part.planner =
      { orders := [], nextOrder := 1, launches := [], current := none, incoming := none,
        emptyShown := false, planned := none } ∧
    t.part.outlet =
      { mode := none, current := .unknown, target := none, planned := none, override := [],
        change := none, pending := none,
        outlets := Vector.replicate 7 { command := .idle, stuckOpen := false, lastFault := .none_ },
        conflictHold := false, reported := false, wanted := none } ∧
    t.part.guard =
      { channels := Vector.replicate 8
          { made := false, makeRun := 0, breakRun := 0, latched := false, inhibitPending := false,
            lastValue := none, lastThreshold := none },
        contacts := Vector.replicate 4 false } ∧
    t.part.bus =
      { outbound := [], buffer := none, inbound := [], peerHold := none, holdSent := false,
        stats :=
          { framesSent := 0, collisions := 0, excessive := 0, late := 0, deferrals := 0, evicted := 0,
            framesReceived := 0, badCheck := 0, filtered := 0, malformed := 0, inboundDropped := 0,
            downstreamPassages := 0 },
        generator := none, carrierEnd := none } ∧
    t.part.peer =
      { table := [], phase := .idle, syncStation := none, tag := 0, partialTotal := none, buffer := [],
        lastOutcome := .none_, strays := 0, nextStatus := none }

/-- What the two resets leave of the port and the image store. A power-on reset empties the cut record queue
with the sequence number and the loss count 0, and a reset-line reset keeps all three (R173, R175). After
both the alarm flags are clear, the attention line follows the records, the staging buffer is empty, the
start count is kept, and LOADING judges the kept image, which fails at 510 where it was being written
(R168, R171). Which offset `imageFailure` names where several checks of R168's third group fail follows the
model's reading (log entry 15, DEDUCED). -/
def Obligations.ResetsKeepOrClearRecords : Prop :=
  ∀ (c : Instr) (s : State), c.isReset = true →
    ∃ t, exec c s = .next t ∧
      (∀ dt, c = .powerOnReset dt →
        t.part.port.records = [] ∧ t.part.port.seq = 0 ∧ t.part.port.loss = 0 ∧
        t.part.port.resetCause = .powerOn) ∧
      (∀ dt, c = .resetLineReset dt →
        t.part.port.records = s.part.port.records ∧ t.part.port.seq = s.part.port.seq ∧
        t.part.port.loss = s.part.port.loss ∧ t.part.port.resetCause = .resetLine) ∧
      t.part.port.alarms = 0 ∧ t.part.port.attention = !t.part.port.records.isEmpty ∧
      t.part.image.staging = none ∧ t.part.image.lastStore = .none_ ∧
      t.part.image.startCount = s.part.image.startCount ∧
      (s.part.image.state = .programming →
        t.part.image.state = .configFault ∧ t.part.image.failOffset = some 510) ∧
      (s.part.image.state ≠ .programming →
        t.part.image.nonvolatile = s.part.image.nonvolatile ∧
        t.part.image.failOffset = imageFailure s.part.image.spoiled s.part.image.nonvolatile ∧
        t.part.image.state = (if t.part.image.failOffset = none then .standby else .configFault))

/-! ## The port's own checks and the reads (R167, R175, R174, R19, R113) -/

/-- The first code of R167 that applies refuses a request, and the refusal changes nothing but the response; a
request that passes the checks gets a response with its code; IDENTIFY and READ STATUS are answered in
every state. -/
def Obligations.RequestsRefusedByStateAndRole : Prop :=
  (∀ (c : Instr) (s : State) (code : Octet) (states : List PartState) (roles : List Role),
    c.served = some (code, states, roles) →
    (s.part.image.state = .programming →
      ∃ t, exec c s = .next t ∧ t.part.answered code .busy [] ∧
        (s.part.elapse c.dt).onlyAnswers t.part) ∧
    (s.part.image.state ≠ .programming → s.part.image.state ∉ states →
      ∃ t, exec c s = .next t ∧ t.part.answered code .state [] ∧
        (s.part.elapse c.dt).onlyAnswers t.part) ∧
    (s.part.image.state ≠ .programming → s.part.image.state ∈ states → s.part.cfg.role ∉ roles →
      ∃ t, exec c s = .next t ∧ t.part.answered code .role [] ∧
        (s.part.elapse c.dt).onlyAnswers t.part) ∧
    (s.part.image.state ≠ .programming → s.part.image.state ∈ states → s.part.cfg.role ∈ roles →
      ∃ t result payload, exec c s = .next t ∧ t.part.answered code result payload ∧
        result ≠ .role)) ∧
  (∀ (s : State) (dt : Nat) (mask : BitVec 24),
    (∃ t payload, exec (.identify dt) s = .next t ∧ t.part.answered 0x01 .accepted payload) ∧
    (∃ t payload, exec (.readStatus dt mask) s = .next t ∧ t.part.answered 0x02 .accepted payload))

/-- IDENTIFY, READ TRAIN and READ ORDERS answer and change nothing else (R175, R19, R113): READ TRAIN the record at
its index with the record count and the horizon, or VALUE with these two. TAKE RECORD removes the oldest cut record
and returns it with the loss count, which becomes 0 (R173); with none waiting it returns none. How READ TRAIN and READ
ORDERS code their items where R177 leaves it open is the model's (log entries 20, 61 and 67), and the number of
records that TAKE RECORD returns is the number left (log entry 25, DEDUCED). A frame whose code is no request is
answered with VALUE and changes nothing, in every part state (log entry 21, DEDUCED); a discarded frame is counted, up
to 65,535, and gets no answer (R166). -/
def Obligations.ReadsAndOtherFramesAnswered : Prop :=
  ∀ (s : State) (dt : Nat),
    (∃ t, exec (.identify dt) s = .next t ∧ (s.part.elapse dt).onlyAnswers t.part ∧
      t.part.answered 0x01 .accepted (s.part.elapse dt).identity) ∧
    (s.part.running = true →
      (∀ index : Octet, ∃ t, exec (.readTrain dt index) s = .next t ∧
        (s.part.elapse dt).onlyAnswers t.part ∧
        (∀ r, s.part.train.records[index.toNat]? = some r →
          t.part.answered 0x30 .accepted
            ((s.part.elapse dt).putRecord r ++ (s.part.elapse dt).trainTail)) ∧
        (s.part.train.records.length ≤ index.toNat →
          t.part.answered 0x30 .value (s.part.elapse dt).trainTail)) ∧
      (∃ t, exec (.readOrders dt) s = .next t ∧ (s.part.elapse dt).onlyAnswers t.part ∧
        t.part.answered 0x31 .accepted (s.part.elapse dt).ordersPayload) ∧
      (∃ t, exec (.takeRecord dt) s = .next t ∧
        t.part.port.records = s.part.port.records.tail ∧ t.part.port.loss = 0 ∧
        t.part.port.seq = s.part.port.seq ∧ t.part.port.alarms = s.part.port.alarms ∧
        (s.part.port.records = [] →
          t.part.answered 0x32 .accepted (be2 s.part.port.loss ++ [0, 0])) ∧
        (∀ r rest, s.part.port.records = r :: rest →
          t.part.answered 0x32 .accepted (be2 s.part.port.loss ++ be1 rest.length ++ 1 :: r.octets)) ∧
        (∀ b : Block, b ≠ .records → b.same s.part t.part))) ∧
    (∀ code : Octet, ∃ t, exec (.unknownRequestCode dt code) s = .next t ∧
      t.part.answered code .value [] ∧ (s.part.elapse dt).onlyAnswers t.part) ∧
    (∃ t, exec (.portFrameDiscarded dt) s = .next t ∧
      t.part.port = { s.part.port with discarded := min (s.part.port.discarded + 1) 65535 } ∧
      (∀ b : Block, b.same s.part t.part))

/-- READ STATUS answers with every item as it stands and then clears the flags of its mask (R174), the last faults
with VALVE_FAULT (R126), and marks a conflict hold reported when its response carried ROUTE_CONFLICT (R124). With a
decided launch cut waiting that hold ends there, by R124; that its *reported* is then clear is the model's reading
(log entry 23, DEDUCED), and so is that a ROUTE_CONFLICT shown with no hold leaves *reported* as it is (log entry 66,
DEDUCED). How the items are coded where R177 leaves it open is the model's (log entries 20, 34, 49, 50, 54 to 56, 61,
63 and 68). -/
def Obligations.ReadStatusClearsItsMask : Prop :=
  ∀ (s : State) (dt : Nat) (mask : BitVec 24),
    let shown := s.part.running && s.part.port.alarmSet .routeConflict && s.part.outlet.conflictHold
    ∃ t, exec (.readStatus dt mask) s = .next t ∧
      t.part.answered 0x02 .accepted (s.part.elapse dt).statusPayload ∧
      (shown = true → s.part.planner.incoming.isSome = true →
        t.part.outlet.conflictHold = false ∧ t.part.outlet.reported = false) ∧
      (shown = false ∨ s.part.planner.incoming = none →
        (∀ a : Alarm, t.part.port.alarmSet a = (s.part.port.alarmSet a && !mask.getLsbD a.bit)) ∧
        (∀ o : Outlet, t.part.outlet.outlets[o] =
          if mask.getLsbD Alarm.valveFault.bit then
            { s.part.outlet.outlets[o] with lastFault := .none_ }
          else s.part.outlet.outlets[o]) ∧
        t.part.outlet.reported = (s.part.outlet.reported || shown) ∧
        t.part.outlet.current = s.part.outlet.current ∧
        t.part.outlet.conflictHold = s.part.outlet.conflictHold ∧
        (∀ b : Block, b ≠ .routes → b ≠ .alarms → b.same s.part t.part))

/-! ## The image (R169, R170, R171) -/

/-- STORE IMAGE checks each segment in the order of R170's table; the segment that completes the image puts the
part into PROGRAMMING, its return state the one it was in (R171); nothing but STORE IMAGE, the end of PROGRAMMING,
RELOAD IMAGE and the resets touches the staging buffer. R170 gives an offset of 0 to 511: that a greater one falls
under the same table, SEQUENCE above 512, and at a fill of 512 taken with no octets, is the model's reading (log
entry 27, DEDUCED). -/
def Obligations.StoreImageStagesSegments : Prop :=
  (∀ (s : State) (dt : Nat) (first last : Bool) (offset : BitVec 16) (octets : List Octet),
    s.part.image.state = .standby ∨ s.part.image.state = .configFault →
    ∃ t, exec (.storeImage dt first last offset octets) s = .next t ∧
      t.part.image.nonvolatile = s.part.image.nonvolatile ∧
      t.part.image.config = s.part.image.config ∧
      (∀ b : Block, b ≠ .image → b.same s.part t.part) ∧
      match (if first then some [] else s.part.image.staging) with
      | none =>
        t.part.answered 0x10 .sequence [] ∧ t.part.image.staging = none ∧
          t.part.image.state = s.part.image.state
      | some held =>
        if offset.toNat ≠ held.length ∨ 512 < offset.toNat + octets.length ∨
            (last = true ∧ offset.toNat + octets.length ≠ 512) then
          t.part.answered 0x10 .sequence [] ∧ t.part.image.staging = none ∧
            t.part.image.state = s.part.image.state
        else if last = true ∧
            field (held ++ octets) 510 2 ≠ (checkWord ((held ++ octets).take 510)).toNat then
          t.part.answered 0x10 .value [] ∧ t.part.image.staging = none ∧
            t.part.image.state = s.part.image.state
        else if last = true then
          t.part.port.response.map Response.result = some .accepted ∧
            t.part.image.staging = some (held ++ octets) ∧ t.part.image.state = .programming ∧
            t.part.image.returnState = some s.part.image.state
        else
          t.part.answered 0x10 .accepted [] ∧ t.part.image.staging = some (held ++ octets) ∧
            t.part.image.state = s.part.image.state) ∧
  (∀ (c : Instr) (s t : State), exec c s = .next t →
    match c with
    | .storeImage .. => True
    | .powerOnReset _ => t.part.image.staging = none
    | .resetLineReset _ => t.part.image.staging = none
    | .reloadImage _ =>
      s.part.image.state = .standby ∨ s.part.image.state = .configFault → t.part.image.staging = none
    | .programmingComplete _ _ =>
      s.part.image.state = .programming → t.part.image.staging = none
    | _ => t.part.image.staging = s.part.image.staging)

/-- PROGRAMMING ends (R171): the staged image is in the nonvolatile store, or that fails its check word from
then on; the part is in its return state with the configuration it had. -/
def Obligations.ProgrammingReturns : Prop :=
  ∀ (s : State) (dt : Nat) (good : Bool) (back : PartState),
    s.part.image.state = .programming → s.part.image.returnState = some back →
    ∃ t, exec (.programmingComplete dt good) s = .next t ∧
      t.part.image.state = back ∧ t.part.image.config = s.part.image.config ∧
      t.part.image.startCount = s.part.image.startCount ∧ t.part.image.staging = none ∧
      (good = true →
        some t.part.image.nonvolatile = s.part.image.staging.or (some []) ∧
        t.part.image.lastStore = .good ∧ t.part.port.alarms = s.part.port.alarms) ∧
      (good = false →
        imageFailure t.part.image.spoiled t.part.image.nonvolatile = some 510 ∧
        t.part.image.lastStore = .failed ∧ t.part.port.alarmSet .storeFailed = true) ∧
      (∀ b : Block, b ≠ .image → b ≠ .alarms → b.same s.part t.part)

/-- RELOAD IMAGE empties the staging buffer and repeats LOADING: STANDBY with the configuration of the image,
or CONFIG_FAULT at the failing offset (R168); but for the response nothing else changes (R169). That
the configuration is absent in CONFIG_FAULT is the model's form (log entry 31). The response carries the new
state and, behind a presence octet (R177), the failing offset in two octets: R168 and R169 state no range for it,
and the model takes the range 0 to 511 of R170's image offset (log entry 20, DEDUCED). Which offset `imageFailure`
names where several checks of R168's third group fail is the model's reading too (log entry 15, DEDUCED). -/
def Obligations.ReloadRepeatsLoading : Prop :=
  ∀ (s : State) (dt : Nat),
    s.part.image.state = .standby ∨ s.part.image.state = .configFault →
    ∃ t, exec (.reloadImage dt) s = .next t ∧
      (imageFailure s.part.image.spoiled s.part.image.nonvolatile = none →
        t.part.image = { s.part.image with
          state := .standby, config := some (parseConfig s.part.image.nonvolatile), failOffset := none,
          staging := none }) ∧
      (∀ offset, imageFailure s.part.image.spoiled s.part.image.nonvolatile = some offset →
        t.part.image = { s.part.image with
          state := .configFault, config := none, failOffset := some offset, staging := none }) ∧
      t.part.answered 0x11 .accepted
        (be1 (stateCode t.part.image.state) ++ optField 2 be2 t.part.image.failOffset) ∧
      (s.part.elapse dt).onlyAnswers { t.part with image := s.part.image }

/-! ## START (R172) -/

/-- START (R172). It is refused with VALUE, changing nothing, when the mode is no mode or the present batch's product
is outside 1 to 15, and for a presence octet above 1, which is a value outside its list (R177). An accepted START sets
the mode, OBSERVE where the drive is inhibited; the start count; RUNNING with the first request; the instrument
interface as R33 has it, readiness, warm-up, missed-set and pending counts cleared, the readings and levels as they
were; the learned route, the present batch's record, at the ORIGIN its current batch with the learned outlet as its
source (R108), the planned route, the guards' inhibits and contacts, the seed, and the first STATUS in the transmit
buffer. That a channel that is not enabled takes the inhibit of its record too is the model's reading (log entry 33,
DEDUCED). -/
def Obligations.StartBeginsARun : Prop :=
  (∀ (s : State) (dt : Nat) (mode presence : Octet) (batch : BatchNo) (product : Octet),
    s.part.image.state = .standby →
    (mode.toNat ≠ 1 ∧ mode.toNat ≠ 2) ∨ 1 < presence.toNat ∨
      (presence = 1 ∧ ¬(1 ≤ product.toNat ∧ product.toNat ≤ 15)) →
    ∃ t, exec (.start dt mode presence batch product) s = .next t ∧
      t.part.answered 0x12 .value [] ∧ (s.part.elapse dt).onlyAnswers t.part) ∧
  (∀ (s : State) (dt : Nat) (mode presence : Octet) (batch : BatchNo) (product : Octet) (c : Config) (m : Mode)
    (present : Option (BatchNo × Product)),
    s.part.image.state = .standby → s.part.image.config = some c →
    s.part.trainLaw → s.part.outletLaw → s.part.queueLaw →
    modeOf? mode.toNat = some m → presentOf presence batch product = some present →
    let taken := if c.driveEnabled then m else .observe
    let count := s.part.image.startCount + 1
    ∃ t, exec (.start dt mode presence batch product) s = .next t ∧
      t.part.answered 0x12 .accepted (be1 (modeCode taken) ++ be2 count.toNat) ∧
      t.part.running = true ∧ t.part.image.startCount = count ∧ t.part.outlet.mode = some taken ∧
      t.part.inst =
        { s.part.inst with
          transferOpen := true, nextRequest := some (s.part.now + dt + c.samplePeriod * bitsPerMs),
          densityReady := false, markerReady := false, densityWarmup := 0, markerWarmup := 0,
          tempInUse := 1500, pressInUse := 0, tHeld := true, pHeld := true, missedRun := 0, missedTotal := 0,
          trunkPending := 0, deliveryPending := 0 } ∧
      t.part.outlet.current = routeShown s.part.openOutlets ∧
      t.part.outlet.conflictHold = (decide (2 ≤ s.part.openOutlets.length) && decide (taken = .operate)) ∧
      t.part.port.alarmSet .routeConflict = (s.part.port.alarmSet .routeConflict ||
        decide (2 ≤ s.part.openOutlets.length) ||
        (s.part.openOutlets.isEmpty && (decide (c.role = .end_) || decide (c.role = .origin)))) ∧
      t.part.train.records =
        (match present with
         | some (b, q) =>
           [{ batch := b, product := q, nominated := none, status := .present, head := none,
              delivered := 0, orderLink := none }]
         | none => []) ∧
      t.part.planner.planned = some (startRoute c.role (routeShown s.part.openOutlets)) ∧
      t.part.planner.current =
        (if c.role = .origin then
          present.map (fun x =>
            { batch := x.1, product := x.2, nominated := none, launched := 0,
              source := match s.part.openOutlets with
                | [o] => some o
                | _ => none })
        else none) ∧
      (∀ k : ChannelNo, t.part.guard.channels[k] =
        { GuardChannel.afterReset with inhibitPending := c.guards[k].inhibit }) ∧
      (∀ n : Fin 4, t.part.guard.contacts[n] = true ↔
        ∃ k : ChannelNo, c.guards[k].enable = true ∧ c.guards[k].contact = some n ∧
          c.guards[k].sense = .failsafe) ∧
      t.part.bus.generator = some (BitVec.ofNat 16 (c.station * 256 + count.toNat % 256)) ∧
      t.part.bus.buffer =
        some { notice := .status c.role count c.statusInterval, collisions := 0,
               phase := .waiting (s.part.now + dt) } ∧
      t.part.peer.nextStatus = some (s.part.now + dt + c.statusInterval * bitsPerSecond) ∧
      t.part.vol = s.part.vol ∧ t.part.det = s.part.det ∧ t.part.train.horizon = s.part.train.horizon ∧
      t.part.planner =
        { s.part.planner with current := t.part.planner.current, planned := t.part.planner.planned } ∧
      t.part.bus =
        { LineBus.afterReset with generator := t.part.bus.generator, buffer := t.part.bus.buffer } ∧
      t.part.peer = { s.part.peer with nextStatus := t.part.peer.nextStatus })

/-- RUNNING has no exit but a reset, and the mode and the start count that START took hold until then
(R172). -/
def Obligations.RunningHoldsUntilReset : Prop :=
  ∀ (c : Instr) (s t : State), c.isReset = false → s.part.running = true → exec c s = .next t →
    t.part.running = true ∧ t.part.outlet.mode = s.part.outlet.mode ∧
      t.part.image.startCount = s.part.image.startCount ∧ t.part.image.config = s.part.image.config

/-! ## Orders (R97 to R100) -/

/-- QUEUE ORDER (R97). One that passes every check joins with the next number, its batch's link names it, and the
next number advances; for a PRESENT batch it starts at once (R98): the order FILLING before it ends DONE with its
DELIVERY record, the tally becomes 0 and its outlet is the planned route. Any other is refused with the first code of
R97 that applies, and changes nothing. -/
def Obligations.QueueOrderOutcome : Prop :=
  (∀ (s : State) (dt : Nat) (batch : BatchNo) (outlet : Octet) (limit : BitVec 32) (head tail : Octet)
    (o : Outlet) (hp tp : Policy) (r : BatchRecord),
    s.part.running = true → s.part.cfg.role = .terminal ∨ s.part.cfg.role = .end_ →
    s.part.orderLaw → s.part.planner.incoming = none →
    outlet.toNat = o.val + 1 → o.val < 6 → s.part.cfg.outletsFitted.getLsbD o.val = true →
    policyOf? head.toNat = some hp → policyOf? tail.toNat = some tp →
    limit.toNat ≤ 40000000 → (s.part.cfg.role = .end_ → limit = 0) →
    findBatch batch s.part.train.records = some r → r.status ≠ .departed →
    ¬(r.status = .present ∧ s.part.inMix = true) →
    (∀ e ∈ s.part.planner.orders, e.batch ≠ batch) → s.part.planner.orders.length < 16 →
    let number := s.part.planner.nextOrder
    let queued : Order :=
      { number := number, batch := batch, outlet := o, limit := limit.toNat, headPolicy := hp,
        tailPolicy := tp, filling := false }
    ∃ t, exec (.queueOrder dt batch outlet limit head tail) s = .next t ∧
      t.part.answered 0x20 .accepted (be1 number) ∧
      t.part.planner.nextOrder = nextNumber number (insertOrder queued s.part.planner.orders) ∧
      (findBatch batch t.part.train.records).map BatchRecord.orderLink = some (some number) ∧
      (r.status = .approaching →
        t.part.planner.orders = insertOrder queued s.part.planner.orders ∧
        t.part.vol = s.part.vol ∧ t.part.port.records = s.part.port.records) ∧
      (r.status = .present →
        { queued with filling := true } ∈ t.part.planner.orders ∧
        (∀ e ∈ t.part.planner.orders, e.filling = true → e.number = number) ∧
        t.part.vol.tally = 0 ∧ t.part.planner.planned = some (.outlet o) ∧
        (∀ f, s.part.fillingOrder = some f → ∃ rec ∈ t.part.port.records,
          rec.body = .delivery f.number f.batch f.outlet s.part.vol.tally .done))) ∧
  (∀ (s : State) (dt : Nat) (batch : BatchNo) (outlet : Octet) (limit : BitVec 32) (head tail : Octet)
    (result : Result),
    s.part.running = true → s.part.cfg.role = .terminal ∨ s.part.cfg.role = .end_ →
    let good := 1 ≤ outlet.toNat ∧ outlet.toNat ≤ 6 ∧
      s.part.cfg.outletsFitted.getLsbD (outlet.toNat - 1) = true ∧
      (1 ≤ head.toNat ∧ head.toNat ≤ 3) ∧ (1 ≤ tail.toNat ∧ tail.toNat ≤ 3) ∧
      limit.toNat ≤ 40000000 ∧ (s.part.cfg.role = .end_ → limit = 0)
    (¬good ∧ result = .value) ∨
      (good ∧ findBatch batch s.part.train.records = none ∧ result = .unknownBatch) ∨
      (good ∧ ∃ r, findBatch batch s.part.train.records = some r ∧
        let late := r.status = .departed ∨ (r.status = .present ∧ s.part.inMix = true)
        (late ∧ result = .sequence) ∨
        (¬late ∧ (∃ e ∈ s.part.planner.orders, e.batch = batch) ∧ result = .duplicate) ∨
        (¬late ∧ (∀ e ∈ s.part.planner.orders, e.batch ≠ batch) ∧
          16 ≤ s.part.planner.orders.length ∧ result = .full)) →
    ∃ t, exec (.queueOrder dt batch outlet limit head tail) s = .next t ∧
      t.part.answered 0x20 result [] ∧ (s.part.elapse dt).onlyAnswers t.part)

/-- CANCEL ORDER (R100, R99): no such number is refused with VALUE; otherwise the order leaves the queue with a
DELIVERY record, CANCELLED, of the tally if it was FILLING and of 0 if not, its batch's link becomes
absent, and after a FILLING order the planned route is the role's default (R104, R102). -/
def Obligations.CancelOrderEndsOrder : Prop :=
  ∀ (s : State) (dt : Nat) (number : Octet),
    s.part.running = true → s.part.cfg.role = .terminal ∨ s.part.cfg.role = .end_ →
    s.part.orderLaw → s.part.planner.incoming = none →
    ((∀ o ∈ s.part.planner.orders, o.number ≠ number.toNat) →
      ∃ t, exec (.cancelOrder dt number) s = .next t ∧
        t.part.answered 0x21 .value [] ∧ (s.part.elapse dt).onlyAnswers t.part) ∧
    (∀ o ∈ s.part.planner.orders, o.number = number.toNat →
      let volume := if o.filling then s.part.vol.tally else 0
      ∃ t, exec (.cancelOrder dt number) s = .next t ∧
        t.part.answered 0x21 .accepted (be1 (if o.filling then 2 else 1) ++ be4 volume) ∧
        t.part.planner.orders = s.part.planner.orders.filter (fun e => decide (e.number ≠ number.toNat)) ∧
        t.part.planner.nextOrder = s.part.planner.nextOrder ∧
        t.part.port.records.getLast? =
          some { seq := s.part.port.seq, stamp := s.part.vol.arrivalCounter,
                 body := .delivery o.number o.batch o.outlet volume .cancelled } ∧
        (∀ r ∈ t.part.train.records, r.batch = o.batch → r.orderLink = none) ∧
        (o.filling = true → t.part.planner.planned =
          some (if s.part.cfg.role = .end_ then .outlet transmix else .closed)))

/-! ## Launches (R108 to R112) -/

/-- QUEUE LAUNCH (R108): refused with VALUE, DUPLICATE, SEQUENCE or FULL, of several the first in this order (log
entry 46, DEDUCED), and then nothing changes; otherwise the entry joins the queue. A cut is decided of the oldest
entry only where the volume condition holds, no cut waits and no HOLD_LAUNCH channel is made (R109, R110). -/
def Obligations.QueueLaunchOutcome : Prop :=
  ∀ (s : State) (dt : Nat) (batch : BatchNo) (product : Octet) (volume : BitVec 32) (outlet : Octet),
    s.part.running = true → s.part.cfg.role = .origin →
    let good := (1 ≤ product.toNat ∧ product.toNat ≤ 15) ∧ (1 ≤ outlet.toNat ∧ outlet.toNat ≤ 6) ∧
      s.part.cfg.outletsFitted.getLsbD (outlet.toNat - 1) = true ∧
      1 ≤ volume.toNat ∧ volume.toNat ≤ 40000000
    let held := (s.part.planner.current.map CurrentBatch.batch).toList ++
      (s.part.planner.incoming.map LaunchEntry.batch).toList ++
      s.part.planner.launches.map LaunchEntry.batch
    let refused (result : Result) : Prop :=
      ∃ t, exec (.queueLaunch dt batch product volume outlet) s = .next t ∧
        t.part.answered 0x22 result [] ∧ (s.part.elapse dt).onlyAnswers t.part
    (¬good → refused .value) ∧
    (good → batch ∈ held → refused .duplicate) ∧
    (good → batch ∉ held → s.part.launchInOrder batch = false → refused .sequence) ∧
    (good → batch ∉ held → s.part.launchInOrder batch = true → 8 ≤ s.part.planner.launches.length →
      refused .full) ∧
    (good → batch ∉ held → s.part.launchInOrder batch = true → s.part.planner.launches.length < 8 →
      ∃ t, ∃ e : LaunchEntry, exec (.queueLaunch dt batch product volume outlet) s = .next t ∧
        t.part.answered 0x22 .accepted [] ∧
        e.batch = batch ∧ e.product.val = product.toNat ∧ e.nominated = volume.toNat ∧
        e.outlet.val + 1 = outlet.toNat ∧
        (s.part.volumeCondition = false ∨ s.part.planner.incoming.isSome = true ∨
            s.part.holdLaunchMade = true →
          t.part.planner = { s.part.planner with launches := s.part.planner.launches ++ [e] } ∧
          (∀ b : Block, b ≠ .launches → b.same s.part t.part)) ∧
        (s.part.volumeCondition = true → s.part.planner.incoming = none →
          s.part.holdLaunchMade = false →
          t.part.planner.launches = (s.part.planner.launches ++ [e]).tail))

/-- FORCE LAUNCH (R112): BUSY, then SEQUENCE (in this order: log entry 47, DEDUCED), each changing nothing;
otherwise the cut of the oldest entry is decided, and waits or has taken effect. It takes effect as it is decided in
OBSERVE, with the route already at its source, or where the change toward its source starts at once (R111, R117):
the LAUNCH record of the batch before, the LAUNCH notice, the new current batch with nothing launched, and its
CLEARED record at D = 0 (R12). With another change in flight, or the target held elsewhere by a guard, it waits and
nothing is launched; and where its source outlet is pending (R119), it takes effect as the limit level comes that
ends the change before it and starts its own. -/
def Obligations.ForceLaunchDecidesCut : Prop :=
  ∀ (s : State) (dt : Nat), s.part.running = true → s.part.cfg.role = .origin →
    (s.part.holdLaunchMade = true →
      ∃ t, exec (.forceLaunch dt) s = .next t ∧
        t.part.answered 0x23 .busy [] ∧ (s.part.elapse dt).onlyAnswers t.part) ∧
    (s.part.holdLaunchMade = false →
      s.part.planner.launches = [] ∨ s.part.planner.incoming.isSome = true →
      ∃ t, exec (.forceLaunch dt) s = .next t ∧
        t.part.answered 0x23 .sequence [] ∧ (s.part.elapse dt).onlyAnswers t.part) ∧
    (∀ e rest, s.part.holdLaunchMade = false → s.part.planner.launches = e :: rest →
      s.part.planner.incoming = none →
      ∃ t, exec (.forceLaunch dt) s = .next t ∧
        t.part.answered 0x23 .accepted (be2 e.batch.toNat ++ flag t.part.planner.incoming.isNone) ∧
        t.part.planner.launches = rest ∧ t.part.planner.planned = some (.outlet e.outlet) ∧
        (t.part.planner.incoming = some e ∨
          (t.part.planner.incoming = none ∧
            t.part.planner.current.map CurrentBatch.batch = some e.batch))) ∧
    (∀ e rest, s.part.holdLaunchMade = false → s.part.planner.launches = e :: rest →
      s.part.planner.incoming = none → s.part.outlet.conflictHold = false →
      s.part.outlet.mode = some .observe ∨
        (s.part.outlet.mode = some .operate ∧ s.part.outlet.current = .known (.outlet e.outlet) ∧
          s.part.outlet.change = none ∧ s.part.outlet.override = []) →
      ∃ t, exec (.forceLaunch dt) s = .next t ∧
        t.part.answered 0x23 .accepted (be2 e.batch.toNat ++ flag true) ∧
        (s.part.elapse dt).launchTook e t.part ∧ t.part.planner.launches = rest ∧
        t.part.planner.planned = some (.outlet e.outlet)) ∧
    (∀ e rest, s.part.holdLaunchMade = false → s.part.planner.launches = e :: rest →
      s.part.planner.incoming = none → s.part.outlet.conflictHold = false →
      s.part.outlet.mode = some .operate → s.part.outlet.change = none → s.part.outlet.override = [] →
      s.part.outlet.current ≠ .known (.outlet e.outlet) → s.part.outlet.target ≠ some (.outlet e.outlet) →
      s.part.openLevel e.outlet = false →
      ∃ t, exec (.forceLaunch dt) s = .next t ∧
        t.part.answered 0x23 .accepted (be2 e.batch.toNat ++ flag true) ∧
        (s.part.elapse dt).launchTook e t.part ∧ t.part.planner.launches = rest ∧
        t.part.outlet.outlets[e.outlet].command = .opening ∧
        t.part.outlet.change =
          some { source := s.part.outlet.current, target := .outlet e.outlet, phase := .opening,
                 expiry := s.part.now + dt + s.part.cfg.travelTimeout * bitsPerSecond }) ∧
    (∀ e rest, s.part.holdLaunchMade = false → s.part.planner.launches = e :: rest →
      s.part.planner.incoming = none → s.part.outlet.conflictHold = false →
      s.part.outlet.mode = some .operate →
      let inFlight := s.part.outlet.override = [] ∧ s.part.outlet.target ≠ some (.outlet e.outlet) ∧
        ∃ c, s.part.outlet.change = some c ∧ c.target ≠ .outlet e.outlet
      let guarded := s.part.outlet.change = none ∧ s.part.outlet.current ≠ .known (.outlet e.outlet) ∧
        ∃ x more, s.part.outlet.override = x :: more ∧ x.2 ≠ .outlet e.outlet ∧
          s.part.outlet.target = some x.2
      inFlight ∨ guarded →
      ∃ t, exec (.forceLaunch dt) s = .next t ∧
        t.part.answered 0x23 .accepted (be2 e.batch.toNat ++ flag false) ∧
        t.part.planner = { s.part.planner with
          launches := rest, incoming := some e, planned := some (.outlet e.outlet) } ∧
        t.part.outlet.change = s.part.outlet.change ∧ t.part.outlet.outlets = s.part.outlet.outlets ∧
        (inFlight → t.part.outlet.pending = some (.outlet e.outlet)) ∧
        (∀ b : Block, b ≠ .launches → b ≠ .routes → b.same s.part t.part)) ∧
    (∀ (e : LaunchEntry) (a : Outlet) (c : Change), s.part.planner.incoming = some e →
      s.part.outlet.mode = some .operate → s.part.levelsRead a = true →
      s.part.inst.limits[a].closed = false → s.part.outlet.outlets[a].command = .closing →
      (∀ o : Outlet, o ≠ a → s.part.outlet.outlets[o].command ≠ .closing) →
      s.part.outlet.change = some c → c.phase ≠ .opening → c.target ≠ .outlet e.outlet →
      s.part.outlet.pending = some (.outlet e.outlet) → s.part.openLevel e.outlet = false →
      ∃ t, exec (.limitLevelTaken dt a .closed true) s = .next t ∧
        (s.part.elapse dt).launchTook e t.part ∧
        t.part.outlet.current = .known c.target ∧ t.part.outlet.pending = none ∧
        t.part.outlet.outlets[e.outlet].command = .opening ∧
        t.part.outlet.change =
          some { source := .known c.target, target := .outlet e.outlet, phase := .opening,
                 expiry := s.part.now + dt + s.part.cfg.travelTimeout * bitsPerSecond })

/-! ## Forced stages (R87) -/

/-- FORCE STAGE (R87). It is refused with STATE for an empty window, UNKNOWN_BATCH for another batch and SEQUENCE
for a stage that is not the next, and with VALUE for a stage code outside its list (R177); none of these changes
anything. That VALUE comes before R87's own refusals is the model's reading (log entry 24, DEDUCED). The next stage is
accepted: a leading edge or a midpoint that no volume stage follows (R84) takes the state, the stage record with method
FORCED and the arrival counter, EARLY untouched, the four counts 0; with the midpoint the midpoint error D and the
trunk stamp (R88). -/
def Obligations.ForceStageOutcome : Prop :=
  (∀ (s : State) (dt : Nat) (batch : BatchNo) (stage : Octet),
    s.part.running = true → s.part.cfg.role ≠ .origin →
    (stageOf? stage.toNat = none →
      ∃ t, exec (.forceStage dt batch stage) s = .next t ∧
        t.part.answered 0x24 .value [] ∧ (s.part.elapse dt).onlyAnswers t.part) ∧
    (∀ g, stageOf? stage.toNat = some g →
      (s.part.windowHead = none →
        ∃ t, exec (.forceStage dt batch stage) s = .next t ∧
          t.part.answered 0x24 .state [] ∧ (s.part.elapse dt).onlyAnswers t.part) ∧
      (∀ r h, s.part.windowHead = some (r, h) →
        (r.batch ≠ batch →
          ∃ t, exec (.forceStage dt batch stage) s = .next t ∧
            t.part.answered 0x24 .unknownBatch [] ∧ (s.part.elapse dt).onlyAnswers t.part) ∧
        (r.batch = batch → h.next ≠ some g →
          ∃ t payload, exec (.forceStage dt batch stage) s = .next t ∧
            t.part.answered 0x24 .sequence payload ∧ (s.part.elapse dt).onlyAnswers t.part)))) ∧
  (∀ (s : State) (dt : Nat) (batch : BatchNo) (stage : Octet) (r : BatchRecord) (h : HeadInterface),
    s.part.running = true → s.part.cfg.role ≠ .origin → s.part.planner.incoming = none →
    s.part.windowHead = some (r, h) → r.batch = batch →
    (∀ g, stageOf? stage.toNat = some g → h.next = some g →
      ∃ t payload, exec (.forceStage dt batch stage) s = .next t ∧
        t.part.answered 0x24 .accepted payload) ∧
    (stage = 1 → h.state = .distant ∨ h.state = .armed →
      h.channel ≠ some .volume ∨ s.part.degraded h = true ∨ 0 < h.d →
      ∃ t r' h', exec (.forceStage dt batch stage) s = .next t ∧
        t.part.windowHead = some (r', h') ∧ r'.batch = batch ∧ h'.state = .inMix ∧
        h'.leadRec = some { method := .forced, stamp := s.part.vol.arrivalCounter } ∧
        h'.midRec = h.midRec ∧ h'.early = h.early ∧ h'.d = h.d ∧
        (∀ q, h'.plan = some q → q.frozen = true) ∧
        t.part.det.leadCount = 0 ∧ t.part.det.midCount = 0 ∧ t.part.det.trailCount = 0 ∧
        t.part.det.breakRun = 0) ∧
    (stage = 2 → h.state = .inMix →
      h.channel ≠ some .volume ∨ s.part.degraded h = true ∨ -((h.w / 2 : Nat) : Int) < h.d →
      ∃ t r' h', exec (.forceStage dt batch stage) s = .next t ∧
        t.part.windowHead = some (r', h') ∧ r'.batch = batch ∧ h'.state = .pastMid ∧
        h'.midRec = some { method := .forced, stamp := s.part.vol.arrivalCounter } ∧
        h'.leadRec = h.leadRec ∧ h'.midError = some h.d ∧ h'.d = h.d ∧
        t.part.det.midStamp = some s.part.vol.trunkCounter ∧
        t.part.det.leadCount = 0 ∧ t.part.det.midCount = 0 ∧ t.part.det.trailCount = 0 ∧
        t.part.det.breakRun = 0))

/-- A forced trailing edge completes the interface (R87, R90, R91, R92), shown where no order waits and no
other head is left to be the window: CLEARED with the predicted W as measured width, the degraded mark, the
INTERFACE record, the PASSAGE notice with the midpoint's trunk stamp, the batch PRESENT, the window empty. -/
def Obligations.ForcedTrailingEdgeCompletes : Prop :=
  ∀ (s : State) (dt : Nat) (batch : BatchNo) (r : BatchRecord) (h : HeadInterface) (stamp : Counter),
    s.part.running = true → s.part.cfg.role ≠ .origin → s.part.planner.incoming = none →
    s.part.planner.orders = [] → s.part.windowHead = some (r, h) → r.batch = batch →
    h.state = .pastMid → s.part.det.midStamp = some stamp →
    (∀ x ∈ s.part.train.records, x.batch ≠ batch → x.headLive = false) →
    s.part.bus.buffer.isSome = true → s.part.bus.outbound.length < 32 →
    let degraded := s.part.degraded h
    let late := decide (h.leadRec.map StageRecord.method = some .late) ||
      decide (h.midRec.map StageRecord.method = some .late)
    ∃ t r' h', exec (.forceStage dt batch 3) s = .next t ∧
      t.part.port.response.map Response.result = some .accepted ∧
      findBatch batch t.part.train.records = some r' ∧ r'.head = some h' ∧ r'.status = .present ∧
      h'.state = .cleared ∧ h'.measuredWidth = some h.w ∧ h'.degradedMark = some degraded ∧
      h'.trailRec = some { method := .forced, stamp := s.part.vol.arrivalCounter } ∧ h'.plan = none ∧
      t.part.det.window = none ∧ t.part.det.midStamp = none ∧ t.part.det.mix = [] ∧
      t.part.port.records.getLast? =
        some { seq := s.part.port.seq, stamp := s.part.vol.arrivalCounter,
               body := .interface batch h.leading r.product (methodIn h.leadRec) (methodIn h.midRec) .forced
                 h.w (h.midError.getD h.d) h.early h.clamped h.overdue degraded s.part.det.mix } ∧
      t.part.bus.outbound = s.part.bus.outbound ++
        [{ notice := .passage batch r.product h.leading h.w (methodIn h.leadRec) (methodIn h.midRec) .forced
             true late degraded stamp,
           joined := s.part.now + dt }]

/-! ## Guards (R131 to R137) -/

/-- RELEASE GUARD (R134, R137): VALUE and SEQUENCE change nothing; a latched MADE channel becomes BROKEN with
its runs 0, a GUARD record `released` is written, a route channel leaves the override, and its contact
follows its sense. -/
def Obligations.ReleaseGuardReleases : Prop :=
  ∀ (s : State) (dt : Nat) (channel : Octet), s.part.running = true →
    ((∀ c : ChannelNo, c.val + 1 = channel.toNat → s.part.cfg.guards[c].enable = false) →
      ∃ t, exec (.releaseGuard dt channel) s = .next t ∧
        t.part.answered 0x25 .value [] ∧ (s.part.elapse dt).onlyAnswers t.part) ∧
    (∀ c : ChannelNo, c.val + 1 = channel.toNat → s.part.cfg.guards[c].enable = true →
      let k := s.part.guard.channels[c]
      let g := s.part.cfg.guards[c]
      (k.made = false ∨ k.latched = false →
        ∃ t, exec (.releaseGuard dt channel) s = .next t ∧
          t.part.answered 0x25 .sequence [] ∧ (s.part.elapse dt).onlyAnswers t.part) ∧
      (k.made = true → k.latched = true →
        ∃ t, exec (.releaseGuard dt channel) s = .next t ∧
          t.part.answered 0x25 .accepted (be1 1) ∧
          t.part.guard.channels =
            s.part.guard.channels.set c
              { k with made := false, makeRun := 0, breakRun := 0, latched := false } ∧
          (∃ rec ∈ t.part.port.records, rec.seq = s.part.port.seq ∧
            rec.stamp = s.part.vol.arrivalCounter ∧ rec.body = .guard c .released g.action k.lastValue) ∧
          (g.action = .forceTransmix ∨ g.action = .forceClosed →
            ∀ e ∈ t.part.outlet.override, e.1 ≠ c) ∧
          (∀ n, g.contact = some n → t.part.guard.contacts[n] = decide (g.sense = .failsafe))))

/-- One channel on one sample event (R131, R132, R133, R135): not enabled, without a valid source or without a
threshold, nothing changes; otherwise the runs, the make at the make count, the break at the break count, the latch
and the inhibit go as R131 and R133 give. No other channel's state changes. A make writes its GUARD record; with
FORCE_TRANSMIX the channel joins the override with outlet 7, with FORCE_CLOSED with CLOSED, which is the target where
it is the lowest in the override (R136, R116); with END_ORDER it ends the FILLING order GUARD, with its DELIVERY
record (R106); any other leaves the override as it was. A break writes its GUARD record `broken` with the value; its
route action leaves the override, or with the last HOLD_LAUNCH made the cut test decides the oldest launch that is
due; and the contact follows its sense (R137, R138). A SAMPLE_EVENT evaluates the channels in order 1 to 8 on the part
`p` as the blocks before the guard unit leave it, each source read of `p` (R128): its channels and contacts as before
the event, its volume and its window D as after it; and what they leave is the part after the event, but for the
current route that OBSERVE follows (R125). That the detector comes before the guard unit is the model's order (log
entry 11, DEDUCED), and so is that the threshold is read of `p` (log entry 57, DEDUCED). -/
def Obligations.GuardChannelEvaluated : Prop :=
  (∀ (e : Sample) (n : Counted) (taken s : Part) (c : ChannelNo),
    let g := s.cfg.guards[c]
    let k := s.guard.channels[c]
    let after := Part.evaluateChannel e n taken s c
    let k' := after.guard.channels[c]
    (g.enable = false ∨ taken.sourceValue e n g.source = none ∨ taken.threshold g = none → after = s) ∧
    (∀ v limit, g.enable = true → taken.sourceValue e n g.source = some v → taken.threshold g = some limit →
      let makes := (g.compare = .high ∧ limit < v) ∨ (g.compare = .low ∧ v < limit)
      let breaks := (g.compare = .high ∧ v < limit - g.passband) ∨
        (g.compare = .low ∧ limit + g.passband < v)
      k'.lastValue = some v ∧ k'.lastThreshold = some limit ∧
      (∀ d : ChannelNo, d ≠ c → after.guard.channels[d] = s.guard.channels[d]) ∧
      (k.made = true → k.latched = true →
        k'.made = true ∧ k'.latched = true ∧ k'.makeRun = 0 ∧ k'.breakRun = 0) ∧
      (k.made = true → k.latched = false → breaks → k.breakRun + 1 < g.breakCount →
        k'.made = true ∧ k'.breakRun = k.breakRun + 1 ∧ k'.makeRun = 0) ∧
      (k.made = true → k.latched = false → breaks → g.breakCount ≤ k.breakRun + 1 →
        k'.made = false ∧ k'.breakRun = 0 ∧ k'.makeRun = 0 ∧
        (∃ rec ∈ after.port.records, rec.body = .guard c .broken g.action (some v)) ∧
        (g.action = .forceTransmix ∨ g.action = .forceClosed → ∀ x ∈ after.outlet.override, x.1 ≠ c) ∧
        (∀ l rest, g.action = .holdLaunch → s.cfg.role = .origin → s.volumeCondition = true →
          (∀ d : ChannelNo, d ≠ c → s.cfg.guards[d].action = .holdLaunch → s.guard.channels[d].made = false) →
          s.planner.incoming = none → s.planner.launches = l :: rest →
          after.planner.launches = rest ∧ after.planner.planned = some (.outlet l.outlet)) ∧
        (∀ n, g.contact = some n → after.guard.contacts[n] = decide (g.sense = .failsafe))) ∧
      (k.made = true → k.latched = false → ¬breaks → k'.made = true ∧ k'.breakRun = 0 ∧ k'.makeRun = 0) ∧
      (k.made = false → k.inhibitPending = true →
        k'.made = false ∧ k'.makeRun = 0 ∧ (k'.inhibitPending = true ↔ makes)) ∧
      (k.made = false → k.inhibitPending = false → makes → k.makeRun + 1 < g.makeCount →
        k'.made = false ∧ k'.makeRun = k.makeRun + 1 ∧ k'.breakRun = 0) ∧
      (k.made = false → k.inhibitPending = false → makes → g.makeCount ≤ k.makeRun + 1 →
        k'.made = true ∧ k'.latched = g.latch ∧ k'.makeRun = 0 ∧ k'.breakRun = 0 ∧
        after.port.alarmSet .guardMade = true ∧
        (∀ q, (g.action = .forceTransmix ∧ q = .outlet 6) ∨ (g.action = .forceClosed ∧ q = .closed) →
          (∀ x, x ∈ after.outlet.override ↔ (x = (c, q) ∨ (x ∈ s.outlet.override ∧ x.1 ≠ c))) ∧
          ((∀ x ∈ s.outlet.override, c < x.1) → after.outlet.target = some q)) ∧
        (g.action ≠ .forceTransmix → g.action ≠ .forceClosed → after.outlet.override = s.outlet.override) ∧
        (∃ rec ∈ after.port.records, rec.body = .guard c .made g.action (some v)) ∧
        (∀ n, g.contact = some n → after.guard.contacts[n] = decide (g.sense = .normal)) ∧
        (∀ o, g.action = .endOrder → s.fillingOrder = some o →
          (∃ rec ∈ after.port.records,
            rec.body = .delivery o.number o.batch o.outlet s.vol.tally .guard) ∧
          ∀ x ∈ after.planner.orders, x.number ≠ o.number)) ∧
      (k.made = false → k.inhibitPending = false → ¬makes →
        k'.made = false ∧ k'.makeRun = 0 ∧ k'.breakRun = 0))) ∧
  (∀ (s : State) (dt : Nat) (set : SampleSet), s.part.running = true → s.part.inst.transferOpen = true →
    ∃ t p, exec (.sampleEvent dt set) s = .next t ∧
      p.cfg = s.part.cfg ∧ p.guard = s.part.guard ∧ p.vol = t.part.vol ∧
      (s.part.samples → p.windowD = t.part.windowD) ∧
      let guarded := ([0, 1, 2, 3, 4, 5, 6, 7] : List ChannelNo).foldl
        (Part.evaluateChannel (s.part.eventOf set) (s.part.countOf set) p) p
      t.part = { guarded with outlet := { guarded.outlet with current := t.part.outlet.current } })

/-- While the part runs, a latched MADE channel stays MADE and latched, whatever the command, until RELEASE
GUARD names it or a reset comes (R134, R131). -/
def Obligations.LatchedGuardStaysMade : Prop :=
  ∀ (i : Instr) (s t : State) (c : ChannelNo), i.isReset = false → i.releases c = false →
    s.part.running = true → s.part.guard.channels[c].made = true → s.part.guard.channels[c].latched = true →
    exec i s = .next t →
    t.part.guard.channels[c].made = true ∧ t.part.guard.channels[c].latched = true

/-! ## The sample cycle and the field inputs (chapters 2, 3, 4, 7) -/

/-- A sample request falls due (R20): a transfer opens and the next request lies one sample period on; a
transfer still open is a missed set (R23), the fourth in a row takes READY from both analysers and holds
temperature and pressure (R24), and the pulses stay pending. Before that moment nothing changes (log entry 9,
DEDUCED). -/
def Obligations.SampleRequestDueOpensTransfer : Prop :=
  ∀ (s : State) (dt due : Nat), s.part.running = true → s.part.inst.nextRequest = some due →
    let run := min (s.part.inst.missedRun + 1) 65535
    (s.part.now + dt < due →
      exec (.sampleRequestDue dt) s = .next { s with part := s.part.elapse dt }) ∧
    (due ≤ s.part.now + dt → ∃ t, exec (.sampleRequestDue dt) s = .next t ∧
      t.part.inst.transferOpen = true ∧
      t.part.inst.nextRequest = some (due + s.part.cfg.samplePeriod * bitsPerMs) ∧
      t.part.inst.trunkPending = s.part.inst.trunkPending ∧
      t.part.inst.deliveryPending = s.part.inst.deliveryPending ∧
      t.part.inst.tempInUse = s.part.inst.tempInUse ∧ t.part.inst.pressInUse = s.part.inst.pressInUse ∧
      (s.part.inst.transferOpen = false → t.part.inst =
        { s.part.inst with
          transferOpen := true, nextRequest := some (due + s.part.cfg.samplePeriod * bitsPerMs) }) ∧
      (s.part.inst.transferOpen = true →
        t.part.inst.missedRun = run ∧
        t.part.inst.missedTotal = min (s.part.inst.missedTotal + 1) 65535 ∧
        t.part.port.alarmSet .sampleMissed =
          (s.part.port.alarmSet .sampleMissed || decide (4 ≤ run)) ∧
        (run ≠ 4 → t.part.inst.densityReady = s.part.inst.densityReady ∧
          t.part.inst.markerReady = s.part.inst.markerReady ∧ t.part.inst.tHeld = s.part.inst.tHeld ∧
          t.part.inst.pHeld = s.part.inst.pHeld ∧
          t.part.inst.densityWarmup = s.part.inst.densityWarmup ∧
          t.part.inst.markerWarmup = s.part.inst.markerWarmup) ∧
        (run = 4 → t.part.inst.densityReady = false ∧ t.part.inst.markerReady = false ∧
          t.part.inst.tHeld = true ∧ t.part.inst.pHeld = true ∧ t.part.inst.densityWarmup = 0 ∧
          t.part.inst.markerWarmup = 0)))

/-- A completed set taken (R21, R25 to R27, R29): the missed run 0, each channel's last reading held to its
range with its validity, its last valid value, the values in use with their held flags, readiness and
warm-up counts, and at most 65,535 pulses handed of each meter. Without an open transfer the set is discarded. -/
def Obligations.SampleEventTakesReadings : Prop :=
  ∀ (s : State) (dt : Nat) (set : SampleSet), s.part.running = true →
    (s.part.inst.transferOpen = false →
      exec (.sampleEvent dt set) s = .next { s with part := s.part.elapse dt }) ∧
    (s.part.inst.transferOpen = true →
      ∃ t, exec (.sampleEvent dt set) s = .next t ∧
        t.part.inst.transferOpen = false ∧ t.part.inst.missedRun = 0 ∧
        t.part.inst.nextRequest = s.part.inst.nextRequest ∧ t.part.inst.limits = s.part.inst.limits ∧
        (∀ i : Fin 8,
          let r := set[i]
          let low := (acceptedRange i).1
          let high := (acceptedRange i).2
          let valid := r.indicated && decide (low ≤ r.value ∧ r.value ≤ high)
          t.part.inst.channels[i].last = some (max low (min high r.value), valid) ∧
          t.part.inst.channels[i].lastValid =
            if valid then some r.value else s.part.inst.channels[i].lastValid) ∧
        t.part.inst.tempInUse = (t.part.inst.channels[2].lastValid).getD 1500 ∧
        t.part.inst.pressInUse = (t.part.inst.channels[3].lastValid).getD 0 ∧
        t.part.inst.tHeld = !readingValid 2 set[2] ∧ t.part.inst.pHeld = !readingValid 3 set[3] ∧
        (t.part.inst.densityReady = true ↔
          s.part.cfg.densityFitted = true ∧ readingValid 0 set[0] = true ∧
            (s.part.inst.densityReady = true ∨ s.part.cfg.warmup ≤ s.part.inst.densityWarmup + 1)) ∧
        (t.part.inst.markerReady = true ↔
          s.part.cfg.markerFitted = true ∧ readingValid 1 set[1] = true ∧
            (s.part.inst.markerReady = true ∨ s.part.cfg.warmup ≤ s.part.inst.markerWarmup + 1)) ∧
        t.part.inst.densityWarmup =
          (if s.part.cfg.densityFitted = false then s.part.inst.densityWarmup
           else if readingValid 0 set[0] = false then 0
           else if s.part.inst.densityReady then s.part.cfg.warmup
           else min s.part.cfg.warmup (s.part.inst.densityWarmup + 1)) ∧
        t.part.inst.markerWarmup =
          (if s.part.cfg.markerFitted = false then s.part.inst.markerWarmup
           else if readingValid 1 set[1] = false then 0
           else if s.part.inst.markerReady then s.part.cfg.warmup
           else min s.part.cfg.warmup (s.part.inst.markerWarmup + 1)) ∧
        t.part.inst.trunkPending = s.part.inst.trunkPending - min s.part.inst.trunkPending 65535 ∧
        t.part.inst.deliveryPending = s.part.inst.deliveryPending - min s.part.inst.deliveryPending 65535)

/-- The volume of a sample event (R35, R39, R40, R44, R36): for each used meter pulses × weight × VCF plus the
residue, split at 2^30 into whole centilitres and the new residue, these at 1,000 into whole decalitres and
the accumulator; the counters, the flow window of at most 16 entries, and the product they were counted
with. A valid density reading gives the corrected density, usable where its analyser is READY after the event, and an
invalid one leaves the last (R43); that its sample event is the model's own count is the model's choice (log entries 7
and 55). -/
def Obligations.SampleEventCountsVolume : Prop :=
  ∀ (s : State) (dt : Nat) (set : SampleSet), s.part.running = true → s.part.inst.transferOpen = true →
    let inUse (i : Fin 8) (reference : Int) : Int :=
      if readingValid i set[i] then set[i].value else (s.part.inst.channels[i].lastValid).getD reference
    let product := s.part.meterProduct
    let factor := vcfOf s.part.cfg product (inUse 2 1500) (inUse 3 0)
    let trunkFine := min s.part.inst.trunkPending 65535 * s.part.cfg.trunkWeight * factor +
      s.part.vol.trunkResidue
    let deliveryFine := min s.part.inst.deliveryPending 65535 * s.part.cfg.deliveryWeight * factor +
      s.part.vol.deliveryResidue
    let trunkUsed : Bool := decide (s.part.cfg.role ≠ .end_)
    let deliveryUsed : Bool := decide (s.part.cfg.role = .terminal ∨ s.part.cfg.role = .end_)
    let trunkCl := if trunkUsed then trunkFine / 2 ^ 30 else 0
    let deliveryCl := if deliveryUsed then deliveryFine / 2 ^ 30 else 0
    let trunk := if trunkUsed then (s.part.vol.trunkAcc + trunkCl) / 1000 else 0
    let delivery := if deliveryUsed then (s.part.vol.deliveryAcc + deliveryCl) / 1000 else 0
    ∃ t, exec (.sampleEvent dt set) s = .next t ∧
      t.part.vol.trunkResidue =
        (if trunkUsed then trunkFine % 2 ^ 30 else s.part.vol.trunkResidue) ∧
      t.part.vol.deliveryResidue =
        (if deliveryUsed then deliveryFine % 2 ^ 30 else s.part.vol.deliveryResidue) ∧
      t.part.vol.trunkAcc =
        (if trunkUsed then (s.part.vol.trunkAcc + trunkCl) % 1000 else s.part.vol.trunkAcc) ∧
      t.part.vol.deliveryAcc =
        (if deliveryUsed then (s.part.vol.deliveryAcc + deliveryCl) % 1000 else s.part.vol.deliveryAcc) ∧
      t.part.vol.trunkCounter = s.part.vol.trunkCounter + BitVec.ofNat 32 trunk ∧
      t.part.vol.deliveredCounter = s.part.vol.deliveredCounter + BitVec.ofNat 32 delivery ∧
      t.part.vol.arrivalCounter = s.part.vol.arrivalCounter + BitVec.ofNat 32 (trunk + delivery) ∧
      (s.part.vol.flowWindow.length < 16 →
        t.part.vol.flowWindow = s.part.vol.flowWindow ++ [trunkCl + deliveryCl]) ∧
      (s.part.vol.flowWindow.length = 16 →
        t.part.vol.flowWindow = s.part.vol.flowWindow.tail ++ [trunkCl + deliveryCl]) ∧
      t.part.vol.lastVcf = some factor ∧ t.part.vol.product = product ∧
      t.part.vol.uncorrected = decide (product = 0) ∧
      (readingValid 0 set[0] = false → t.part.vol.lastDensity = s.part.vol.lastDensity) ∧
      (readingValid 0 set[0] = true →
        t.part.vol.lastDensity =
          some { value := (set[0].value.toNat * 2 ^ 30 + factor / 2) / factor,
                 usable := t.part.inst.densityReady, event := s.part.vol.sampleEvents + 1 })

/-- The correction factor (R37, R38): floor of CTL × CPL / 2^30, within the bounds the coefficients give, and
2^30 at product 0. -/
def Obligations.CorrectionFactorBounds : Prop :=
  ∀ (alpha beta : Nat) (temperature pressure : Int), alpha ≤ 32767 → beta ≤ 4095 →
    let ctlValue : Int := 2 ^ 30 - alpha * (max (-4000) (min 8000 temperature) - 1500)
    let cplValue : Int := 2 ^ 30 + beta * max 0 (min 15000 pressure)
    (vcf alpha beta temperature pressure : Int) = ctlValue * cplValue / 2 ^ 30 ∧
    860756324 ≤ vcf alpha beta temperature pressure ∧
    vcf alpha beta temperature pressure ≤ 1325700000 ∧
    vcf 0 0 temperature pressure = 2 ^ 30

/-- Own flow on a sample event (R51, R63, R64), while no launch waits: each head's D falls by the arrival
increment, a CLEARED head's by the trunk increment and at an END by nothing; the flow form of the clamp
lowers, with CLAMPED, a head above the D of a newer one. Every D and CLAMPED of the train come out so, and
nothing else that places a head changes; DISTANT and ARMED stand as R61 gives; the oldest records that R15
retires leave, and no others, the horizon the newest of them (R16, R17); the batch at the meter before the event has
the delivery increment in its delivered-here (R3); and the D of every entry in the reassembly buffer falls by the
arrival increment (R163), shown where no request of a sync waits in the queue. -/
def Obligations.OwnFlowMovesTrain : Prop :=
  (∀ (r : BatchRecord) (newer : List BatchRecord),
    (r.head = none → flowClamp (r :: newer) = r :: flowClamp newer) ∧
    (∀ h, r.head = some h →
      let low := lowestOf h.d newer
      flowClamp (r :: newer) =
        { r with head := some (if low < h.d then { h with d := low, clamped := true } else h) } ::
          flowClamp newer)) ∧
  (∀ (s : State) (dt : Nat) (set : SampleSet), s.part.samples →
    let n := s.part.countOf set
    let batches := s.part.train.records.map BatchRecord.batch
    let keep := if s.part.cfg.role = .end_ then 0 else s.part.cfg.keepBehind
    let moved := flowClamp (s.part.train.records.map (fun r =>
      { r with head := r.head.map (fun h =>
          { h with d :=
              if h.state ≠ .cleared then holdD (h.d - n.arrival)
              else if s.part.cfg.role = .end_ then h.d else holdD (h.d - n.trunk) }) }))
    ∃ (t : State) (k : Nat), exec (.sampleEvent dt set) s = .next t ∧
      t.part.train.records.map BatchRecord.batch = batches.drop k ∧
      t.part.train.horizon = (if k = 0 then s.part.train.horizon else batches[k - 1]?) ∧
      t.part.retiredOf moved k keep ∧
      (∀ x y rest h, t.part.train.records = x :: y :: rest → x.status = .departed → y.head = some h →
        h.state = .cleared → -(keep : Int) ≤ h.d) ∧
      (s.part.peer.phase ≠ .waitingSent → t.part.peer.buffer =
        s.part.peer.buffer.map (fun e => { e with d := holdD (e.d - n.arrival) })) ∧
      (∀ r ∈ t.part.train.records, ∃ m ∈ moved, m.batch = r.batch ∧ r.product = m.product ∧
        r.nominated = m.nominated ∧
        r.head.map (fun h => (h.d, h.clamped, h.w, h.u, h.restartMark)) =
          m.head.map (fun h => (h.d, h.clamped, h.w, h.u, h.restartMark)) ∧
        r.delivered = m.delivered +
          (if s.part.atMeter.map BatchRecord.batch = some r.batch then BitVec.ofNat 32 n.delivery
           else 0)) ∧
      (∀ r ∈ t.part.train.records, ∀ h, r.head = some h → h.state = .distant ∨ h.state = .armed →
        (h.state = .armed ↔ h.d ≤ ((h.w / 2 + h.u + s.part.cfg.margin : Nat) : Int))))

/-- The analyser's stages on a sample event, while no order waits (R78 to R83, R88, R90, R91, R103): the counts
run from the value on the channel, and with the D that own flow leaves, no stage, the leading edge (EARLY from
DISTANT), the withdrawal, the midpoint or the trailing edge is taken, several as one step; each writes its
record with method ANALYSER and the arrival counter, and the planned route takes the segment after the last.
A completed interface shows where no other head is left to be the window. -/
def Obligations.SampleEventTakesAnalyserStages : Prop :=
  ∀ (s : State) (dt : Nat) (set : SampleSet) (r : BatchRecord) (h : HeadInterface) (f : RefSet) (v : Int),
    let n := s.part.countOf set
    let near : Int := ((h.w / 2 + h.u + s.part.cfg.margin : Nat) : Int)
    let d := holdD (h.d - n.arrival)
    let waiting := h.state = .distant ∨ h.state = .armed
    s.part.samplesWindow set r h → s.part.det.refs = some f →
    (h.channel = some .density ∧ n.corrected.map (fun x => (x : Int)) = some v) ∨
      (h.channel = some .marker ∧ (s.part.eventOf set).marker = some v) →
    (waiting → -near ≤ d) →
    let make := s.part.cfg.makeCount
    let lead := if f.ta < (v - f.a).natAbs then min make (s.part.det.leadCount + 1) else 0
    let mid := if (f.rising = true ∧ (f.thr : Int) + f.p ≤ v) ∨ (f.rising = false ∧ v ≤ (f.thr : Int) - f.p)
      then min make (s.part.det.midCount + 1) else 0
    let trail := if (v - f.b).natAbs ≤ f.tb then min make (s.part.det.trailCount + 1) else 0
    let brk := if h.state = .inMix ∧ ((v - f.a).natAbs : Int) ≤ (f.ta : Int) - f.p
      then min s.part.cfg.breakCount (s.part.det.breakRun + 1) else 0
    let withdraws := h.state = .inMix ∧ s.part.cfg.breakCount ≤ brk
    let leads := waiting ∧ make ≤ lead
    let crosses := (leads ∨ (h.state = .inMix ∧ ¬withdraws)) ∧ make ≤ mid
    let trails := (crosses ∨ h.state = .pastMid) ∧ make ≤ trail
    let taken : StageRecord :=
      { method := .analyser, stamp := s.part.vol.arrivalCounter + BitVec.ofNat 32 n.arrival }
    let led : HeadInterface := if waiting
      then { h with d := d, leadRec := some taken, early := h.early || decide (near < d) }
      else { h with d := d }
    let frozen (p : Option CutPlan) : Option CutPlan := p.map (fun q => { q with frozen := true })
    ∃ t, exec (.sampleEvent dt set) s = .next t ∧
      (¬withdraws → ¬trails → t.part.det.leadCount = lead ∧ t.part.det.midCount = mid ∧
        t.part.det.trailCount = trail ∧ t.part.det.breakRun = brk ∧ t.part.det.refs = some f ∧
        t.part.det.mix = s.part.mixAfter n.delivery) ∧
      (waiting → ¬leads → t.part.showsWindow r.batch
        { h with d := d, state := if d ≤ near then .armed else .distant }) ∧
      (¬waiting → ¬withdraws → ¬crosses → ¬trails → t.part.showsWindow r.batch { h with d := d }) ∧
      (leads → ¬crosses →
        t.part.showsWindow r.batch { led with state := .inMix, plan := frozen h.plan } ∧
        ∀ q, h.plan = some q → t.part.planner.planned = some q.s1.route) ∧
      (withdraws →
        (∃ plan, t.part.showsWindow r.batch
          { h with d := d, state := (if d ≤ near then .armed else .distant), leadRec := none,
                   early := false, plan := plan } ∧
          ∀ q, plan = some q → q.frozen = false ∧ t.part.planner.planned = some q.s0.route) ∧
        t.part.det.leadCount = 0 ∧ t.part.det.midCount = 0 ∧ t.part.det.trailCount = 0 ∧
        t.part.det.breakRun = 0 ∧ t.part.det.mix = []) ∧
      (crosses → ¬trails →
        t.part.showsWindow r.batch
          { led with state := .pastMid, midRec := some taken, midError := some d, plan := frozen h.plan } ∧
        t.part.det.midStamp = some (s.part.vol.trunkCounter + BitVec.ofNat 32 n.trunk) ∧
        ∀ q, h.plan = some q → t.part.planner.planned = some q.s2.route) ∧
      (trails → s.part.soleLive r.batch →
        let past : HeadInterface := if crosses
          then { led with midRec := some taken, midError := some d } else { h with d := d }
        t.part.showsCompleted r
          { past with
            state := .cleared, trailRec := some taken, plan := none,
            degradedMark := some (s.part.degraded { h with d := d }),
            measuredWidth := some (match past.leadRec with
              | some l => if l.method = .analyser then min 1000000 (taken.stamp - l.stamp).toNat else h.w
              | none => h.w) } (s.part.mixAfter n.delivery) ∧
        ∀ q, h.plan = some q → t.part.planner.planned = some q.s3.route)

/-- Readiness on a sample event and at the fourth missed set in a row (R24, R27, R28, R77): ANALYSER_LOST, the channel
chosen anew for a DISTANT or ARMED window, and the fall to VOLUME of one in its mix, with the reference set and the
counts that follow, as `Part.readinessTold` says. With the window empty no alarm is set. That the report comes after the
event's own flow (log entry 11, DEDUCED), and that changes of both analysers at one moment are one report, ANALYSER_LOST
judged by the channel held before both (log entry 64, DESIGN CHOICE), are the model's. -/
def Obligations.ReadinessReachesTheWindow : Prop :=
  (∀ (s : State) (dt : Nat) (set : SampleSet) (r : BatchRecord) (h : HeadInterface),
    s.part.samples → s.part.distanceLaw → s.part.windowLaw → s.part.windowHead = some (r, h) →
    let n := s.part.countOf set
    let after := Instruments.takeSet s.part.cfg set s.part.inst
    let value (c : Channel) : Option Int :=
      match c with
      | .density => n.corrected.map (fun x => (x : Int))
      | .marker => (s.part.eventOf set).marker
      | .volume => none
    ∃ t, exec (.sampleEvent dt set) s = .next t ∧
      t.part.inst.densityReady = after.densityReady ∧ t.part.inst.markerReady = after.markerReady ∧
      s.part.readinessTold r h (holdD (h.d - n.arrival)) value t.part) ∧
  (∀ (s : State) (dt due : Nat) (r : BatchRecord) (h : HeadInterface),
    s.part.running = true → s.part.inst.nextRequest = some due → due ≤ s.part.now + dt →
    s.part.inst.transferOpen = true → s.part.inst.missedRun = 3 → s.part.trainLaw →
    s.part.planner.incoming = none → s.part.windowLaw → s.part.windowHead = some (r, h) →
    ∃ t, exec (.sampleRequestDue dt) s = .next t ∧
      t.part.inst.densityReady = false ∧ t.part.inst.markerReady = false ∧
      s.part.readinessTold r h h.d (fun _ => none) t.part) ∧
  (∀ (s : State) (dt : Nat) (set : SampleSet), s.part.samples → s.part.windowHead = none →
    ∃ t, exec (.sampleEvent dt set) s = .next t ∧
      t.part.port.alarmSet .analyserLost = s.part.port.alarmSet .analyserLost)

/-- The orders of a TERMINAL or an END on a sample event, by the stage that the window of `r` shows to have been taken
(R102, R103, R42), with no record about to retire, no volume limit and no END_ORDER channel. No stage leaves the
orders. After a stage the planned route is the segment after the last one: a FILLING order that does not own it ends
DONE with its DELIVERY record and link, and its owner is FILLING, with the tally 0 where it was QUEUED. After a
withdrawal no order has changed, and the plan is computed anew, unfrozen, the planned route its S0 (R101). After a
trailing edge this is shown where no other head is live and no order starts late. That UNPLANNED_BATCH is set at S0
after a withdrawal, and at S3, where an END's planned route takes an unclaimed clean default, is the model's reading of
R102 (log entry 18, DEDUCED). -/
def Obligations.SampleEventStagesMoveOrders : Prop :=
  ∀ (s : State) (dt : Nat) (set : SampleSet) (r : BatchRecord) (h : HeadInterface) (q : CutPlan),
    s.part.samples → s.part.orderLaw → s.part.windowLaw → s.part.windowHead = some (r, h) →
    h.plan = some q → s.part.cfg.role = .terminal ∨ s.part.cfg.role = .end_ →
    (∀ x ∈ s.part.train.records, x.status ≠ .departed) →
    (∀ o ∈ s.part.planner.orders, o.filling = true → o.limit = 0) →
    (∀ c : ChannelNo, s.part.cfg.guards[c].enable = true → s.part.cfg.guards[c].action ≠ .endOrder) →
    let orders := s.part.planner.orders
    let tally :=
      match s.part.fillingOrder with
      | some o =>
        if s.part.outlet.current = .known (.outlet o.outlet)
        then min (s.part.vol.tally + (s.part.countOf set).delivery) 4294967295 else s.part.vol.tally
      | none => s.part.vol.tally
    let owns (g : Segment) (o : Order) : Bool := decide (g.owner = some o.number)
    let waits (k : HeadState) : Prop := k = .distant ∨ k = .armed
    let kept (p : Part) : Prop := p.planner.orders = orders ∧ p.vol.tally = tally
    let took (g : Segment) (p : Part) : Prop :=
      p.planner.planned = some g.route ∧
      p.planner.orders = (orders.filter (fun o => !o.filling || owns g o)).map (fun o =>
        if owns g o then { o with filling := true } else o) ∧
      p.vol.tally = (if orders.any (fun o => owns g o && !o.filling) then 0 else tally) ∧
      ∀ o ∈ orders, o.filling = true → owns g o = false →
        (∃ rec ∈ p.port.records, rec.stamp = p.vol.arrivalCounter ∧
          rec.body = .delivery o.number o.batch o.outlet tally .done) ∧
        ∀ x ∈ p.train.records, x.batch = o.batch → x.orderLink = none
    ∃ t, exec (.sampleEvent dt set) s = .next t ∧
      (∀ x g, t.part.windowHead = some (x, g) → x.batch = r.batch →
        (waits h.state → waits g.state → kept t.part ∧ t.part.planner.planned = s.part.planner.planned) ∧
        (g.state = h.state → kept t.part ∧ t.part.planner.planned = s.part.planner.planned) ∧
        (waits h.state → g.state = .inMix → took q.s1 t.part) ∧
        (h.state ≠ .pastMid → g.state = .pastMid → took q.s2 t.part) ∧
        (h.state = .inMix → waits g.state →
          kept t.part ∧ g.plan = some (t.part.planFor r.batch) ∧
          t.part.planner.planned = some (t.part.planFor r.batch).s0.route ∧
          (s.part.cfg.role = .end_ → s.part.fillingOrder = none →
            t.part.port.alarmSet .unplannedBatch = true))) ∧
      (∀ x g, findBatch r.batch t.part.train.records = some x → x.head = some g → g.state = .cleared →
        s.part.soleLive r.batch →
        (∀ o ∈ orders, (o.filling = true ∨ owns q.s3 o = true) ∧
          (owns q.s3 o = true → o.batch = r.batch)) →
        (∀ y ∈ s.part.train.records, ∀ o ∈ orders, y.orderLink = some o.number → o.batch = y.batch) →
        took q.s3 t.part ∧
        (s.part.cfg.role = .end_ → q.s3.owner = none → t.part.port.alarmSet .unplannedBatch = true))

/-- The volume method, the overdue mark and the late cut on a sample event that moves the window, while no order
waits (R84, R85, R86, R90, R91). On the VOLUME channel the stages due by D and half of W are taken as one step;
while DEGRADED they are suspended, and below −A the interface is OVERDUE. On an analyser channel an interface
still DISTANT or ARMED below −A is OVERDUE and takes its three stages with method LATE, whatever the readings;
while DEGRADED it waits, shown where the channel has no usable value. INTERFACE_OVERDUE is set where OVERDUE was
clear. Where this one event carries D past a silent peer, out of DEGRADED, and below −A with OVERDUE set earlier,
it is not set again: D was not below −A before the event, which is how the model reads R86's "still" (log
entry 59, DEDUCED). -/
def Obligations.SampleEventTakesVolumeAndLateStages : Prop :=
  ∀ (s : State) (dt : Nat) (set : SampleSet) (r : BatchRecord) (h : HeadInterface),
    let n := s.part.countOf set
    let near : Int := ((h.w / 2 + h.u + s.part.cfg.margin : Nat) : Int)
    let half : Int := ((h.w / 2 : Nat) : Int)
    let d := holdD (h.d - n.arrival)
    let waiting := h.state = .distant ∨ h.state = .armed
    let state := if waiting then (if d ≤ near then HeadState.armed else .distant) else h.state
    let degraded := s.part.degraded { h with d := d }
    let record (m : Method) : StageRecord :=
      { method := m, stamp := s.part.vol.arrivalCounter + BitVec.ofNat 32 n.arrival }
    s.part.samplesWindow set r h → d ≠ h.d →
    ∃ t, exec (.sampleEvent dt set) s = .next t ∧
      (h.channel = some .volume → degraded = false →
        let leads := waiting ∧ d ≤ half
        let crosses := (leads ∨ h.state = .inMix) ∧ d ≤ 0
        let trails := (crosses ∨ h.state = .pastMid) ∧ d ≤ -half
        let led : HeadInterface :=
          if waiting then { h with d := d, leadRec := some (record .volume) } else { h with d := d }
        let past : HeadInterface := if crosses
          then { led with midRec := some (record .volume), midError := some d } else led
        let frozen := h.plan.map (fun q => { q with frozen := true })
        (waiting → ¬leads → t.part.showsWindow r.batch { h with d := d, state := state }) ∧
        (¬waiting → ¬crosses → ¬trails → t.part.showsWindow r.batch { h with d := d }) ∧
        (leads → ¬crosses →
          t.part.showsWindow r.batch { led with state := .inMix, plan := frozen }) ∧
        (crosses → ¬trails →
          t.part.showsWindow r.batch { past with state := .pastMid, plan := frozen } ∧
          t.part.det.midStamp = some (s.part.vol.trunkCounter + BitVec.ofNat 32 n.trunk)) ∧
        (trails → s.part.soleLive r.batch →
          t.part.showsCompleted r
            { past with state := .cleared, trailRec := some (record .volume), plan := none,
                        measuredWidth := some h.w, degradedMark := some false }
            (s.part.mixAfter n.delivery))) ∧
      (h.channel = some .volume → degraded = true →
        t.part.showsWindow r.batch
          { h with d := d, state := state, overdue := h.overdue || decide (d < -near) } ∧
        t.part.port.alarmSet .interfaceOverdue =
          (s.part.port.alarmSet .interfaceOverdue || (!h.overdue && decide (d < -near)))) ∧
      (h.channel = some .density ∨ h.channel = some .marker → waiting → d < -near →
        (degraded = false → s.part.soleLive r.batch →
          t.part.showsCompleted r
            { h with d := d, state := .cleared, overdue := true, leadRec := some (record .late),
                     midRec := some (record .late), midError := some d, trailRec := some (record .late),
                     plan := none, measuredWidth := some h.w, degradedMark := some false }
            (s.part.mixAfter n.delivery)) ∧
        (degraded = true → n.corrected = none → (s.part.eventOf set).marker = none →
          t.part.showsWindow r.batch { h with d := d, state := state, overdue := true }) ∧
        (s.part.soleLive r.batch → t.part.port.alarmSet .interfaceOverdue =
          (s.part.port.alarmSet .interfaceOverdue || !h.overdue)))

/-- Orders and launches on a sample event with the window empty (R42, R99, R104, R105, R108, R109, R110): the tally of
the FILLING order grows by the delivery increment while the confirmed route is its outlet, and at its volume limit the
order ends LIMIT with its DELIVERY record and the planned route at the default, UNPLANNED_BATCH set at an END (R102;
log entry 18, DEDUCED); at the ORIGIN the launched volume grows by the trunk increment, and the cut test that follows
decides the oldest launch, shows LAUNCH_QUEUE_EMPTY, or is held by a made HOLD_LAUNCH channel. R106 and R110 leave
open whether the guard unit comes before the cut planner on one event: that a HOLD_LAUNCH channel that makes on the
event defers no cut decided on it, and that an END_ORDER channel that makes on it finds the order at its limit already
ended LIMIT, is the model's order of the blocks (log entry 11, DEDUCED). -/
def Obligations.SampleEventEndsOrdersAndDecidesCuts : Prop :=
  (∀ (s : State) (dt : Nat) (set : SampleSet), s.part.samples → s.part.orderLaw →
    s.part.cfg.role = .terminal ∨ s.part.cfg.role = .end_ → s.part.det.window = none →
    (∀ r ∈ s.part.train.records, r.status ≠ .departed) →
    ∃ t, exec (.sampleEvent dt set) s = .next t ∧
      (s.part.fillingOrder = none →
        t.part.vol.tally = s.part.vol.tally ∧ t.part.planner.orders = s.part.planner.orders ∧
        t.part.planner.planned = s.part.planner.planned) ∧
      (∀ o, s.part.fillingOrder = some o →
        let tally := if s.part.outlet.current = .known (.outlet o.outlet)
          then min (s.part.vol.tally + (s.part.countOf set).delivery) 4294967295 else s.part.vol.tally
        t.part.vol.tally = tally ∧
        (o.limit = 0 ∨ tally < o.limit →
          (∀ c : ChannelNo, s.part.cfg.guards[c].enable = true → s.part.cfg.guards[c].action ≠ .endOrder) →
          t.part.planner.orders = s.part.planner.orders ∧
          t.part.planner.planned = s.part.planner.planned) ∧
        (o.limit ≠ 0 → o.limit ≤ tally →
          (∃ rec ∈ t.part.port.records, rec.seq = s.part.port.seq ∧
            rec.stamp = t.part.vol.arrivalCounter ∧
            rec.body = .delivery o.number o.batch o.outlet tally .limit) ∧
          t.part.planner.orders =
            s.part.planner.orders.filter (fun x => decide (x.number ≠ o.number)) ∧
          t.part.planner.planned = some (if s.part.cfg.role = .end_ then .outlet 6 else .closed) ∧
          (∀ r ∈ t.part.train.records, r.batch = o.batch → r.orderLink = none) ∧
          (s.part.cfg.role = .end_ → t.part.port.alarmSet .unplannedBatch = true)))) ∧
  (∀ (s : State) (dt : Nat) (set : SampleSet), s.part.running = true → s.part.inst.transferOpen = true →
    s.part.cfg.role = .origin → s.part.det.window = none → s.part.planner.orders = [] →
    s.part.planner.incoming = none →
    let grown := s.part.planner.current.map (fun c =>
      { c with launched := min (c.launched + (s.part.countOf set).trunk) 4294967295 })
    let due : Prop := ∀ c, grown = some c → ∃ v, c.nominated = some v ∧ v ≤ c.launched
    ∃ t, exec (.sampleEvent dt set) s = .next t ∧
      (¬due → t.part.planner = { s.part.planner with current := grown }) ∧
      (due → s.part.planner.launches = [] →
        t.part.planner =
          { s.part.planner with current := grown, emptyShown := s.part.planner.emptyShown || grown.isSome } ∧
        t.part.port.alarmSet .launchQueueEmpty =
          (s.part.port.alarmSet .launchQueueEmpty || (grown.isSome && !s.part.planner.emptyShown))) ∧
      (∀ e rest, due → s.part.planner.launches = e :: rest →
        (s.part.holdLaunchMade = false →
          t.part.planner.launches = rest ∧ t.part.planner.planned = some (.outlet e.outlet) ∧
          ((t.part.planner.incoming = some e ∧ t.part.planner.current = grown) ∨
            (t.part.planner.incoming = none ∧ t.part.planner.current =
              some { batch := e.batch, product := e.product, nominated := some e.nominated,
                     source := some e.outlet, launched := 0 }))) ∧
        ((∃ c : ChannelNo, s.part.cfg.guards[c].action = .holdLaunch ∧
            s.part.guard.channels[c].made = true ∧ s.part.guard.channels[c].latched = true) →
          t.part.planner = { s.part.planner with current := grown })))

/-- The field inputs: a meter pulse adds one to its pending count in RUNNING, up to 4,294,967,295, and is not counted
in any other state (R29); a limit level is taken in every part state (R30), and changes nothing else but in RUNNING,
in OPERATE, of an outlet that is fitted. There an open level that the change in flight does not await (R118) is
uncommanded where it becomes active of an IDLE outlet that is not the route nor STUCK_OPEN, or is lost by the IDLE
outlet of the route: the outlet takes UNCOMMANDED with VALVE_FAULT, the route unchanged (R122), and any other changes
nothing, STUCK_OPEN included. A closed level that becomes active clears STUCK_OPEN of its outlet, whatever the change
in flight (R121); one that goes inactive changes nothing. That the level of an outlet that is not fitted, which R30
has read inactive, is stored all along too (log entry 62, DESIGN CHOICE), and that R122 is followed for an IDLE outlet
of the change in flight (log entry 48, DEDUCED), are the model's. -/
def Obligations.FieldInputsAreTaken : Prop :=
  (∀ (s : State) (dt : Nat) (m : Meter),
    (s.part.running = false → exec (.meterPulse dt m) s = .next { s with part := s.part.elapse dt }) ∧
    (s.part.running = true → ∃ t, exec (.meterPulse dt m) s = .next t ∧
      t.part.inst =
        (match m with
         | .trunk =>
           { s.part.inst with trunkPending := min (s.part.inst.trunkPending + 1) 4294967295 }
         | .delivery =>
           { s.part.inst with deliveryPending := min (s.part.inst.deliveryPending + 1) 4294967295 }) ∧
      (∀ b : Block, b ≠ .instruments → b.same s.part t.part))) ∧
  (∀ (s : State) (dt : Nat) (o : Outlet) (input : LimitInput) (active : Bool),
    ∃ t, exec (.limitLevelTaken dt o input active) s = .next t ∧
      (t.part.inst.limits[o]).get input = active ∧
      (∀ e : Outlet, e ≠ o → t.part.inst.limits[e] = s.part.inst.limits[e]) ∧
      let k := s.part.outlet
      let was := k.outlets[o]
      let quiet := ∀ b : Block, b ≠ .instruments → b.same s.part t.part
      let faulted := t.part.outlet =
          { k with outlets := k.outlets.set o { was with lastFault := .uncommanded } } ∧
        t.part.port.alarmSet .valveFault = true ∧
        ∀ b : Block, b ≠ .instruments → b ≠ .routes → b ≠ .alarms → b.same s.part t.part
      let awaited := ∃ c, k.change = some c ∧ c.phase = .opening ∧ c.target = .outlet o
      let isRoute := k.current = .known (.outlet o)
      (s.part.running = false ∨ k.mode ≠ some .operate ∨ s.part.levelsRead o = false → quiet) ∧
      (s.part.running = true → k.mode = some .operate → s.part.levelsRead o = true →
        (s.part.inst.limits[o]).get input ≠ active →
        (input = .open_ → active = true → ¬awaited →
          (was.command = .idle ∧ ¬isRoute ∧ was.stuckOpen = false → faulted) ∧
          (¬(was.command = .idle ∧ ¬isRoute ∧ was.stuckOpen = false) → quiet)) ∧
        (input = .open_ → active = false →
          (was.command = .idle ∧ isRoute → faulted) ∧ (¬(was.command = .idle ∧ isRoute) → quiet)) ∧
        (input = .closed → active = true →
          t.part.outlet.outlets[o].stuckOpen = false ∧
          (k.change = none →
            t.part.outlet = { k with outlets := k.outlets.set o { was with stuckOpen := false } } ∧
            ∀ b : Block, b ≠ .instruments → b ≠ .routes → b.same s.part t.part)) ∧
        (input = .closed → active = false → quiet)))

/-- A route change (R117, R118): handing a route to another outlet commands it open with a fresh travel expiry, and
handing CLOSED commands the outlet left closed; the open level of the target hands the command to the outlet left, or
completes the change where the route was CLOSED; and the last closed level awaited completes it, and STUCK_OPEN of an
outlet that it names as its target goes with it (R121). A level that is active at the command confirms it at once
(R115). While a change is in flight a new target is pending, and the change target clears what is pending (R119). The
lowest-numbered channel of the override gives the target, a planned route handed meanwhile is stored, and the last
channel to leave gives the target back (R116). A conflict hold that has been reported ends as FORCE STAGE is served,
and its clearing change opens the target and then closes every other outlet that is not closed (R124); that *reported*
is clear once the hold has ended is the model's reading (log entry 23, DEDUCED). In OBSERVE nothing is commanded, the
target is recorded as the wanted route, and each sample event takes the route that the open outlets show (R125). -/
def Obligations.RouteChangeMakesBeforeBreak : Prop :=
  (∀ (p : Part) (a : Outlet), p.outlet.mode = some .operate → p.outlet.conflictHold = false →
    p.outlet.change = none → p.outlet.override = [] → p.outlet.current = .known (.outlet a) →
    p.outlet.target ≠ some .closed → p.closedLevel a = false →
    let k := (p.handRoute .closed).outlet
    k.target = some .closed ∧ k.current = .known (.outlet a) ∧
      k.outlets = p.outlet.outlets.set a { p.outlet.outlets[a] with command := .closing } ∧
      k.change = some { source := .known (.outlet a), target := .closed, phase := .closing,
                        expiry := p.now + p.cfg.travelTimeout * bitsPerSecond }) ∧
  (∀ (s : State) (dt expiry : Nat) (b : Outlet), s.part.running = true →
    s.part.outlet.mode = some .operate → s.part.levelsRead b = true →
    s.part.inst.limits[b].open_ = false → s.part.outlet.pending = none →
    s.part.outlet.change = some { source := .known .closed, target := .outlet b, phase := .opening,
                                  expiry := expiry } →
    ∃ t, exec (.limitLevelTaken dt b .open_ true) s = .next t ∧
      t.part.outlet.change = none ∧ t.part.outlet.current = .known (.outlet b) ∧
      t.part.outlet.outlets[b].command = .idle ∧ t.part.outlet.outlets[b].stuckOpen = false) ∧
  (∀ (p : Part) (a b : Outlet), a ≠ b → p.outlet.mode = some .operate → p.outlet.conflictHold = false →
    p.outlet.change = none → p.outlet.override = [] → p.outlet.current = .known (.outlet a) →
    p.outlet.target ≠ some (.outlet b) → p.openLevel b = false → p.planner.incoming = none →
    let k := (p.handRoute (.outlet b)).outlet
    k.target = some (.outlet b) ∧ k.current = .known (.outlet a) ∧
      k.outlets = p.outlet.outlets.set b { p.outlet.outlets[b] with command := .opening } ∧
      k.change = some { source := .known (.outlet a), target := .outlet b, phase := .opening,
                        expiry := p.now + p.cfg.travelTimeout * bitsPerSecond }) ∧
  (∀ (s : State) (dt expiry : Nat) (a b : Outlet), a ≠ b → s.part.running = true →
    s.part.outlet.mode = some .operate → s.part.levelsRead b = true →
    s.part.inst.limits[b].open_ = false → s.part.closedLevel a = false →
    s.part.outlet.change = some { source := .known (.outlet a), target := .outlet b, phase := .opening,
                                  expiry := expiry } →
    ∃ t, exec (.limitLevelTaken dt b .open_ true) s = .next t ∧
      t.part.outlet.current = s.part.outlet.current ∧
      t.part.outlet.outlets[b].command = .idle ∧ t.part.outlet.outlets[a].command = .closing ∧
      t.part.outlet.change =
        some { source := .known (.outlet a), target := .outlet b, phase := .closing,
               expiry := s.part.now + dt + s.part.cfg.travelTimeout * bitsPerSecond }) ∧
  (∀ (s : State) (dt : Nat) (a : Outlet) (c : Change), s.part.running = true →
    s.part.outlet.mode = some .operate → s.part.levelsRead a = true →
    s.part.inst.limits[a].closed = false → s.part.outlet.outlets[a].command = .closing →
    s.part.outlet.change = some c → c.phase ≠ .opening →
    ∃ t, exec (.limitLevelTaken dt a .closed true) s = .next t ∧
      ((∃ o : Outlet, o ≠ a ∧ s.part.outlet.outlets[o].command = .closing) →
        t.part.outlet.change = s.part.outlet.change ∧ t.part.outlet.current = s.part.outlet.current ∧
        t.part.outlet.outlets[a].command = .idle) ∧
      ((∀ o : Outlet, o ≠ a → s.part.outlet.outlets[o].command ≠ .closing) →
        s.part.outlet.pending = none →
        t.part.outlet.change = none ∧ t.part.outlet.current = .known c.target ∧
        t.part.outlet.outlets[a].command = .idle ∧ t.part.outlet.outlets[a].stuckOpen = false ∧
        ∀ b, c.target = .outlet b → t.part.outlet.outlets[b].stuckOpen = false)) ∧
  (∀ (p : Part) (a b : Outlet), a ≠ b → p.outlet.mode = some .operate → p.outlet.conflictHold = false →
    p.outlet.change = none → p.outlet.override = [] → p.outlet.current = .known (.outlet a) →
    p.planner.incoming = none →
    (p.outlet.target ≠ some (.outlet b) → p.openLevel b = true →
      let k := (p.handRoute (.outlet b)).outlet
      k.outlets[b].command = .idle ∧
      (p.closedLevel a = false →
        k.current = .known (.outlet a) ∧ k.outlets[a].command = .closing ∧
        k.change = some { source := .known (.outlet a), target := .outlet b, phase := .closing,
                          expiry := p.now + p.cfg.travelTimeout * bitsPerSecond }) ∧
      (p.closedLevel a = true → k.current = .known (.outlet b) ∧ k.change = none ∧
        k.outlets[b].stuckOpen = false)) ∧
    (p.outlet.target ≠ some .closed → p.closedLevel a = true →
      let k := (p.handRoute .closed).outlet
      k.current = .known .closed ∧ k.change = none ∧ k.outlets = p.outlet.outlets)) ∧
  (∀ (p : Part) (c : Change) (r : Route), p.outlet.mode = some .operate → p.outlet.conflictHold = false →
    p.outlet.change = some c → p.outlet.override = [] → p.planner.incoming = none →
    let k := (p.handRoute r).outlet
    k.target = some r ∧ k.change = some c ∧ k.outlets = p.outlet.outlets ∧ k.current = p.outlet.current ∧
      (r = c.target → k.pending = none) ∧
      (r ≠ c.target → p.outlet.target ≠ some r → k.pending = some r)) ∧
  (∀ (p : Part) (c : ChannelNo) (r : Route),
    let begins (q : Route) (k : OutletController) : Prop := ∀ a : Outlet,
      p.outlet.mode = some .operate → p.outlet.conflictHold = false → p.outlet.change = none →
      p.outlet.current = .known (.outlet a) → p.outlet.target ≠ some q → p.planner.incoming = none →
      (q = .closed → p.closedLevel a = false →
        k.outlets[a].command = .closing ∧
        k.change = some { source := .known (.outlet a), target := .closed, phase := .closing,
                          expiry := p.now + p.cfg.travelTimeout * bitsPerSecond }) ∧
      (∀ b, q = .outlet b → b ≠ a → p.openLevel b = false →
        k.outlets[b].command = .opening ∧
        k.change = some { source := .known (.outlet a), target := .outlet b, phase := .opening,
                          expiry := p.now + p.cfg.travelTimeout * bitsPerSecond })
    ((∀ x ∈ p.outlet.override, c < x.1) →
      let k := (p.overrideMade c r).outlet
      k.override = (c, r) :: p.outlet.override ∧ k.target = some r ∧ begins r k) ∧
    (∀ x rest, p.outlet.override = x :: rest →
      (x.1 < c → (p.overrideMade c r).outlet.target = some x.2) ∧
      (p.handRoute r).outlet.target = some x.2 ∧ (p.handRoute r).outlet.planned = some r ∧
      (x.1 = c → (∀ y ∈ rest, y.1 ≠ c) →
        let k := (p.overrideGone c).outlet
        k.override = rest ∧
        (rest = [] → k.target = p.outlet.planned) ∧
        (∀ y more, rest = y :: more → k.target = some y.2 ∧ begins y.2 k) ∧
        (∀ q, rest = [] → p.outlet.planned = some q → begins q k)))) ∧
  (∀ p : Part, p.outlet.conflictHold = true →
    let k := p.holdEvent.outlet
    let clears (target : Route) (o : Outlet) : Bool :=
      decide (Route.outlet o ≠ target) && p.cfg.fitted o && !p.closedLevel o
    let expiry := p.now + p.cfg.travelTimeout * bitsPerSecond
    (p.outlet.reported = false → p.holdEvent = p) ∧
    (p.outlet.reported = true → p.outlet.current = .unknown → p.planner.incoming = none →
      (∀ b, p.outlet.target = some (.outlet b) → p.openLevel b = false →
        k.conflictHold = false ∧ k.reported = false ∧
        k.outlets = p.outlet.outlets.set b { p.outlet.outlets[b] with command := .opening } ∧
        k.change = some { source := .unknown, target := .outlet b, phase := .opening, expiry := expiry }) ∧
      (p.outlet.target = some .closed →
        k.conflictHold = false ∧ k.reported = false ∧
        (∀ o : Outlet, k.outlets[o] =
          if clears .closed o then { p.outlet.outlets[o] with command := .closing }
          else p.outlet.outlets[o]) ∧
        ((∃ o, clears .closed o = true) → k.current = .unknown ∧
          k.change = some { source := .unknown, target := .closed, phase := .clearing, expiry := expiry }) ∧
        ((∀ o, clears .closed o = false) → k.current = .known .closed ∧ k.change = none)))) ∧
  (∀ (s : State) (dt expiry : Nat) (b : Outlet), s.part.running = true →
    s.part.outlet.mode = some .operate → s.part.levelsRead b = true →
    s.part.inst.limits[b].open_ = false → s.part.outlet.pending = none →
    s.part.outlet.change = some { source := .unknown, target := .outlet b, phase := .opening,
                                  expiry := expiry } →
    let clears (o : Outlet) : Bool := decide (o ≠ b) && s.part.cfg.fitted o && !s.part.closedLevel o
    ∃ t, exec (.limitLevelTaken dt b .open_ true) s = .next t ∧
      t.part.outlet.outlets[b].command = .idle ∧
      (∀ o : Outlet, clears o = true → t.part.outlet.outlets[o].command = .closing) ∧
      (∀ o : Outlet, o ≠ b → clears o = false → t.part.outlet.outlets[o] = s.part.outlet.outlets[o]) ∧
      ((∃ o, clears o = true) → t.part.outlet.current = s.part.outlet.current ∧
        t.part.outlet.change =
          some { source := .unknown, target := .outlet b, phase := .clearing,
                 expiry := s.part.now + dt + s.part.cfg.travelTimeout * bitsPerSecond }) ∧
      ((∀ o, clears o = false) →
        t.part.outlet.current = .known (.outlet b) ∧ t.part.outlet.change = none ∧
        t.part.outlet.outlets[b].stuckOpen = false)) ∧
  (∀ (s : State) (dt : Nat) (batch : BatchNo) (stage : Octet) (g : Stage) (r : BatchRecord) (h : HeadInterface),
    s.part.running = true → s.part.cfg.role ≠ .origin → s.part.planner.incoming = none →
    s.part.windowHead = some (r, h) → r.batch = batch → stageOf? stage.toNat = some g → h.next = some g →
    s.part.outlet.conflictHold = true →
    ∃ t, exec (.forceStage dt batch stage) s = .next t ∧
      t.part.outlet.conflictHold = !s.part.outlet.reported) ∧
  (∀ (p : Part) (r : Route), p.outlet.mode = some .observe → p.outlet.override = [] →
    (p.handRoute r).outlet =
      { p.outlet with planned := some r, target := some r, wanted := some r }) ∧
  (∀ (s : State) (dt : Nat), s.part.running = true → s.part.outlet.mode = some .observe →
    s.part.outletLaw →
    (∀ (o : Outlet) (input : LimitInput) (active : Bool),
      ∃ t, exec (.limitLevelTaken dt o input active) s = .next t ∧ t.part.outlet = s.part.outlet) ∧
    (∀ set : SampleSet, s.part.inst.transferOpen = true →
      ∃ t, exec (.sampleEvent dt set) s = .next t ∧
        t.part.outlet.change = none ∧ t.part.outlet.outlets = s.part.outlet.outlets ∧
        ((∀ o : Outlet, s.part.openLevel o = false) → t.part.outlet.current = .known .closed) ∧
        (∀ o : Outlet, (∀ x : Outlet, s.part.openLevel x = true ↔ x = o) →
          t.part.outlet.current = .known (.outlet o)) ∧
        (∀ x y : Outlet, x ≠ y → s.part.openLevel x = true → s.part.openLevel y = true →
          t.part.outlet.current = .unknown)))

/-- The travel timer (R120, R121, R124): an open that fails leaves the route at the source with OPEN_TIMEOUT; a
close that fails takes the route to the target and marks the outlet STUCK_OPEN with CLOSE_TIMEOUT. Both set
VALVE_FAULT; an outlet that is pending is then commanded open from that route (R119). With no change in flight,
and before the expiry of the command in force, which a confirmation may have set anew, it has no effect (R120; log
entry 9). -/
def Obligations.TravelTimeoutEndsChange : Prop :=
  ∀ (s : State) (dt expiry : Nat), s.part.running = true →
    (s.part.outlet.change = none →
      exec (.travelTimeout dt) s = .next { s with part := s.part.elapse dt }) ∧
    (∀ c, s.part.outlet.change = some c → s.part.now + dt < c.expiry →
      exec (.travelTimeout dt) s = .next { s with part := s.part.elapse dt }) ∧
    (∀ (source : CurrentRoute) (b : Outlet), expiry ≤ s.part.now + dt → s.part.outlet.pending = none →
      s.part.outlet.change =
        some { source := source, target := .outlet b, phase := .opening, expiry := expiry } →
      ∃ t, exec (.travelTimeout dt) s = .next t ∧
        t.part.outlet.change = none ∧ t.part.outlet.current = source ∧
        t.part.outlet.outlets[b].command = .idle ∧ t.part.outlet.outlets[b].lastFault = .openTimeout ∧
        t.part.port.alarmSet .valveFault = true) ∧
    (∀ (source : CurrentRoute) (target : Route) (phase : ChangePhase) (a : Outlet),
      expiry ≤ s.part.now + dt → phase ≠ .opening → s.part.outlet.pending = none →
      s.part.outlet.change =
        some { source := source, target := target, phase := phase, expiry := expiry } →
      s.part.outlet.outlets[a].command = .closing →
      ∃ t, exec (.travelTimeout dt) s = .next t ∧
        t.part.outlet.change = none ∧ t.part.outlet.current = .known target ∧
        t.part.outlet.outlets[a] =
          { command := .idle, stuckOpen := true, lastFault := .closeTimeout } ∧
        t.part.port.alarmSet .valveFault = true) ∧
    (∀ (source : CurrentRoute) (b p : Outlet), expiry ≤ s.part.now + dt →
      s.part.outlet.pending = some (.outlet p) →
      s.part.planner.incoming = none → source ≠ .known (.outlet p) → s.part.openLevel p = false →
      s.part.outlet.change =
        some { source := source, target := .outlet b, phase := .opening, expiry := expiry } →
      ∃ t, exec (.travelTimeout dt) s = .next t ∧
        t.part.outlet.current = source ∧ t.part.outlet.pending = none ∧
        t.part.outlet.outlets[p].command = .opening ∧ t.part.outlet.outlets[b].lastFault = .openTimeout ∧
        t.part.outlet.change =
          some
            { source := source, target := .outlet p, phase := .opening,
              expiry := s.part.now + dt + s.part.cfg.travelTimeout * bitsPerSecond })

/-! ## The line bus (chapter 9) -/

/-- A frame heard (R149, R150): the first check that applies counts or drops it; a frame that passes them all
joins the inbound queue as its newest notice, or is dropped with INBOUND_OVERFLOW when 24 wait. A count that comes
to the high watermark sends a HOLD of the hold time, once, and one that falls to the low watermark a HOLD of 0
(R151), shown with the transmit buffer taken. A frame that comes while this station transmits is not heard. That a
source of 0 or above 48 is not filtered but malformed (log entry 14, DEDUCED), that a jam is no transmission (log
entry 52), and that the carrier of a frame ends as it is heard (log entry 58, DEDUCED), are the model's. -/
def Obligations.LineFrameChecked : Prop :=
  (∀ (s : State) (dt : Nat) (frame : List Octet), s.part.running = true →
    let c := s.part.cfg
    let stats := s.part.bus.stats
    let carrier := some (max (s.part.now + dt) (s.part.bus.carrierEnd.getD 0))
    let held := s.part.bus.outbound
    let hold : Queued := { notice := .hold c.holdTime, joined := s.part.now + dt }
    let count := s.part.bus.inbound.length + 1
    let source := field frame 1 1
    let dest := field frame 2 1
    let bad := frame.length < 10 ∨ checkGood frame = false
    let received := min (stats.framesReceived + 1) 65535
    let filtered := (dest ≠ 0 ∧ dest ≠ c.station) ∨ (1 ≤ source ∧ source ≤ 48 ∧ c.listens source = false)
    (s.part.transmitting = true →
      exec (.lineFrameReceived dt frame) s = .next { s with part := s.part.elapse dt }) ∧
    (s.part.transmitting = false →
      ∃ t, exec (.lineFrameReceived dt frame) s = .next t ∧ t.part.bus.carrierEnd = carrier ∧
        (bad → t.part.bus =
          { s.part.bus with
            carrierEnd := carrier
            stats := { stats with badCheck := min (stats.badCheck + 1) 65535 } }) ∧
        (¬bad → t.part.bus.stats.framesReceived = received ∧
          t.part.bus.stats.badCheck = stats.badCheck) ∧
        (¬bad → source = c.station →
          t.part.bus.inbound = s.part.bus.inbound ∧ t.part.port.alarmSet .duplicateStation = true) ∧
        (¬bad → source ≠ c.station → filtered → t.part.bus =
          { s.part.bus with
            carrierEnd := carrier
            stats :=
              { stats with framesReceived := received, filtered := min (stats.filtered + 1) 65535 } }) ∧
        (¬bad → source ≠ c.station → ¬filtered → readNotice frame = none →
          t.part.bus =
            { s.part.bus with
              carrierEnd := carrier
              stats :=
                { stats with
                  framesReceived := received, malformed := min (stats.malformed + 1) 65535 } }) ∧
        (∀ n, ¬bad → source ≠ c.station → ¬filtered → readNotice frame = some n →
          (24 ≤ s.part.bus.inbound.length →
            t.part.bus.inbound = s.part.bus.inbound ∧ t.part.port.alarmSet .inboundOverflow = true ∧
            t.part.bus.stats.inboundDropped = min (stats.inboundDropped + 1) 65535) ∧
          (s.part.bus.inbound.length < 24 →
            t.part.bus.inbound = s.part.bus.inbound ++ [n] ∧
            (s.part.bus.buffer.isSome = true → held.length < 32 →
              (s.part.bus.holdSent = false → c.highWater ≤ count →
                t.part.bus.holdSent = true ∧ t.part.bus.outbound = held ++ [hold]) ∧
              (s.part.bus.holdSent = false → count < c.highWater →
                t.part.bus.holdSent = false ∧ t.part.bus.outbound = held) ∧
              (s.part.bus.holdSent = true → c.lowWater < count →
                t.part.bus.holdSent = true ∧ t.part.bus.outbound = held)))))) ∧
  (∀ (s : State) (dt slots : Nat) (n : Received) (rest : List Received) (e : PeerEntry),
    s.part.running = true → s.part.bus.inbound = n :: rest → s.part.knows n e → n.body = .hold slots →
    s.part.bus.buffer.isSome = true → s.part.bus.outbound.length < 32 →
    ∃ t, exec (.holdNoticeTaken dt) s = .next t ∧ t.part.bus.inbound = rest ∧
      (s.part.bus.holdSent = true → rest.length ≤ s.part.cfg.lowWater →
        t.part.bus.holdSent = false ∧
        t.part.bus.outbound = s.part.bus.outbound ++ [{ notice := .hold 0, joined := s.part.now + dt }]) ∧
      (s.part.bus.holdSent = true → s.part.cfg.lowWater < rest.length →
        t.part.bus.holdSent = true ∧ t.part.bus.outbound = s.part.bus.outbound) ∧
      (s.part.bus.holdSent = false → rest.length < s.part.cfg.highWater →
        t.part.bus.holdSent = false ∧ t.part.bus.outbound = s.part.bus.outbound))

/-- A notice handed to a full outbound queue (R142): class 1 takes the place of the newest class 3, else of the
newest class 2, and class 2 that of the newest class 3, counted as evicted and setting no alarm flag; otherwise the new
notice is dropped with OUTBOUND_OVERFLOW. An evicted or dropped TRAIN REQUEST ends the sync that waits for it, with
SYNC_FAILED from there (R161), and any other leaves the peers and every other flag as they are. With the buffer taken
the new notice joins the queue; with it empty, as a peer hold leaves a queue without class 1, a class 1 notice goes on
into the buffer, and a class 2 notice stays in the queue (R144). -/
def Obligations.FullOutboundQueue : Prop :=
  ∀ (s : Part) (n : Notice), 32 ≤ s.bus.outbound.length →
    s.bus.buffer.isSome = true ∨
      (s.bus.buffer = none ∧ s.bus.peerHold.isSome = true ∧ ∀ q ∈ s.bus.outbound, q.ofClass 1 = false) →
    let chosen : Bool := s.bus.buffer.isNone && decide (n.cls = 1)
    let evicted := min (s.bus.stats.evicted + 1) 65535
    let joined : Queued := { notice := n, joined := s.now }
    let waited (lost : Notice) : Bool := lost.isRequest && decide (s.peer.phase = .waitingSent)
    let told (lost : Notice) : Prop :=
      if waited lost then
        (s.enqueue n).peer.phase = .idle ∧ (s.enqueue n).peer.lastOutcome = .failed .notSent
      else (s.enqueue n).peer = s.peer
    let gone (victim : Nat) : Prop := ∀ older x newer, s.bus.outbound = older ++ x :: newer →
      x.ofClass victim = true → (∀ y ∈ newer, y.ofClass victim = false) →
      (s.enqueue n).bus.outbound = older ++ newer ++ (if chosen then [] else [joined]) ∧
      (s.enqueue n).bus.stats.evicted = evicted ∧
      (s.enqueue n).bus.buffer =
        (if chosen then some { notice := n, collisions := 0, phase := .waiting s.now } else s.bus.buffer) ∧
      (∀ a : Alarm, (s.enqueue n).port.alarmSet a =
        (s.port.alarmSet a || (waited x.notice && decide (a = .syncFailed)))) ∧
      told x.notice
    let dropped : Prop :=
      (s.enqueue n).bus = s.bus ∧
      (∀ a : Alarm, (s.enqueue n).port.alarmSet a =
        (s.port.alarmSet a || decide (a = .outboundOverflow) ||
          (waited n && decide (a = .syncFailed)))) ∧
      told n
    (n.cls < 3 → gone 3) ∧
    (n.cls = 1 → (∀ q ∈ s.bus.outbound, q.ofClass 3 = false) → gone 2) ∧
    (n.cls = 1 → (∀ q ∈ s.bus.outbound, q.ofClass 3 = false ∧ q.ofClass 2 = false) → dropped) ∧
    (1 < n.cls → (∀ q ∈ s.bus.outbound, q.ofClass 3 = false) → dropped)

/-- The frame begins on the medium (R146, R145), 32 bit times or more after the last carrier known: the notice's
fields are filled from the part as it stands, and a wait of more than 768 bit times counts as a deferral. Without a
notice that waits nothing happens, nor within the gap, where the start comes too early (log entry 58, DEDUCED). -/
def Obligations.TransmitStartFillsFrame : Prop :=
  ∀ (s : State) (dt : Nat), s.part.running = true →
    (∀ b since, s.part.bus.buffer = some b → b.phase = .waiting since →
      (∀ m, s.part.bus.carrierEnd = some m → m + 32 ≤ s.part.now + dt) →
      ∃ t, exec (.frameTransmitStart dt) s = .next t ∧
        t.part.bus.buffer =
          some
            { b with
              phase := .sending
                (lineFrame b.notice.kind s.part.cfg.station b.notice.dest s.part.cfg.chainage
                  (s.part.payload b.notice)) } ∧
        t.part.bus.stats =
          (if 768 < s.part.now + dt - since then
            { s.part.bus.stats with deferrals := min (s.part.bus.stats.deferrals + 1) 65535 }
          else s.part.bus.stats) ∧
        t.part.bus.outbound = s.part.bus.outbound ∧ (∀ k : Block, k ≠ .bus → k.same s.part t.part)) ∧
    (∀ m, s.part.bus.carrierEnd = some m → s.part.now + dt < m + 32 →
      exec (.frameTransmitStart dt) s = .next { s with part := s.part.elapse dt }) ∧
    (s.part.bus.buffer = none →
      exec (.frameTransmitStart dt) s = .next { s with part := s.part.elapse dt })

/-- The frame completes (R148, R144): counted as sent, and the buffer takes the oldest notice of the highest
class that may go, class 1 always, classes 2 and 3 without a peer hold; a TRAIN REQUEST that has left
starts the 10 s timer of its sync (R161). The station's own carrier ends here, so that a start within 32 bit times has
no effect (R145; log entry 58, DEDUCED). -/
def Obligations.FrameSentEmptiesBuffer : Prop :=
  ∀ (s : State) (dt : Nat) (b : TxBuffer) (frame : List Octet), s.part.running = true →
    s.part.bus.buffer = some b → b.phase = .sending frame →
    let q := s.part.bus.outbound
    let next := (q.find? (Queued.ofClass 1)).or
      (if s.part.bus.peerHold.isSome then none
       else (q.find? (Queued.ofClass 2)).or (q.find? (Queued.ofClass 3)))
    ∃ t, exec (.frameSent dt) s = .next t ∧
      t.part.bus.stats.framesSent = min (s.part.bus.stats.framesSent + 1) 65535 ∧
      t.part.bus.carrierEnd = some (max (s.part.now + dt) (s.part.bus.carrierEnd.getD 0)) ∧
      (∀ early, early < 32 →
        exec (.frameTransmitStart early) t = .next { t with part := t.part.elapse early }) ∧
      t.part.bus.buffer = next.map (fun n =>
        { notice := n.notice, collisions := 0, phase := .waiting (s.part.now + dt) }) ∧
      (next = none → t.part.bus.outbound = q) ∧
      (∀ n older newer, next = some n → q = older ++ n :: newer →
        (∀ x ∈ older, x.notice.cls ≠ n.notice.cls) → t.part.bus.outbound = older ++ newer) ∧
      (b.notice.isRequest = true → s.part.peer.phase = .waitingSent →
        t.part.peer.phase = .awaiting (s.part.now + dt + 10 * bitsPerSecond)) ∧
      (b.notice.isRequest = false → t.part.peer = s.part.peer)

/-- A collision (R147, R148), with g the generator's value and r = floor(g' / 4,096) of the next: one that is
neither late nor the twelfth starts a backoff of 4 × min(n, 8) + r slots after the jam; otherwise a class 1
notice starts afresh with a backoff of r slots, and any other is discarded, a TRAIN REQUEST ending its sync
with NOT_SENT and SYNC_FAILED (R161). The jam of 32 bit times is this station's carrier, and the gap of R145 follows
it. That the class 1 backoff starts at the end of the jam (log entry 32), that the discarded notice's buffer is free at
the collision (log entry 51), and that a start within the gap has no effect (log entry 58) are the model's. -/
def Obligations.CollisionBacksOff : Prop :=
  ∀ (s : State) (dt frameBits : Nat) (b : TxBuffer) (frame : List Octet) (g : BitVec 16),
    s.part.running = true → s.part.bus.buffer = some b → b.phase = .sending frame →
    s.part.bus.generator = some g →
    let g' : BitVec 16 := g * 25173 + 13849
    let r := g'.toNat / 4096
    let n := b.collisions + 1
    let late := 128 < frameBits
    let restart (collisions slots : Nat) : TxBuffer :=
      { notice := b.notice, collisions := collisions,
        phase := .backoff (s.part.now + dt + 32 + slots * 128) }
    ∃ t, exec (.collision dt frameBits) s = .next t ∧
      t.part.bus.stats.collisions = min (s.part.bus.stats.collisions + 1) 65535 ∧
      t.part.bus.carrierEnd = some (max (s.part.now + dt + 32) (s.part.bus.carrierEnd.getD 0)) ∧
      t.part.bus.stats.late =
        (if late then min (s.part.bus.stats.late + 1) 65535 else s.part.bus.stats.late) ∧
      t.part.bus.stats.excessive =
        (if ¬late ∧ 12 ≤ n then min (s.part.bus.stats.excessive + 1) 65535
         else s.part.bus.stats.excessive) ∧
      (¬late → n < 12 →
        t.part.bus.buffer = some (restart n (4 * min n 8 + r)) ∧ t.part.bus.generator = some g' ∧
        t.part.bus.outbound = s.part.bus.outbound) ∧
      (late ∨ 12 ≤ n → b.notice.cls = 1 →
        t.part.bus.buffer = some (restart 0 r) ∧ t.part.bus.generator = some g' ∧
        t.part.bus.outbound = s.part.bus.outbound) ∧
      (late ∨ 12 ≤ n → b.notice.cls ≠ 1 →
        t.part.bus.generator = some g ∧
        (s.part.bus.outbound = [] → t.part.bus.buffer = none) ∧
        (b.notice.isRequest = true → s.part.peer.phase = .waitingSent →
          t.part.peer.phase = .idle ∧ t.part.peer.lastOutcome = .failed .notSent ∧
          t.part.port.alarmSet .syncFailed = true))

/-- A backoff that ends leaves the notice waiting for the gap again (R147); a peer hold that ends becomes
absent, and an empty buffer takes the oldest notice of the highest class (R152, R144). Before its moment
neither end changes anything (log entry 9, DEDUCED). -/
def Obligations.BackoffAndHoldEnd : Prop :=
  ∀ (s : State) (dt : Nat), s.part.running = true →
    (∀ b ends, s.part.bus.buffer = some b → b.phase = .backoff ends → s.part.now + dt < ends →
      exec (.backoffEnd dt) s = .next { s with part := s.part.elapse dt }) ∧
    (∀ b ends, s.part.bus.buffer = some b → b.phase = .backoff ends → ends ≤ s.part.now + dt →
      ∃ t, exec (.backoffEnd dt) s = .next t ∧
        t.part.bus =
          { s.part.bus with buffer := some { b with phase := .waiting (s.part.now + dt) } } ∧
        (∀ k : Block, k ≠ .bus → k.same s.part t.part)) ∧
    (∀ h, s.part.bus.peerHold = some h → s.part.now + dt < h.expiry →
      exec (.peerHoldExpiry dt) s = .next { s with part := s.part.elapse dt }) ∧
    (∀ h, s.part.bus.peerHold = some h → h.expiry ≤ s.part.now + dt →
      ∃ t, exec (.peerHoldExpiry dt) s = .next t ∧
        t.part.bus.peerHold = none ∧
        (s.part.bus.buffer.isSome = true → t.part.bus = { s.part.bus with peerHold := none }) ∧
        (s.part.bus.buffer = none →
          t.part.bus.buffer =
            (((s.part.bus.outbound.find? (Queued.ofClass 1)).or
              (s.part.bus.outbound.find? (Queued.ofClass 2))).or
              (s.part.bus.outbound.find? (Queued.ofClass 3))).map (fun q =>
                { notice := q.notice, collisions := 0, phase := .waiting (s.part.now + dt) })) ∧
        (∀ k : Block, k ≠ .bus → k.same s.part t.part))

/-! ## Notices taken (chapters 1, 4, 9, 10) -/

/-- A LAUNCH taken, from a peer that its entry already names (R7, R8, R14): at an ORIGIN it changes no train;
for a known batch it fills a nominated volume that is absent and nothing else; an admitted batch that finds
64 records sets TRAIN_FULL; and where there is room it inserts the record of R7 at its serial place (R6), into an
empty train or one that holds records: older heads beyond its D come down to it and newer ones come up, CLAMPED (R62,
R64), and the window moves to it where it is the oldest live head, shown beyond its arming distance (R13, R74), with its
channel, reference set and plan (R75, R76, R101) and its S0 as planned route (R102); of the records only those of R15
retire. A peer that has no entry yet is left out. That a nominated volume of 0 is none (log entry 17, DEDUCED), that
one above 40,000,000 dal is kept (log entry 44, DESIGN CHOICE), and when an END sets UNPLANNED_BATCH at that S0 (log
entry 18, DEDUCED), are the model's. -/
def Obligations.LaunchNoticeInserts : Prop :=
  ∀ (s : State) (dt : Nat) (n : Received) (rest : List Received) (e : PeerEntry) (batch : BatchNo)
    (product : Product) (leadBatch : BatchNo) (lead : Product) (nominated w0 trail : Nat),
    s.part.running = true → s.part.bus.inbound = n :: rest → s.part.knows n e →
    n.body = .launch batch product leadBatch lead nominated w0 trail →
    let c := s.part.cfg
    let given := if nominated = 0 then none else some nominated
    ∃ t, exec (.launchNoticeTaken dt) s = .next t ∧ t.part.bus.inbound = rest ∧
      (c.role = .origin → t.part.train = s.part.train) ∧
      (c.role ≠ .origin → s.part.admission batch = .known →
        t.part.train.horizon = s.part.train.horizon ∧
        t.part.train.records = s.part.train.records.map (fun r =>
          if r.batch = batch then { r with nominated := r.nominated.or given } else r)) ∧
      (c.role ≠ .origin → s.part.admission batch = .refused → t.part.train = s.part.train) ∧
      (c.role ≠ .origin → s.part.admission batch = .full →
        t.part.train = s.part.train ∧ t.part.port.alarmSet .trainFull = true) ∧
      (c.role ≠ .origin → s.part.admission batch = .room → s.part.trainLaw → s.part.windowLaw →
        let d := holdD ((c.chainage : Int) - trail)
        s.part.insertedInto
          { batch := batch, product := product, nominated := given, status := .approaching,
            head := none, delivered := 0, orderLink := none }
          { leading := lead, state := .distant, d := d,
            w := min 1000000 (w0 + c.chainage * pairGrowth c lead product / 65536),
            u := min 1000000 (c.u0 + d.toNat * c.drift / 65536), anchorStation := n.source,
            anchorChainage := 0, overdue := false, early := false, clamped := false, restartMark := false,
            channel := none, leadRec := none, midRec := none, trailRec := none, plan := none,
            midError := none, measuredWidth := none, degradedMark := none } t.part)

/-- A PASSAGE taken, from a peer that its entry already names (R9, R55, R57): from own chainage or below it changes no
train and is counted; for a CLEARED head, a record with no head, or an unknown batch that R6 refuses it changes
nothing, and for an admitted one that finds 64 records it sets TRAIN_FULL (R14); of an admitted batch it inserts a
record at its serial place, as a LAUNCH does (R13, R62, R74, R75, R101, R102); a head that is not CLEARED is
re-anchored, and the train is clamped around it (R62). A single head in its mix takes no stage, and one beyond its new
arming distance is DISTANT; another window that the clamp does not move is left alone where the head had no
RESTART_MARK. Where its mark goes, that window is handed to the detector (R67): DEGRADED, or in its mix on an
analyser, it takes no stage; on the VOLUME channel it takes the stages then due (R84), shown with no order queued and
the trailing edge not yet due. A single DISTANT or ARMED head on an analyser that comes below −A is cut late (R86),
and INTERFACE_OVERDUE is set again where its RESTART_MARK made it DEGRADED below −A until then (log entry 59, DEDUCED,
for the moment that "still" compares with). A peer that has no entry yet is left out. That no stage is taken in the
mix where a RESTART_MARK goes either (log entry 41, DEDUCED), and when an END sets UNPLANNED_BATCH at the S0 of a
window entered (log entry 18, DEDUCED), are the model's. -/
def Obligations.PassageReanchors : Prop :=
  ∀ (s : State) (dt : Nat) (n : Received) (rest : List Received) (e : PeerEntry) (batch : BatchNo)
    (trailing leading : Product) (trail width : Nat) (lead mid trailMethod : Method)
    (forced late degraded : Bool),
    s.part.running = true → s.part.bus.inbound = n :: rest → s.part.knows n e →
    n.body = .passage batch trailing leading trail width lead mid trailMethod forced late degraded →
    let c := s.part.cfg
    let d := holdD ((c.chainage : Int) - n.chainage - trail)
    let widthHere (l t : Product) : Nat :=
      min 1000000 (width + (c.chainage - n.chainage) * pairGrowth c l t / 65536)
    let u := min 1000000 (c.u0 + d.toNat * c.drift / 65536)
    ∃ t, exec (.passageNoticeTaken dt) s = .next t ∧ t.part.bus.inbound = rest ∧
      (c.chainage ≤ n.chainage →
        t.part.train = s.part.train ∧
        t.part.bus.stats.downstreamPassages = min (s.part.bus.stats.downstreamPassages + 1) 65535) ∧
      (n.chainage < c.chainage →
        (∀ r h, findBatch batch s.part.train.records = some r → r.head = some h → h.state = .cleared →
          t.part.train = s.part.train) ∧
        (∀ r, findBatch batch s.part.train.records = some r → r.head = none →
          t.part.train = s.part.train) ∧
        (s.part.admission batch = .refused → t.part.train = s.part.train) ∧
        (s.part.admission batch = .full →
          t.part.train = s.part.train ∧ t.part.port.alarmSet .trainFull = true) ∧
        (s.part.admission batch = .room → s.part.planner.incoming = none → s.part.trainLaw →
          s.part.windowLaw →
          s.part.insertedInto
            { batch := batch, product := trailing, nominated := none, status := .approaching,
              head := none, delivered := 0, orderLink := none }
            { leading := leading, state := .distant, d := d, w := widthHere leading trailing, u := u,
              anchorStation := n.source, anchorChainage := n.chainage, overdue := false, early := false,
              clamped := false, restartMark := false, channel := none, leadRec := none, midRec := none,
              trailRec := none, plan := none, midError := none, measuredWidth := none,
              degradedMark := none } t.part) ∧
        (∀ older r h newer, s.part.train.records = older ++ r :: newer → r.batch = batch →
          r.head = some h → h.state ≠ .cleared → s.part.planner.incoming = none → s.part.trainLaw →
          s.part.windowLaw →
          t.part.placedAs
            (trainAround d older
              { r with
                head := some
                  { h with
                    d := d, anchorStation := n.source, anchorChainage := n.chainage, restartMark := false,
                    w := widthHere h.leading r.product, u := u } } newer) s.part ∧
          (∀ x g, s.part.windowHead = some (x, g) → x ∈ older → g.d ≤ d →
            let mixes := g.state = .inMix ∨ g.state = .pastMid
            let waits := g.state = .distant ∨ g.state = .armed
            let half : Int := ((g.w / 2 : Nat) : Int)
            let leads := waits ∧ g.d ≤ half
            let crosses := (leads ∨ g.state = .inMix) ∧ g.d ≤ 0
            let record : StageRecord := { method := .volume, stamp := s.part.vol.arrivalCounter }
            let led : HeadInterface := if leads then { g with leadRec := some record } else g
            let frozen := g.plan.map (fun q => { q with frozen := true })
            (h.restartMark = false → t.part.det = s.part.det) ∧
            (g.channel ≠ some .volume → mixes → t.part.det = s.part.det) ∧
            (g.channel = some .volume → s.part.degraded g = true → t.part.det = s.part.det) ∧
            (h.restartMark = true → g.channel = some .volume → s.part.degraded g = false →
              (waits → ¬leads → t.part.det = s.part.det) ∧
              (mixes → ¬crosses → -half < g.d → t.part.showsWindow x.batch g) ∧
              (s.part.planner.orders = [] →
                (leads → ¬crosses →
                  t.part.showsWindow x.batch { led with state := .inMix, plan := frozen }) ∧
                (crosses → -half < g.d →
                  t.part.showsWindow x.batch
                    { led with
                      state := .pastMid, midRec := some record, midError := some g.d, plan := frozen } ∧
                  t.part.det.midStamp = some s.part.vol.trunkCounter))))) ∧
        (∀ r h, s.part.train.records = [r] → r.batch = batch → r.head = some h →
          s.part.det.window = some batch → s.part.planner.incoming = none →
          let w := widthHere h.leading r.product
          let moved (state : HeadState) : List BatchRecord :=
            [{ r with
               head := some
                 { h with
                   state := state, d := d, anchorStation := n.source, anchorChainage := n.chainage,
                   restartMark := false, w := w, u := u } }]
          (h.state = .inMix ∨ h.state = .pastMid → t.part.train.records = moved h.state) ∧
          (h.state = .distant ∨ h.state = .armed → ((w / 2 + u + c.margin : Nat) : Int) < d →
            t.part.train.records = moved .distant) ∧
          (h.state = .distant ∨ h.state = .armed → h.channel = some .density ∨ h.channel = some .marker →
            d < -((w / 2 + u + c.margin : Nat) : Int) → h.restartMark = true ∨ d ≠ h.d → s.part.planner.orders = [] → s.part.windowLaw →
            let before : Int := ((h.w / 2 + h.u + c.margin : Nat) : Int)
            let late : StageRecord := { method := .late, stamp := s.part.vol.arrivalCounter }
            t.part.showsCompleted r
              { h with
                state := .cleared, d := d, anchorStation := n.source, anchorChainage := n.chainage,
                restartMark := false, w := w, u := u, overdue := true, leadRec := some late, midRec := some late,
                midError := some d, trailRec := some late, plan := none, measuredWidth := some w,
                degradedMark := some false } s.part.det.mix ∧
            t.part.port.alarmSet .interfaceOverdue = (s.part.port.alarmSet .interfaceOverdue || !h.overdue ||
              (h.restartMark && decide (h.d < -before))))))

/-- A HOLD taken, from any peer (R152): a time above 0, at most 4,000 slots, moves the expiry on when it is later than
the one in force; 0 from the holder ends the hold, and from any other source changes nothing. The source has an entry
with the chainage of its notice, and is not SILENT (R155, R156), and CHAINAGE_CHANGED is set where its entry had
another. Where it had, or the peer was SILENT, the window interface is handed to the detector (R67, R85), as
`Part.handedOn` says; where neither, or the peer is new, it takes no stage. -/
def Obligations.HoldNoticeHolds : Prop :=
  ∀ (s : State) (dt : Nat) (n : Received) (rest : List Received) (slots : Nat),
    s.part.running = true → s.part.bus.inbound = n :: rest → n.body = .hold slots →
    let expiry := s.part.now + dt + min slots 4000 * bitsPerSlot
    ∃ t e, exec (.holdNoticeTaken dt) s = .next t ∧ t.part.bus.inbound = rest ∧
      findPeer n.source t.part.peer.table = some e ∧ e.chainage = n.chainage ∧ e.silent = false ∧
      t.part.bus.peerHold =
        (match s.part.bus.peerHold with
         | none => if slots = 0 then none else some { expiry := expiry, holder := n.source }
         | some h =>
           if slots = 0 then (if h.holder = n.source then none else some h)
           else if h.expiry < expiry then some { expiry := expiry, holder := n.source }
           else some h) ∧
      t.part.port.alarmSet .chainageChanged = (s.part.port.alarmSet .chainageChanged ||
        (match findPeer n.source s.part.peer.table with
         | some x => decide (x.chainage ≠ n.chainage)
         | none => false)) ∧
      (findPeer n.source s.part.peer.table = none → t.part.train = s.part.train ∧ t.part.det = s.part.det) ∧
      (∀ x, findPeer n.source s.part.peer.table = some x →
        (x.chainage = n.chainage → x.silent = false →
          t.part.train = s.part.train ∧ t.part.det = s.part.det) ∧
        (x.chainage ≠ n.chainage ∨ x.silent = true →
          ∀ r h, s.part.windowAlone r h → s.part.handedOn r h t.part))

/-- A STATUS taken, from a peer that its entry already names (R155, R156, R157): the entry takes the notice's fields
and a silence expiry of 4 intervals; a first counter is a baseline and changes no train (R157, R54); a changed start
count or a delta of 2^31 or more rebaselines with PEER_RESTART, and one of a TERMINAL or an END below own chainage
sets RESTART_MARK on the head interfaces upstream of it, shown where the window can take no stage (R65). A delta of a
peer below own chainage lowers the D of every head that is not CLEARED and lies upstream of the peer, and of no other
(R53), the flow form of the clamp then lowers, with CLAMPED, a head above a newer one (R63), DISTANT and ARMED stand
as R61 gives, and of the records only those of R15 retire; the one interface of a train, in its mix on an analyser,
has nothing else changed. A delta of a peer at own chainage or downstream of it changes no train. -/
def Obligations.StatusNoticeUpdatesPeer : Prop :=
  ∀ (s : State) (dt : Nat) (n : Received) (rest : List Received) (e : PeerEntry) (role : Role)
    (startCount : BitVec 16) (interval : Nat) (delivered : Counter) (rate : Nat) (atMeter : Option BatchNo)
    (flags : StatusFlags),
    s.part.running = true → s.part.bus.inbound = n :: rest → s.part.knows n e →
    n.body = .status role startCount interval delivered rate atMeter flags →
    let c := s.part.cfg
    let kept := max 2 (min 60 interval)
    ∃ t, exec (.statusNoticeTaken dt) s = .next t ∧ t.part.bus.inbound = rest ∧
      findPeer n.source t.part.peer.table =
        some { station := e.station, chainage := n.chainage, role := some role,
               startCount := some startCount, delivered := some delivered, interval := some kept,
               silent := false, expiry := some (s.part.now + dt + 4 * kept * bitsPerSecond),
               rate := some rate, atMeter := atMeter, flags := some flags } ∧
      t.part.port.alarmSet .peerRestart = (s.part.port.alarmSet .peerRestart ||
        (e.delivered.isSome && (decide (e.startCount ≠ some startCount) ||
          decide (2 ^ 31 ≤ (delivered - e.delivered.getD 0).toNat)))) ∧
      (∀ old, e.delivered = some old →
        e.startCount ≠ some startCount ∨ 2 ^ 31 ≤ (delivered - old).toNat →
        s.part.det.window = none ∨ (∃ w, s.part.windowHead = some w ∧ w.2.state = .inMix ∧
          (w.2.channel = some .density ∨ w.2.channel = some .marker)) →
        t.part.train.horizon = s.part.train.horizon ∧
        t.part.train.records = s.part.train.records.map (fun r =>
          { r with
            head := r.head.map (fun h =>
              if (role = .terminal ∨ role = .end_) ∧ n.chainage < c.chainage ∧ h.state ≠ .cleared ∧
                  (c.chainage : Int) - h.d < n.chainage then { h with restartMark := true }
              else h) })) ∧
      (e.delivered = none → t.part.train = s.part.train) ∧
      (∀ r h old, s.part.train.records = [r] → r.head = some h → s.part.det.window = some r.batch →
        h.state = .inMix → h.channel = some .density ∨ h.channel = some .marker →
        s.part.planner.incoming = none → e.delivered = some old → e.startCount = some startCount →
        (delivered - old).toNat < 2 ^ 31 →
        t.part.train.records =
          [if n.chainage < c.chainage ∧ (c.chainage : Int) - h.d < n.chainage then
             { r with head := some { h with d := holdD (h.d - (delivered - old).toNat) } }
           else r]) ∧
      (∀ old, e.delivered = some old → e.startCount = some startCount → (delivered - old).toNat < 2 ^ 31 →
        (c.chainage ≤ n.chainage → t.part.train = s.part.train) ∧
        (n.chainage < c.chainage → s.part.trainLaw → s.part.windowLaw →
          t.part.placedAs
            (flowClamp (s.part.train.records.map (fun r =>
              { r with head := r.head.map (fun h =>
                  if h.state ≠ .cleared ∧ (c.chainage : Int) - h.d < n.chainage then
                    { h with d := holdD (h.d - (delivered - old).toNat) }
                  else h) }))) s.part ∧
          ∀ r ∈ t.part.train.records, ∀ h, r.head = some h → h.state = .distant ∨ h.state = .armed →
            (h.state = .armed ↔ h.d ≤ ((h.w / 2 + h.u + c.margin : Nat) : Int))))

/-- A TRAIN REQUEST taken, from a peer that its entry already names, with the transmit buffer taken and the
watermarks still (R159, R143): where there is room, the segments of the snapshot join the outbound queue at
once, three entries to a segment, FIRST on the first and LAST on the last; otherwise nothing is sent. -/
def Obligations.TrainRequestAnswered : Prop :=
  ∀ (s : State) (dt : Nat) (n : Received) (e : PeerEntry) (tag : BitVec 16),
    s.part.running = true → s.part.bus.inbound = [n] → s.part.knows n e → n.body = .trainRequest tag →
    s.part.bus.buffer.isSome = true → s.part.bus.holdSent = false → 0 < s.part.cfg.highWater →
    let batches := (s.part.train.records.filter (fun r => r.head.isSome)).map BatchRecord.batch
    let segments := if batches.length = 0 then 1 else (batches.length + 2) / 3
    let segment (i : Nat) : Queued :=
      { notice := .report n.source (decide (i = 0)) (decide (i + 1 = segments)) n.source tag
          batches.length ((batches.drop (3 * i)).take 3),
        joined := s.part.now + dt }
    ∃ t, exec (.trainRequestTaken dt) s = .next t ∧ t.part.bus.inbound = [] ∧
      (segments ≤ 32 - s.part.bus.outbound.length →
        t.part.bus.outbound = s.part.bus.outbound ++ (List.range segments).map segment) ∧
      (32 - s.part.bus.outbound.length < segments →
        t.part.bus = { s.part.bus with inbound := [] })

/-- A TRAIN REPORT segment taken, from a peer that its entry already names (R162 to R164): a stray one is counted, the
sync going on; a wrong key fails the report; a FIRST begins the partial report anew, and any other segment goes on
with it; the first row of R162's table that fails ends the sync with its reason; a segment that fails none is
appended, each D brought to this station's chainage; and with LAST the sync ends MERGED, its counts adding up to the
total. A report of one entry shows what an entry brings (R10): a vacant one, one at an ORIGIN, of a known batch or not
admitted changes no train, one that finds the train full sets TRAIN_FULL, and one with room is inserted DISTANT at its
serial place, whatever state it carries, as a LAUNCH inserts (R62, R74, R75, R76, R101, R102); each is counted by its
kind. That it is anchored at the chainage of the LAST segment (log entry 28, DEDUCED), that a nominated volume above
40,000,000 dal is kept as carried (log entry 44, DESIGN CHOICE), and when an END sets UNPLANNED_BATCH at the S0 of a
window entered (log entry 18, DEDUCED), are the model's. -/
def Obligations.TrainReportSegmentTaken : Prop :=
  ∀ (s : State) (dt : Nat) (n : Received) (rest : List Received) (e : PeerEntry) (first last : Bool)
    (keyStation : Nat) (keyTag : BitVec 16) (total : Nat) (entries : List ReportEntry),
    s.part.running = true → s.part.bus.inbound = n :: rest → s.part.knows n e →
    n.body = .report first last keyStation keyTag total entries →
    let c := s.part.cfg
    let mine := keyStation = c.station ∧ keyTag = s.part.peer.tag
    let held := if first then [] else s.part.peer.buffer
    let failure : Option SyncFailure :=
      if first = false ∧ s.part.peer.partialTotal = none then some .missingFirst
      else if first = false ∧ s.part.peer.partialTotal ≠ some total then some .totalChanged
      else if first = true ∧ 64 < total then some .tooMany
      else if entries = [] ∧ 0 < total then some .emptySegment
      else if total < held.length + entries.length then some .tooMany
      else if last = true ∧ held.length + entries.length ≠ total then some .short
      else none
    let fails (t : State) (reason : SyncFailure) : Prop :=
      t.part.peer.phase = .idle ∧ t.part.peer.buffer = [] ∧ t.part.peer.partialTotal = none ∧
        t.part.peer.lastOutcome = .failed reason ∧ t.part.port.alarmSet .syncFailed = true ∧
        t.part.train = s.part.train
    ∃ t, exec (.trainReportSegmentTaken dt) s = .next t ∧ t.part.bus.inbound = rest ∧
      (s.part.peer.phase = .idle ∨ s.part.peer.phase = .waitingSent ∨
          s.part.peer.syncStation ≠ some n.source →
        (s.part.peer.phase = .waitingSent → s.part.bus.outbound.length < 32) →
        t.part.peer.strays = min (s.part.peer.strays + 1) 65535 ∧
        t.part.peer.phase = s.part.peer.phase ∧ t.part.peer.buffer = s.part.peer.buffer ∧
        t.part.peer.partialTotal = s.part.peer.partialTotal ∧ t.part.train = s.part.train) ∧
      (∀ expiry, s.part.peer.phase = .awaiting expiry ∨ s.part.peer.phase = .receiving expiry →
        s.part.peer.syncStation = some n.source →
        (¬mine → fails t .key) ∧
        (∀ reason, mine → failure = some reason → fails t reason) ∧
        (mine → failure = none → last = false →
          t.part.peer.phase = .receiving expiry ∧ t.part.peer.partialTotal = some total ∧
          t.part.train = s.part.train ∧
          t.part.peer.buffer = held ++ entries.map (fun x =>
            { x with d := holdD (x.d + (c.chainage : Int) - n.chainage) })) ∧
        (mine → failure = none → last = true →
          t.part.peer.phase = .idle ∧ t.part.peer.buffer = [] ∧ t.part.peer.partialTotal = none ∧
          (∃ i k r v, t.part.peer.lastOutcome = .merged i k r v ∧ i + k + r + v = total) ∧
          (∀ x, held ++ entries.map (fun y => { y with d := holdD (y.d + (c.chainage : Int) - n.chainage) }) = [x] →
            let unchanged (i k r v : Nat) : Prop :=
              t.part.train = s.part.train ∧ t.part.peer.lastOutcome = .merged i k r v
            (x.state = .gone → unchanged 0 0 0 1) ∧
            (x.state ≠ .gone → c.role = .origin → unchanged 0 0 1 0) ∧
            (x.state ≠ .gone → c.role ≠ .origin →
              (s.part.admission x.batch = .known → unchanged 0 1 0 0) ∧
              (s.part.admission x.batch = .refused → unchanged 0 0 1 0) ∧
              (s.part.admission x.batch = .full →
                unchanged 0 0 1 0 ∧ t.part.port.alarmSet .trainFull = true) ∧
              (s.part.admission x.batch = .room → s.part.trainLaw → s.part.windowLaw →
                t.part.peer.lastOutcome = .merged 1 0 0 0 ∧
                s.part.insertedInto
                  { batch := x.batch, product := x.product,
                    nominated := if x.nominated = 0 then none else some x.nominated,
                    status := .approaching, head := none, delivered := 0, orderLink := none }
                  { leading := x.leading, state := .distant, d := x.d,
                    w := min 1000000
                      (x.w + (c.chainage - n.chainage) * pairGrowth c x.leading x.product / 65536),
                    u := min 1000000 (c.u0 + x.d.toNat * c.drift / 65536), anchorStation := n.source,
                    anchorChainage := n.chainage, overdue := false, early := false, clamped := false,
                    restartMark := false, channel := none, leadRec := none, midRec := none,
                    trailRec := none, plan := none, midError := none, measuredWidth := none,
                    degradedMark := none } t.part)))))

/-! ## The sync and the peers' timers (R156, R158, R161, R164) -/

/-- SYNC FROM (R161): VALUE and BUSY change nothing; otherwise the tag advances, the sync waits for its
request to leave, and with the transmit buffer taken and room in the queue the TRAIN REQUEST is its newest
notice. -/
def Obligations.SyncFromBeginsSync : Prop :=
  ∀ (s : State) (dt : Nat) (station : Octet), s.part.running = true →
    let j := station.toNat
    let good := 1 ≤ j ∧ j ≤ 48 ∧ j ≠ s.part.cfg.station ∧ s.part.cfg.listens j = true
    (¬good → ∃ t, exec (.syncFrom dt station) s = .next t ∧
      t.part.answered 0x26 .value [] ∧ (s.part.elapse dt).onlyAnswers t.part) ∧
    (good → s.part.peer.phase ≠ .idle → ∃ t, exec (.syncFrom dt station) s = .next t ∧
      t.part.answered 0x26 .busy [] ∧ (s.part.elapse dt).onlyAnswers t.part) ∧
    (good → s.part.peer.phase = .idle → s.part.bus.buffer.isSome = true →
      s.part.bus.outbound.length < 32 → ∃ t, exec (.syncFrom dt station) s = .next t ∧
      t.part.answered 0x26 .accepted (be2 (s.part.peer.tag + 1).toNat) ∧
      t.part.peer = { s.part.peer with
        tag := s.part.peer.tag + 1, phase := .waitingSent, syncStation := some j, partialTotal := none,
        buffer := [] } ∧
      t.part.bus.outbound = s.part.bus.outbound ++
        [{ notice := .trainRequest j (s.part.peer.tag + 1), joined := s.part.now + dt }] ∧
      (∀ b : Block, b ≠ .bus → b ≠ .peers → b.same s.part t.part))

/-- The timers of the peer monitor. At the next STATUS's moment the one after it lies one interval on, and the STATUS
takes the place of a queued one, or joins the queue as its newest (R158, R141). A silence expiry makes its peer
SILENT, with PEER_SILENT and no expiry (R156), and hands the window interface on (R67, R85, R86), as `Part.handedOn`
says. The sync timer ends the sync with TIMEOUT and SYNC_FAILED, its buffer emptied (R164); that the station asked is
then absent is the model's choice (log entry 53). Before its moment, and of a timer that does not run, an expiry
changes nothing (log entry 9, DEDUCED). -/
def Obligations.PeerMonitorTimersExpire : Prop :=
  ∀ (s : State) (dt : Nat), s.part.running = true →
    let now := s.part.now + dt
    let idles (c : Instr) : Prop := exec c s = .next { s with part := s.part.elapse dt }
    let status : Notice := .status s.part.cfg.role s.part.image.startCount s.part.cfg.statusInterval
    (∀ due, s.part.peer.nextStatus = some due → now < due → idles (.statusIntervalDue dt)) ∧
    (∀ due, s.part.peer.nextStatus = some due → due ≤ now → s.part.bus.buffer.isSome = true →
      ∃ t, exec (.statusIntervalDue dt) s = .next t ∧
        t.part.peer.nextStatus = some (due + s.part.cfg.statusInterval * bitsPerSecond) ∧
        (∀ older x newer, s.part.bus.outbound = older ++ x :: newer → x.ofClass 3 = true →
          (∀ y ∈ older ++ newer, y.ofClass 3 = false) →
          t.part.bus.outbound = older ++ { x with notice := status } :: newer) ∧
        ((∀ y ∈ s.part.bus.outbound, y.ofClass 3 = false) → s.part.bus.outbound.length < 32 →
          t.part.bus.outbound = s.part.bus.outbound ++ [{ notice := status, joined := now }])) ∧
    (∀ station e, findPeer station s.part.peer.table = some e →
      (e.expiry = none → idles (.peerSilenceExpiry dt station)) ∧
      (∀ moment, e.expiry = some moment → now < moment → idles (.peerSilenceExpiry dt station)) ∧
      (∀ moment, e.expiry = some moment → moment ≤ now →
        ∃ t, exec (.peerSilenceExpiry dt station) s = .next t ∧
          findPeer station t.part.peer.table = some { e with silent := true, expiry := none } ∧
          t.part.port.alarmSet .peerSilent = true ∧
          ∀ r h, s.part.windowAlone r h → s.part.handedOn r h t.part)) ∧
    (∀ moment, s.part.peer.phase = .awaiting moment ∨ s.part.peer.phase = .receiving moment →
      (now < moment → idles (.syncTimeout dt)) ∧
      (moment ≤ now →
        ∃ t, exec (.syncTimeout dt) s = .next t ∧
          t.part.peer = { s.part.peer with
            phase := .idle, syncStation := none, partialTotal := none, buffer := [],
            lastOutcome := .failed .timeout } ∧
          t.part.port.alarmSet .syncFailed = true ∧
          (∀ b : Block, b ≠ .peers → b ≠ .alarms → b.same s.part t.part))) ∧
    (s.part.peer.phase = .idle ∨ s.part.peer.phase = .waitingSent → idles (.syncTimeout dt))

/-! ## Frames -/

/-- Every block that a command does not name in `mayChange` reads the same after it, whatever its operands,
the part state, the mode and the outcome. -/
def Obligations.CommandsKeepOtherBlocks : Prop :=
  ∀ (c : Instr) (s t : State) (b : Block), exec c s = .next t → b ∉ c.mayChange → b.same s.part t.part

/-- Outside RUNNING an event changes nothing, but for a limit level taken and the end of PROGRAMMING (R20,
R29, R30, R46, R114, R140, R158; log entry 37). -/
def Obligations.EventsWaitForRunning : Prop :=
  ∀ (c : Instr) (s : State), s.part.running = false → c.isEvent = true →
    exec c s = .next { s with part := s.part.elapse c.dt }

/-! ## The laws every step keeps -/

/-- The queues stay within their places, with at most one STATUS queued, over every step (R141, R150,
R173). -/
def Obligations.QueueLawKept : Prop :=
  ∀ s t : State, s.part.queueLaw → step s = .next t → t.part.queueLaw

/-- The train stays within 64 records in serial order with no batch number twice, and empty outside RUNNING,
over every step (R5, R18). -/
def Obligations.TrainLawKept : Prop :=
  ∀ s t : State, s.part.trainLaw → step s = .next t → t.part.trainLaw

/-- Distance-to-arrival never decreases from an older record to a newer one, over every step (R62). -/
def Obligations.DistanceLawKept : Prop :=
  ∀ s t : State, s.part.trainLaw → s.part.distanceLaw → step s = .next t → t.part.distanceLaw

/-- The window stays the oldest head interface that is not CLEARED, and the only one in its mix, and a PAST_MID
head keeps the midpoint error that its midpoint set, over every step (R73, R4, R81, R88). -/
def Obligations.WindowLawKept : Prop :=
  ∀ s t : State, s.part.trainLaw → s.part.windowLaw → step s = .next t → t.part.windowLaw

/-- At most 16 orders, each with a number of its own, and at most one FILLING, over every step (R96,
R97). -/
def Obligations.OrderLawKept : Prop :=
  ∀ s t : State, s.part.orderLaw → step s = .next t → t.part.orderLaw

/-- No command line is active but for the change in flight, and no change is in flight but in RUNNING in
OPERATE, over every step (R115, R124). -/
def Obligations.OutletLawKept : Prop :=
  ∀ s t : State, s.part.outletLaw → step s = .next t → t.part.outletLaw

/-- Residues below 2^30, accumulators below 1,000 cL and at most 16 flow entries, over every step (R34,
R44). -/
def Obligations.VolumeLawKept : Prop :=
  ∀ s t : State, s.part.volumeLaw → step s = .next t → t.part.volumeLaw

/-- The machine right after reset obeys every law, and holds no command. -/
def Obligations.LawsHoldAtReset : Prop :=
  State.reset.part.queueLaw ∧ State.reset.part.trainLaw ∧ State.reset.part.distanceLaw ∧
    State.reset.part.windowLaw ∧ State.reset.part.orderLaw ∧ State.reset.part.outletLaw ∧
    State.reset.part.volumeLaw ∧ State.reset.pending = []

/-! ## Layouts read back (chapter 12) -/

/-- Every request, sent as the frame of its code and payload, is read back as itself (12.3, R166, R176). -/
def Obligations.RequestFramesReadBack : Prop :=
  ∀ (i : Instr) (code : Octet) (payload : List Octet), i.wellFormed = true →
    encodeRequest i = some (code, payload) →
    decodePortFrame i.dt true true true (requestFrame code payload) = i

/-- A notice as this station sends it is accepted by a peer that listens to it, with the fields it was sent with
(12.2, R140, R146, R149): LAUNCH, PASSAGE, HOLD, TRAIN REPORT, TRAIN REQUEST and STATUS. An entry of a TRAIN REPORT
has the fields of the record as it stands, its values in the octets that 12.2 gives them, and is GONE with 0 in every
other field where no record bears the batch number any more (R160). -/
def Obligations.LineFramesReadBack : Prop :=
  ∀ (s : Part) (peer : Config), 1 ≤ s.cfg.station ∧ s.cfg.station ≤ 48 → s.cfg.chainage ≤ 40000000 →
    s.cfg.station ≠ peer.station → peer.listens s.cfg.station = true →
    let reads (n : Notice) (body : Body) : Prop := judgeFrame peer (s.frameOf n) =
      .accepted { source := s.cfg.station, chainage := s.cfg.chainage, body := body }
    (∀ batch product leadBatch lead nominated w0 stamp, product ≠ 0 → nominated < 2 ^ 32 → w0 < 2 ^ 32 →
      reads (.launch batch product leadBatch lead nominated w0 stamp)
        (.launch batch product leadBatch lead nominated w0 (s.vol.trunkCounter - stamp).toNat)) ∧
    (∀ batch trailing leading width lead mid trail forced late degraded stamp, trailing ≠ 0 →
      width < 2 ^ 32 →
      reads (.passage batch trailing leading width lead mid trail forced late degraded stamp)
        (.passage batch trailing leading
          (if s.cfg.role = .end_ then 0 else (s.vol.trunkCounter - stamp).toNat) width lead mid trail
          forced late degraded)) ∧
    (∀ slots, slots < 65536 → reads (.hold slots) (.hold slots)) ∧
    (∀ first last keyStation keyTag total (batches : List BatchNo), 1 ≤ peer.station → peer.station < 256 →
      keyStation < 256 → total < 256 → batches.length ≤ 3 →
      (∀ b ∈ batches, ∀ r, findBatch b s.train.records = some r → r.product ≠ 0 ∧ r.nominated.getD 0 < 2 ^ 32 ∧
        ∃ h, r.head = some h ∧ -(2 ^ 31 : Int) ≤ h.d ∧ h.d < 2 ^ 31 ∧ h.w < 2 ^ 32 ∧ h.u < 2 ^ 32) →
      ∃ entries, reads (.report peer.station first last keyStation keyTag total batches)
          (.report first last keyStation keyTag total entries) ∧
        entries.map ReportEntry.batch = batches ∧
        ∀ e ∈ entries,
          (findBatch e.batch s.train.records = none →
            e = { batch := e.batch, product := 0, leading := 0, d := 0, w := 0, u := 0, nominated := 0,
                  state := .gone }) ∧
          (∀ r h, findBatch e.batch s.train.records = some r → r.head = some h →
            e = { batch := e.batch, product := r.product, leading := h.leading, d := h.d, w := h.w, u := h.u,
                  nominated := r.nominated.getD 0, state := .head h.state })) ∧
    (∀ tag, 1 ≤ peer.station → peer.station < 256 →
      reads (.trainRequest peer.station tag) (.trainRequest tag)) ∧
    (∀ role startCount interval, interval < 256 →
      reads (.status role startCount interval)
        (.status role startCount interval s.vol.deliveredCounter s.flowRate
          (s.atMeter.map BatchRecord.batch)
          { densityReady := s.inst.densityReady, markerReady := s.inst.markerReady,
            anyDegraded := s.anyDegraded, holdSent := s.bus.holdSent }))
end

