-- ==== Sys2Proof/Laws/State.lean ====
section
/-! SUPPORT. For each basic update of the part: one lemma for every block it leaves, and one for the block it
writes where that is a plain record. All hold by rfl and are simp lemmas, so that no proof unfolds an update. -/

namespace Sys2Proof.Machine

/-! ### elapse -/

@[simp] theorem Part.elapse_now (s : Part) (dt : Nat) :
    (s.elapse dt).now = s.now + dt := rfl
@[simp] theorem Part.elapse_inst (s : Part) (dt : Nat) : (s.elapse dt).inst = s.inst := rfl
@[simp] theorem Part.elapse_vol (s : Part) (dt : Nat) : (s.elapse dt).vol = s.vol := rfl
@[simp] theorem Part.elapse_train (s : Part) (dt : Nat) : (s.elapse dt).train = s.train := rfl
@[simp] theorem Part.elapse_det (s : Part) (dt : Nat) : (s.elapse dt).det = s.det := rfl
@[simp] theorem Part.elapse_planner (s : Part) (dt : Nat) : (s.elapse dt).planner = s.planner := rfl
@[simp] theorem Part.elapse_outlet (s : Part) (dt : Nat) : (s.elapse dt).outlet = s.outlet := rfl
@[simp] theorem Part.elapse_guard (s : Part) (dt : Nat) : (s.elapse dt).guard = s.guard := rfl
@[simp] theorem Part.elapse_bus (s : Part) (dt : Nat) : (s.elapse dt).bus = s.bus := rfl
@[simp] theorem Part.elapse_peer (s : Part) (dt : Nat) : (s.elapse dt).peer = s.peer := rfl
@[simp] theorem Part.elapse_port (s : Part) (dt : Nat) : (s.elapse dt).port = s.port := rfl
@[simp] theorem Part.elapse_image (s : Part) (dt : Nat) : (s.elapse dt).image = s.image := rfl

@[simp] theorem Part.elapse_cfg (s : Part) (dt : Nat) : (s.elapse dt).cfg = s.cfg := rfl
@[simp] theorem Part.elapse_running (s : Part) (dt : Nat) : (s.elapse dt).running = s.running := rfl

/-! ### whenDue -/

theorem Part.whenDue_due {m : Nat} {s : Part} (f : Part → Part) (h : m ≤ s.now) : s.whenDue m f = f s :=
  if_pos h
theorem Part.whenDue_early {m : Nat} {s : Part} (f : Part → Part) (h : s.now < m) : s.whenDue m f = s :=
  if_neg (Nat.not_le_of_lt h)

/-! ### raise -/

@[simp] theorem Part.raise_now (s : Part) (a : Alarm) : (s.raise a).now = s.now := rfl
@[simp] theorem Part.raise_inst (s : Part) (a : Alarm) : (s.raise a).inst = s.inst := rfl
@[simp] theorem Part.raise_vol (s : Part) (a : Alarm) : (s.raise a).vol = s.vol := rfl
@[simp] theorem Part.raise_train (s : Part) (a : Alarm) : (s.raise a).train = s.train := rfl
@[simp] theorem Part.raise_det (s : Part) (a : Alarm) : (s.raise a).det = s.det := rfl
@[simp] theorem Part.raise_planner (s : Part) (a : Alarm) : (s.raise a).planner = s.planner := rfl
@[simp] theorem Part.raise_outlet (s : Part) (a : Alarm) : (s.raise a).outlet = s.outlet := rfl
@[simp] theorem Part.raise_guard (s : Part) (a : Alarm) : (s.raise a).guard = s.guard := rfl
@[simp] theorem Part.raise_bus (s : Part) (a : Alarm) : (s.raise a).bus = s.bus := rfl
@[simp] theorem Part.raise_peer (s : Part) (a : Alarm) : (s.raise a).peer = s.peer := rfl
@[simp] theorem Part.raise_port (s : Part) (a : Alarm) :
    (s.raise a).port = s.port.raise a := rfl
@[simp] theorem Part.raise_image (s : Part) (a : Alarm) : (s.raise a).image = s.image := rfl
@[simp] theorem Part.raise_port_response (s : Part) (a : Alarm) :
    (s.raise a).port.response = s.port.response := rfl
@[simp] theorem Part.raise_port_discarded (s : Part) (a : Alarm) :
    (s.raise a).port.discarded = s.port.discarded := rfl
@[simp] theorem Part.raise_port_records (s : Part) (a : Alarm) :
    (s.raise a).port.records = s.port.records := rfl
@[simp] theorem Part.raise_port_seq (s : Part) (a : Alarm) :
    (s.raise a).port.seq = s.port.seq := rfl
@[simp] theorem Part.raise_port_loss (s : Part) (a : Alarm) :
    (s.raise a).port.loss = s.port.loss := rfl
@[simp] theorem Part.raise_port_resetCause (s : Part) (a : Alarm) :
    (s.raise a).port.resetCause = s.port.resetCause := rfl

@[simp] theorem Part.raise_cfg (s : Part) (a : Alarm) : (s.raise a).cfg = s.cfg := rfl
@[simp] theorem Part.raise_running (s : Part) (a : Alarm) : (s.raise a).running = s.running := rfl

/-! ### respond -/

@[simp] theorem Part.respond_now (s : Part) (c : Octet) (r : Result) (p : List Octet) : (s.respond c r p).now = s.now := rfl
@[simp] theorem Part.respond_inst (s : Part) (c : Octet) (r : Result) (p : List Octet) : (s.respond c r p).inst = s.inst := rfl
@[simp] theorem Part.respond_vol (s : Part) (c : Octet) (r : Result) (p : List Octet) : (s.respond c r p).vol = s.vol := rfl
@[simp] theorem Part.respond_train (s : Part) (c : Octet) (r : Result) (p : List Octet) : (s.respond c r p).train = s.train := rfl
@[simp] theorem Part.respond_det (s : Part) (c : Octet) (r : Result) (p : List Octet) : (s.respond c r p).det = s.det := rfl
@[simp] theorem Part.respond_planner (s : Part) (c : Octet) (r : Result) (p : List Octet) : (s.respond c r p).planner = s.planner := rfl
@[simp] theorem Part.respond_outlet (s : Part) (c : Octet) (r : Result) (p : List Octet) : (s.respond c r p).outlet = s.outlet := rfl
@[simp] theorem Part.respond_guard (s : Part) (c : Octet) (r : Result) (p : List Octet) : (s.respond c r p).guard = s.guard := rfl
@[simp] theorem Part.respond_bus (s : Part) (c : Octet) (r : Result) (p : List Octet) : (s.respond c r p).bus = s.bus := rfl
@[simp] theorem Part.respond_peer (s : Part) (c : Octet) (r : Result) (p : List Octet) : (s.respond c r p).peer = s.peer := rfl
@[simp] theorem Part.respond_port (s : Part) (c : Octet) (r : Result) (p : List Octet) :
    (s.respond c r p).port = { s.port with response := some { code := c, result := r, payload := p } } := rfl
@[simp] theorem Part.respond_image (s : Part) (c : Octet) (r : Result) (p : List Octet) : (s.respond c r p).image = s.image := rfl
@[simp] theorem Part.respond_port_discarded (s : Part) (c : Octet) (r : Result) (p : List Octet) :
    (s.respond c r p).port.discarded = s.port.discarded := rfl
@[simp] theorem Part.respond_port_records (s : Part) (c : Octet) (r : Result) (p : List Octet) :
    (s.respond c r p).port.records = s.port.records := rfl
@[simp] theorem Part.respond_port_seq (s : Part) (c : Octet) (r : Result) (p : List Octet) :
    (s.respond c r p).port.seq = s.port.seq := rfl
@[simp] theorem Part.respond_port_loss (s : Part) (c : Octet) (r : Result) (p : List Octet) :
    (s.respond c r p).port.loss = s.port.loss := rfl
@[simp] theorem Part.respond_port_alarms (s : Part) (c : Octet) (r : Result) (p : List Octet) :
    (s.respond c r p).port.alarms = s.port.alarms := rfl
@[simp] theorem Part.respond_port_resetCause (s : Part) (c : Octet) (r : Result) (p : List Octet) :
    (s.respond c r p).port.resetCause = s.port.resetCause := rfl

@[simp] theorem Part.respond_cfg (s : Part) (c : Octet) (r : Result) (p : List Octet) : (s.respond c r p).cfg = s.cfg := rfl
@[simp] theorem Part.respond_running (s : Part) (c : Octet) (r : Result) (p : List Octet) : (s.respond c r p).running = s.running := rfl

/-! ### writeRecord -/

@[simp] theorem Part.writeRecord_now (s : Part) (b : RecordBody) : (s.writeRecord b).now = s.now := rfl
@[simp] theorem Part.writeRecord_inst (s : Part) (b : RecordBody) : (s.writeRecord b).inst = s.inst := rfl
@[simp] theorem Part.writeRecord_vol (s : Part) (b : RecordBody) : (s.writeRecord b).vol = s.vol := rfl
@[simp] theorem Part.writeRecord_train (s : Part) (b : RecordBody) : (s.writeRecord b).train = s.train := rfl
@[simp] theorem Part.writeRecord_det (s : Part) (b : RecordBody) : (s.writeRecord b).det = s.det := rfl
@[simp] theorem Part.writeRecord_planner (s : Part) (b : RecordBody) : (s.writeRecord b).planner = s.planner := rfl
@[simp] theorem Part.writeRecord_outlet (s : Part) (b : RecordBody) : (s.writeRecord b).outlet = s.outlet := rfl
@[simp] theorem Part.writeRecord_guard (s : Part) (b : RecordBody) : (s.writeRecord b).guard = s.guard := rfl
@[simp] theorem Part.writeRecord_bus (s : Part) (b : RecordBody) : (s.writeRecord b).bus = s.bus := rfl
@[simp] theorem Part.writeRecord_peer (s : Part) (b : RecordBody) : (s.writeRecord b).peer = s.peer := rfl
@[simp] theorem Part.writeRecord_image (s : Part) (b : RecordBody) : (s.writeRecord b).image = s.image := rfl
@[simp] theorem Part.writeRecord_port_response (s : Part) (b : RecordBody) :
    (s.writeRecord b).port.response = s.port.response := rfl
@[simp] theorem Part.writeRecord_port_discarded (s : Part) (b : RecordBody) :
    (s.writeRecord b).port.discarded = s.port.discarded := rfl
@[simp] theorem Part.writeRecord_port_alarms (s : Part) (b : RecordBody) :
    (s.writeRecord b).port.alarms = s.port.alarms := rfl
@[simp] theorem Part.writeRecord_port_resetCause (s : Part) (b : RecordBody) :
    (s.writeRecord b).port.resetCause = s.port.resetCause := rfl

@[simp] theorem Part.writeRecord_cfg (s : Part) (b : RecordBody) : (s.writeRecord b).cfg = s.cfg := rfl
@[simp] theorem Part.writeRecord_running (s : Part) (b : RecordBody) : (s.writeRecord b).running = s.running := rfl

/-! ### modBatch -/

@[simp] theorem Part.modBatch_now (s : Part) (b : BatchNo) (f : BatchRecord → BatchRecord) : (s.modBatch b f).now = s.now := rfl
@[simp] theorem Part.modBatch_inst (s : Part) (b : BatchNo) (f : BatchRecord → BatchRecord) : (s.modBatch b f).inst = s.inst := rfl
@[simp] theorem Part.modBatch_vol (s : Part) (b : BatchNo) (f : BatchRecord → BatchRecord) : (s.modBatch b f).vol = s.vol := rfl
@[simp] theorem Part.modBatch_train (s : Part) (b : BatchNo) (f : BatchRecord → BatchRecord) :
    (s.modBatch b f).train = { s.train with records := updateBatch b f s.train.records } := rfl
@[simp] theorem Part.modBatch_det (s : Part) (b : BatchNo) (f : BatchRecord → BatchRecord) : (s.modBatch b f).det = s.det := rfl
@[simp] theorem Part.modBatch_planner (s : Part) (b : BatchNo) (f : BatchRecord → BatchRecord) : (s.modBatch b f).planner = s.planner := rfl
@[simp] theorem Part.modBatch_outlet (s : Part) (b : BatchNo) (f : BatchRecord → BatchRecord) : (s.modBatch b f).outlet = s.outlet := rfl
@[simp] theorem Part.modBatch_guard (s : Part) (b : BatchNo) (f : BatchRecord → BatchRecord) : (s.modBatch b f).guard = s.guard := rfl
@[simp] theorem Part.modBatch_bus (s : Part) (b : BatchNo) (f : BatchRecord → BatchRecord) : (s.modBatch b f).bus = s.bus := rfl
@[simp] theorem Part.modBatch_peer (s : Part) (b : BatchNo) (f : BatchRecord → BatchRecord) : (s.modBatch b f).peer = s.peer := rfl
@[simp] theorem Part.modBatch_port (s : Part) (b : BatchNo) (f : BatchRecord → BatchRecord) : (s.modBatch b f).port = s.port := rfl
@[simp] theorem Part.modBatch_image (s : Part) (b : BatchNo) (f : BatchRecord → BatchRecord) : (s.modBatch b f).image = s.image := rfl

@[simp] theorem Part.modBatch_cfg (s : Part) (b : BatchNo) (f : BatchRecord → BatchRecord) : (s.modBatch b f).cfg = s.cfg := rfl
@[simp] theorem Part.modBatch_running (s : Part) (b : BatchNo) (f : BatchRecord → BatchRecord) : (s.modBatch b f).running = s.running := rfl

/-! ### modHead -/

@[simp] theorem Part.modHead_now (s : Part) (b : BatchNo) (f : HeadInterface → HeadInterface) : (s.modHead b f).now = s.now := rfl
@[simp] theorem Part.modHead_inst (s : Part) (b : BatchNo) (f : HeadInterface → HeadInterface) : (s.modHead b f).inst = s.inst := rfl
@[simp] theorem Part.modHead_vol (s : Part) (b : BatchNo) (f : HeadInterface → HeadInterface) : (s.modHead b f).vol = s.vol := rfl
@[simp] theorem Part.modHead_det (s : Part) (b : BatchNo) (f : HeadInterface → HeadInterface) : (s.modHead b f).det = s.det := rfl
@[simp] theorem Part.modHead_planner (s : Part) (b : BatchNo) (f : HeadInterface → HeadInterface) : (s.modHead b f).planner = s.planner := rfl
@[simp] theorem Part.modHead_outlet (s : Part) (b : BatchNo) (f : HeadInterface → HeadInterface) : (s.modHead b f).outlet = s.outlet := rfl
@[simp] theorem Part.modHead_guard (s : Part) (b : BatchNo) (f : HeadInterface → HeadInterface) : (s.modHead b f).guard = s.guard := rfl
@[simp] theorem Part.modHead_bus (s : Part) (b : BatchNo) (f : HeadInterface → HeadInterface) : (s.modHead b f).bus = s.bus := rfl
@[simp] theorem Part.modHead_peer (s : Part) (b : BatchNo) (f : HeadInterface → HeadInterface) : (s.modHead b f).peer = s.peer := rfl
@[simp] theorem Part.modHead_port (s : Part) (b : BatchNo) (f : HeadInterface → HeadInterface) : (s.modHead b f).port = s.port := rfl
@[simp] theorem Part.modHead_image (s : Part) (b : BatchNo) (f : HeadInterface → HeadInterface) : (s.modHead b f).image = s.image := rfl
@[simp] theorem Part.modHead_train_horizon (s : Part) (b : BatchNo) (f : HeadInterface → HeadInterface) :
    (s.modHead b f).train.horizon = s.train.horizon := rfl

@[simp] theorem Part.modHead_cfg (s : Part) (b : BatchNo) (f : HeadInterface → HeadInterface) : (s.modHead b f).cfg = s.cfg := rfl
@[simp] theorem Part.modHead_running (s : Part) (b : BatchNo) (f : HeadInterface → HeadInterface) : (s.modHead b f).running = s.running := rfl

/-! ### mapTrain -/

@[simp] theorem Part.mapTrain_now (s : Part) (f : List BatchRecord → List BatchRecord) : (s.mapTrain f).now = s.now := rfl
@[simp] theorem Part.mapTrain_inst (s : Part) (f : List BatchRecord → List BatchRecord) : (s.mapTrain f).inst = s.inst := rfl
@[simp] theorem Part.mapTrain_vol (s : Part) (f : List BatchRecord → List BatchRecord) : (s.mapTrain f).vol = s.vol := rfl
@[simp] theorem Part.mapTrain_train (s : Part) (f : List BatchRecord → List BatchRecord) :
    (s.mapTrain f).train = { s.train with records := f s.train.records } := rfl
@[simp] theorem Part.mapTrain_det (s : Part) (f : List BatchRecord → List BatchRecord) : (s.mapTrain f).det = s.det := rfl
@[simp] theorem Part.mapTrain_planner (s : Part) (f : List BatchRecord → List BatchRecord) : (s.mapTrain f).planner = s.planner := rfl
@[simp] theorem Part.mapTrain_outlet (s : Part) (f : List BatchRecord → List BatchRecord) : (s.mapTrain f).outlet = s.outlet := rfl
@[simp] theorem Part.mapTrain_guard (s : Part) (f : List BatchRecord → List BatchRecord) : (s.mapTrain f).guard = s.guard := rfl
@[simp] theorem Part.mapTrain_bus (s : Part) (f : List BatchRecord → List BatchRecord) : (s.mapTrain f).bus = s.bus := rfl
@[simp] theorem Part.mapTrain_peer (s : Part) (f : List BatchRecord → List BatchRecord) : (s.mapTrain f).peer = s.peer := rfl
@[simp] theorem Part.mapTrain_port (s : Part) (f : List BatchRecord → List BatchRecord) : (s.mapTrain f).port = s.port := rfl
@[simp] theorem Part.mapTrain_image (s : Part) (f : List BatchRecord → List BatchRecord) : (s.mapTrain f).image = s.image := rfl

@[simp] theorem Part.mapTrain_cfg (s : Part) (f : List BatchRecord → List BatchRecord) : (s.mapTrain f).cfg = s.cfg := rfl
@[simp] theorem Part.mapTrain_running (s : Part) (f : List BatchRecord → List BatchRecord) : (s.mapTrain f).running = s.running := rfl

/-! ### modStats -/

@[simp] theorem Part.modStats_now (s : Part) (f : LinkStats → LinkStats) : (s.modStats f).now = s.now := rfl
@[simp] theorem Part.modStats_inst (s : Part) (f : LinkStats → LinkStats) : (s.modStats f).inst = s.inst := rfl
@[simp] theorem Part.modStats_vol (s : Part) (f : LinkStats → LinkStats) : (s.modStats f).vol = s.vol := rfl
@[simp] theorem Part.modStats_train (s : Part) (f : LinkStats → LinkStats) : (s.modStats f).train = s.train := rfl
@[simp] theorem Part.modStats_det (s : Part) (f : LinkStats → LinkStats) : (s.modStats f).det = s.det := rfl
@[simp] theorem Part.modStats_planner (s : Part) (f : LinkStats → LinkStats) : (s.modStats f).planner = s.planner := rfl
@[simp] theorem Part.modStats_outlet (s : Part) (f : LinkStats → LinkStats) : (s.modStats f).outlet = s.outlet := rfl
@[simp] theorem Part.modStats_guard (s : Part) (f : LinkStats → LinkStats) : (s.modStats f).guard = s.guard := rfl
@[simp] theorem Part.modStats_bus (s : Part) (f : LinkStats → LinkStats) :
    (s.modStats f).bus = { s.bus with stats := f s.bus.stats } := rfl
@[simp] theorem Part.modStats_peer (s : Part) (f : LinkStats → LinkStats) : (s.modStats f).peer = s.peer := rfl
@[simp] theorem Part.modStats_port (s : Part) (f : LinkStats → LinkStats) : (s.modStats f).port = s.port := rfl
@[simp] theorem Part.modStats_image (s : Part) (f : LinkStats → LinkStats) : (s.modStats f).image = s.image := rfl

@[simp] theorem Part.modStats_cfg (s : Part) (f : LinkStats → LinkStats) : (s.modStats f).cfg = s.cfg := rfl
@[simp] theorem Part.modStats_running (s : Part) (f : LinkStats → LinkStats) : (s.modStats f).running = s.running := rfl

/-! ### failSync -/

@[simp] theorem Part.failSync_now (s : Part) (r : SyncFailure) : (s.failSync r).now = s.now := rfl
@[simp] theorem Part.failSync_inst (s : Part) (r : SyncFailure) : (s.failSync r).inst = s.inst := rfl
@[simp] theorem Part.failSync_vol (s : Part) (r : SyncFailure) : (s.failSync r).vol = s.vol := rfl
@[simp] theorem Part.failSync_train (s : Part) (r : SyncFailure) : (s.failSync r).train = s.train := rfl
@[simp] theorem Part.failSync_det (s : Part) (r : SyncFailure) : (s.failSync r).det = s.det := rfl
@[simp] theorem Part.failSync_planner (s : Part) (r : SyncFailure) : (s.failSync r).planner = s.planner := rfl
@[simp] theorem Part.failSync_outlet (s : Part) (r : SyncFailure) : (s.failSync r).outlet = s.outlet := rfl
@[simp] theorem Part.failSync_guard (s : Part) (r : SyncFailure) : (s.failSync r).guard = s.guard := rfl
@[simp] theorem Part.failSync_bus (s : Part) (r : SyncFailure) : (s.failSync r).bus = s.bus := rfl
@[simp] theorem Part.failSync_port (s : Part) (r : SyncFailure) :
    (s.failSync r).port = s.port.raise .syncFailed := rfl
@[simp] theorem Part.failSync_image (s : Part) (r : SyncFailure) : (s.failSync r).image = s.image := rfl
@[simp] theorem Part.failSync_peer_table (s : Part) (r : SyncFailure) :
    (s.failSync r).peer.table = s.peer.table := rfl
@[simp] theorem Part.failSync_peer_tag (s : Part) (r : SyncFailure) :
    (s.failSync r).peer.tag = s.peer.tag := rfl
@[simp] theorem Part.failSync_peer_strays (s : Part) (r : SyncFailure) :
    (s.failSync r).peer.strays = s.peer.strays := rfl
@[simp] theorem Part.failSync_peer_nextStatus (s : Part) (r : SyncFailure) :
    (s.failSync r).peer.nextStatus = s.peer.nextStatus := rfl

@[simp] theorem Part.failSync_cfg (s : Part) (r : SyncFailure) : (s.failSync r).cfg = s.cfg := rfl
@[simp] theorem Part.failSync_running (s : Part) (r : SyncFailure) : (s.failSync r).running = s.running := rfl

/-! ### modOutlet -/

@[simp] theorem Part.modOutlet_now (s : Part) (f : OutletController → OutletController) : (s.modOutlet f).now = s.now := rfl
@[simp] theorem Part.modOutlet_inst (s : Part) (f : OutletController → OutletController) : (s.modOutlet f).inst = s.inst := rfl
@[simp] theorem Part.modOutlet_vol (s : Part) (f : OutletController → OutletController) : (s.modOutlet f).vol = s.vol := rfl
@[simp] theorem Part.modOutlet_train (s : Part) (f : OutletController → OutletController) : (s.modOutlet f).train = s.train := rfl
@[simp] theorem Part.modOutlet_det (s : Part) (f : OutletController → OutletController) : (s.modOutlet f).det = s.det := rfl
@[simp] theorem Part.modOutlet_planner (s : Part) (f : OutletController → OutletController) : (s.modOutlet f).planner = s.planner := rfl
@[simp] theorem Part.modOutlet_outlet (s : Part) (f : OutletController → OutletController) :
    (s.modOutlet f).outlet = f s.outlet := rfl
@[simp] theorem Part.modOutlet_guard (s : Part) (f : OutletController → OutletController) : (s.modOutlet f).guard = s.guard := rfl
@[simp] theorem Part.modOutlet_bus (s : Part) (f : OutletController → OutletController) : (s.modOutlet f).bus = s.bus := rfl
@[simp] theorem Part.modOutlet_peer (s : Part) (f : OutletController → OutletController) : (s.modOutlet f).peer = s.peer := rfl
@[simp] theorem Part.modOutlet_port (s : Part) (f : OutletController → OutletController) : (s.modOutlet f).port = s.port := rfl
@[simp] theorem Part.modOutlet_image (s : Part) (f : OutletController → OutletController) : (s.modOutlet f).image = s.image := rfl

@[simp] theorem Part.modOutlet_cfg (s : Part) (f : OutletController → OutletController) : (s.modOutlet f).cfg = s.cfg := rfl
@[simp] theorem Part.modOutlet_running (s : Part) (f : OutletController → OutletController) : (s.modOutlet f).running = s.running := rfl

/-! ### command -/

@[simp] theorem Part.command_now (s : Part) (o : Outlet) (c : CommandState) : (s.command o c).now = s.now := rfl
@[simp] theorem Part.command_inst (s : Part) (o : Outlet) (c : CommandState) : (s.command o c).inst = s.inst := rfl
@[simp] theorem Part.command_vol (s : Part) (o : Outlet) (c : CommandState) : (s.command o c).vol = s.vol := rfl
@[simp] theorem Part.command_train (s : Part) (o : Outlet) (c : CommandState) : (s.command o c).train = s.train := rfl
@[simp] theorem Part.command_det (s : Part) (o : Outlet) (c : CommandState) : (s.command o c).det = s.det := rfl
@[simp] theorem Part.command_planner (s : Part) (o : Outlet) (c : CommandState) : (s.command o c).planner = s.planner := rfl
@[simp] theorem Part.command_guard (s : Part) (o : Outlet) (c : CommandState) : (s.command o c).guard = s.guard := rfl
@[simp] theorem Part.command_bus (s : Part) (o : Outlet) (c : CommandState) : (s.command o c).bus = s.bus := rfl
@[simp] theorem Part.command_peer (s : Part) (o : Outlet) (c : CommandState) : (s.command o c).peer = s.peer := rfl
@[simp] theorem Part.command_port (s : Part) (o : Outlet) (c : CommandState) : (s.command o c).port = s.port := rfl
@[simp] theorem Part.command_image (s : Part) (o : Outlet) (c : CommandState) : (s.command o c).image = s.image := rfl
@[simp] theorem Part.command_outlet_mode (s : Part) (o : Outlet) (c : CommandState) :
    (s.command o c).outlet.mode = s.outlet.mode := rfl
@[simp] theorem Part.command_outlet_current (s : Part) (o : Outlet) (c : CommandState) :
    (s.command o c).outlet.current = s.outlet.current := rfl
@[simp] theorem Part.command_outlet_target (s : Part) (o : Outlet) (c : CommandState) :
    (s.command o c).outlet.target = s.outlet.target := rfl
@[simp] theorem Part.command_outlet_planned (s : Part) (o : Outlet) (c : CommandState) :
    (s.command o c).outlet.planned = s.outlet.planned := rfl
@[simp] theorem Part.command_outlet_override (s : Part) (o : Outlet) (c : CommandState) :
    (s.command o c).outlet.override = s.outlet.override := rfl
@[simp] theorem Part.command_outlet_change (s : Part) (o : Outlet) (c : CommandState) :
    (s.command o c).outlet.change = s.outlet.change := rfl
@[simp] theorem Part.command_outlet_pending (s : Part) (o : Outlet) (c : CommandState) :
    (s.command o c).outlet.pending = s.outlet.pending := rfl
@[simp] theorem Part.command_outlet_conflictHold (s : Part) (o : Outlet) (c : CommandState) :
    (s.command o c).outlet.conflictHold = s.outlet.conflictHold := rfl
@[simp] theorem Part.command_outlet_reported (s : Part) (o : Outlet) (c : CommandState) :
    (s.command o c).outlet.reported = s.outlet.reported := rfl
@[simp] theorem Part.command_outlet_wanted (s : Part) (o : Outlet) (c : CommandState) :
    (s.command o c).outlet.wanted = s.outlet.wanted := rfl

@[simp] theorem Part.command_cfg (s : Part) (o : Outlet) (c : CommandState) : (s.command o c).cfg = s.cfg := rfl
@[simp] theorem Part.command_running (s : Part) (o : Outlet) (c : CommandState) : (s.command o c).running = s.running := rfl

/-! ### faultOutlet -/

@[simp] theorem Part.faultOutlet_now (s : Part) (o : Outlet) (f : OutletFault) : (s.faultOutlet o f).now = s.now := rfl
@[simp] theorem Part.faultOutlet_inst (s : Part) (o : Outlet) (f : OutletFault) : (s.faultOutlet o f).inst = s.inst := rfl
@[simp] theorem Part.faultOutlet_vol (s : Part) (o : Outlet) (f : OutletFault) : (s.faultOutlet o f).vol = s.vol := rfl
@[simp] theorem Part.faultOutlet_train (s : Part) (o : Outlet) (f : OutletFault) : (s.faultOutlet o f).train = s.train := rfl
@[simp] theorem Part.faultOutlet_det (s : Part) (o : Outlet) (f : OutletFault) : (s.faultOutlet o f).det = s.det := rfl
@[simp] theorem Part.faultOutlet_planner (s : Part) (o : Outlet) (f : OutletFault) : (s.faultOutlet o f).planner = s.planner := rfl
@[simp] theorem Part.faultOutlet_guard (s : Part) (o : Outlet) (f : OutletFault) : (s.faultOutlet o f).guard = s.guard := rfl
@[simp] theorem Part.faultOutlet_bus (s : Part) (o : Outlet) (f : OutletFault) : (s.faultOutlet o f).bus = s.bus := rfl
@[simp] theorem Part.faultOutlet_peer (s : Part) (o : Outlet) (f : OutletFault) : (s.faultOutlet o f).peer = s.peer := rfl
@[simp] theorem Part.faultOutlet_port (s : Part) (o : Outlet) (f : OutletFault) :
    (s.faultOutlet o f).port = s.port.raise .valveFault := rfl
@[simp] theorem Part.faultOutlet_image (s : Part) (o : Outlet) (f : OutletFault) : (s.faultOutlet o f).image = s.image := rfl
@[simp] theorem Part.faultOutlet_outlet_mode (s : Part) (o : Outlet) (f : OutletFault) :
    (s.faultOutlet o f).outlet.mode = s.outlet.mode := rfl
@[simp] theorem Part.faultOutlet_outlet_current (s : Part) (o : Outlet) (f : OutletFault) :
    (s.faultOutlet o f).outlet.current = s.outlet.current := rfl
@[simp] theorem Part.faultOutlet_outlet_target (s : Part) (o : Outlet) (f : OutletFault) :
    (s.faultOutlet o f).outlet.target = s.outlet.target := rfl
@[simp] theorem Part.faultOutlet_outlet_planned (s : Part) (o : Outlet) (f : OutletFault) :
    (s.faultOutlet o f).outlet.planned = s.outlet.planned := rfl
@[simp] theorem Part.faultOutlet_outlet_override (s : Part) (o : Outlet) (f : OutletFault) :
    (s.faultOutlet o f).outlet.override = s.outlet.override := rfl
@[simp] theorem Part.faultOutlet_outlet_change (s : Part) (o : Outlet) (f : OutletFault) :
    (s.faultOutlet o f).outlet.change = s.outlet.change := rfl
@[simp] theorem Part.faultOutlet_outlet_pending (s : Part) (o : Outlet) (f : OutletFault) :
    (s.faultOutlet o f).outlet.pending = s.outlet.pending := rfl
@[simp] theorem Part.faultOutlet_outlet_conflictHold (s : Part) (o : Outlet) (f : OutletFault) :
    (s.faultOutlet o f).outlet.conflictHold = s.outlet.conflictHold := rfl
@[simp] theorem Part.faultOutlet_outlet_reported (s : Part) (o : Outlet) (f : OutletFault) :
    (s.faultOutlet o f).outlet.reported = s.outlet.reported := rfl
@[simp] theorem Part.faultOutlet_outlet_wanted (s : Part) (o : Outlet) (f : OutletFault) :
    (s.faultOutlet o f).outlet.wanted = s.outlet.wanted := rfl

@[simp] theorem Part.faultOutlet_cfg (s : Part) (o : Outlet) (f : OutletFault) : (s.faultOutlet o f).cfg = s.cfg := rfl
@[simp] theorem Part.faultOutlet_running (s : Part) (o : Outlet) (f : OutletFault) : (s.faultOutlet o f).running = s.running := rfl

/-! ### markStuck -/

@[simp] theorem Part.markStuck_now (s : Part) (o : Outlet) (b : Bool) : (s.markStuck o b).now = s.now := rfl
@[simp] theorem Part.markStuck_inst (s : Part) (o : Outlet) (b : Bool) : (s.markStuck o b).inst = s.inst := rfl
@[simp] theorem Part.markStuck_vol (s : Part) (o : Outlet) (b : Bool) : (s.markStuck o b).vol = s.vol := rfl
@[simp] theorem Part.markStuck_train (s : Part) (o : Outlet) (b : Bool) : (s.markStuck o b).train = s.train := rfl
@[simp] theorem Part.markStuck_det (s : Part) (o : Outlet) (b : Bool) : (s.markStuck o b).det = s.det := rfl
@[simp] theorem Part.markStuck_planner (s : Part) (o : Outlet) (b : Bool) : (s.markStuck o b).planner = s.planner := rfl
@[simp] theorem Part.markStuck_guard (s : Part) (o : Outlet) (b : Bool) : (s.markStuck o b).guard = s.guard := rfl
@[simp] theorem Part.markStuck_bus (s : Part) (o : Outlet) (b : Bool) : (s.markStuck o b).bus = s.bus := rfl
@[simp] theorem Part.markStuck_peer (s : Part) (o : Outlet) (b : Bool) : (s.markStuck o b).peer = s.peer := rfl
@[simp] theorem Part.markStuck_port (s : Part) (o : Outlet) (b : Bool) : (s.markStuck o b).port = s.port := rfl
@[simp] theorem Part.markStuck_image (s : Part) (o : Outlet) (b : Bool) : (s.markStuck o b).image = s.image := rfl
@[simp] theorem Part.markStuck_outlet_mode (s : Part) (o : Outlet) (b : Bool) :
    (s.markStuck o b).outlet.mode = s.outlet.mode := rfl
@[simp] theorem Part.markStuck_outlet_current (s : Part) (o : Outlet) (b : Bool) :
    (s.markStuck o b).outlet.current = s.outlet.current := rfl
@[simp] theorem Part.markStuck_outlet_target (s : Part) (o : Outlet) (b : Bool) :
    (s.markStuck o b).outlet.target = s.outlet.target := rfl
@[simp] theorem Part.markStuck_outlet_planned (s : Part) (o : Outlet) (b : Bool) :
    (s.markStuck o b).outlet.planned = s.outlet.planned := rfl
@[simp] theorem Part.markStuck_outlet_override (s : Part) (o : Outlet) (b : Bool) :
    (s.markStuck o b).outlet.override = s.outlet.override := rfl
@[simp] theorem Part.markStuck_outlet_change (s : Part) (o : Outlet) (b : Bool) :
    (s.markStuck o b).outlet.change = s.outlet.change := rfl
@[simp] theorem Part.markStuck_outlet_pending (s : Part) (o : Outlet) (b : Bool) :
    (s.markStuck o b).outlet.pending = s.outlet.pending := rfl
@[simp] theorem Part.markStuck_outlet_conflictHold (s : Part) (o : Outlet) (b : Bool) :
    (s.markStuck o b).outlet.conflictHold = s.outlet.conflictHold := rfl
@[simp] theorem Part.markStuck_outlet_reported (s : Part) (o : Outlet) (b : Bool) :
    (s.markStuck o b).outlet.reported = s.outlet.reported := rfl
@[simp] theorem Part.markStuck_outlet_wanted (s : Part) (o : Outlet) (b : Bool) :
    (s.markStuck o b).outlet.wanted = s.outlet.wanted := rfl

@[simp] theorem Part.markStuck_cfg (s : Part) (o : Outlet) (b : Bool) : (s.markStuck o b).cfg = s.cfg := rfl
@[simp] theorem Part.markStuck_running (s : Part) (o : Outlet) (b : Bool) : (s.markStuck o b).running = s.running := rfl

/-! ### finish -/

@[simp] theorem Part.finish_now (s : Part) (r : CurrentRoute) : (s.finish r).now = s.now := rfl
@[simp] theorem Part.finish_inst (s : Part) (r : CurrentRoute) : (s.finish r).inst = s.inst := rfl
@[simp] theorem Part.finish_vol (s : Part) (r : CurrentRoute) : (s.finish r).vol = s.vol := rfl
@[simp] theorem Part.finish_train (s : Part) (r : CurrentRoute) : (s.finish r).train = s.train := rfl
@[simp] theorem Part.finish_det (s : Part) (r : CurrentRoute) : (s.finish r).det = s.det := rfl
@[simp] theorem Part.finish_planner (s : Part) (r : CurrentRoute) : (s.finish r).planner = s.planner := rfl
@[simp] theorem Part.finish_outlet (s : Part) (r : CurrentRoute) :
    (s.finish r).outlet = { s.outlet with change := none, current := r } := rfl
@[simp] theorem Part.finish_guard (s : Part) (r : CurrentRoute) : (s.finish r).guard = s.guard := rfl
@[simp] theorem Part.finish_bus (s : Part) (r : CurrentRoute) : (s.finish r).bus = s.bus := rfl
@[simp] theorem Part.finish_peer (s : Part) (r : CurrentRoute) : (s.finish r).peer = s.peer := rfl
@[simp] theorem Part.finish_port (s : Part) (r : CurrentRoute) : (s.finish r).port = s.port := rfl
@[simp] theorem Part.finish_image (s : Part) (r : CurrentRoute) : (s.finish r).image = s.image := rfl

@[simp] theorem Part.finish_cfg (s : Part) (r : CurrentRoute) : (s.finish r).cfg = s.cfg := rfl
@[simp] theorem Part.finish_running (s : Part) (r : CurrentRoute) : (s.finish r).running = s.running := rfl

/-! ### inFlight -/

@[simp] theorem Part.inFlight_now (s : Part) (src : CurrentRoute) (target : Route) (ph : ChangePhase) : (s.inFlight src target ph).now = s.now := rfl
@[simp] theorem Part.inFlight_inst (s : Part) (src : CurrentRoute) (target : Route) (ph : ChangePhase) : (s.inFlight src target ph).inst = s.inst := rfl
@[simp] theorem Part.inFlight_vol (s : Part) (src : CurrentRoute) (target : Route) (ph : ChangePhase) : (s.inFlight src target ph).vol = s.vol := rfl
@[simp] theorem Part.inFlight_train (s : Part) (src : CurrentRoute) (target : Route) (ph : ChangePhase) : (s.inFlight src target ph).train = s.train := rfl
@[simp] theorem Part.inFlight_det (s : Part) (src : CurrentRoute) (target : Route) (ph : ChangePhase) : (s.inFlight src target ph).det = s.det := rfl
@[simp] theorem Part.inFlight_planner (s : Part) (src : CurrentRoute) (target : Route) (ph : ChangePhase) : (s.inFlight src target ph).planner = s.planner := rfl
@[simp] theorem Part.inFlight_guard (s : Part) (src : CurrentRoute) (target : Route) (ph : ChangePhase) : (s.inFlight src target ph).guard = s.guard := rfl
@[simp] theorem Part.inFlight_bus (s : Part) (src : CurrentRoute) (target : Route) (ph : ChangePhase) : (s.inFlight src target ph).bus = s.bus := rfl
@[simp] theorem Part.inFlight_peer (s : Part) (src : CurrentRoute) (target : Route) (ph : ChangePhase) : (s.inFlight src target ph).peer = s.peer := rfl
@[simp] theorem Part.inFlight_port (s : Part) (src : CurrentRoute) (target : Route) (ph : ChangePhase) : (s.inFlight src target ph).port = s.port := rfl
@[simp] theorem Part.inFlight_image (s : Part) (src : CurrentRoute) (target : Route) (ph : ChangePhase) : (s.inFlight src target ph).image = s.image := rfl
@[simp] theorem Part.inFlight_outlet_mode (s : Part) (src : CurrentRoute) (target : Route) (ph : ChangePhase) :
    (s.inFlight src target ph).outlet.mode = s.outlet.mode := rfl
@[simp] theorem Part.inFlight_outlet_current (s : Part) (src : CurrentRoute) (target : Route) (ph : ChangePhase) :
    (s.inFlight src target ph).outlet.current = s.outlet.current := rfl
@[simp] theorem Part.inFlight_outlet_target (s : Part) (src : CurrentRoute) (target : Route) (ph : ChangePhase) :
    (s.inFlight src target ph).outlet.target = s.outlet.target := rfl
@[simp] theorem Part.inFlight_outlet_planned (s : Part) (src : CurrentRoute) (target : Route) (ph : ChangePhase) :
    (s.inFlight src target ph).outlet.planned = s.outlet.planned := rfl
@[simp] theorem Part.inFlight_outlet_override (s : Part) (src : CurrentRoute) (target : Route) (ph : ChangePhase) :
    (s.inFlight src target ph).outlet.override = s.outlet.override := rfl
@[simp] theorem Part.inFlight_outlet_pending (s : Part) (src : CurrentRoute) (target : Route) (ph : ChangePhase) :
    (s.inFlight src target ph).outlet.pending = s.outlet.pending := rfl
@[simp] theorem Part.inFlight_outlet_outlets (s : Part) (src : CurrentRoute) (target : Route) (ph : ChangePhase) :
    (s.inFlight src target ph).outlet.outlets = s.outlet.outlets := rfl
@[simp] theorem Part.inFlight_outlet_conflictHold (s : Part) (src : CurrentRoute) (target : Route) (ph : ChangePhase) :
    (s.inFlight src target ph).outlet.conflictHold = s.outlet.conflictHold := rfl
@[simp] theorem Part.inFlight_outlet_reported (s : Part) (src : CurrentRoute) (target : Route) (ph : ChangePhase) :
    (s.inFlight src target ph).outlet.reported = s.outlet.reported := rfl
@[simp] theorem Part.inFlight_outlet_wanted (s : Part) (src : CurrentRoute) (target : Route) (ph : ChangePhase) :
    (s.inFlight src target ph).outlet.wanted = s.outlet.wanted := rfl

@[simp] theorem Part.inFlight_cfg (s : Part) (src : CurrentRoute) (target : Route) (ph : ChangePhase) : (s.inFlight src target ph).cfg = s.cfg := rfl
@[simp] theorem Part.inFlight_running (s : Part) (src : CurrentRoute) (target : Route) (ph : ChangePhase) : (s.inFlight src target ph).running = s.running := rfl

/-! ### modPlanner -/

@[simp] theorem Part.modPlanner_now (s : Part) (f : Planner → Planner) : (s.modPlanner f).now = s.now := rfl
@[simp] theorem Part.modPlanner_inst (s : Part) (f : Planner → Planner) : (s.modPlanner f).inst = s.inst := rfl
@[simp] theorem Part.modPlanner_vol (s : Part) (f : Planner → Planner) : (s.modPlanner f).vol = s.vol := rfl
@[simp] theorem Part.modPlanner_train (s : Part) (f : Planner → Planner) : (s.modPlanner f).train = s.train := rfl
@[simp] theorem Part.modPlanner_det (s : Part) (f : Planner → Planner) : (s.modPlanner f).det = s.det := rfl
@[simp] theorem Part.modPlanner_planner (s : Part) (f : Planner → Planner) :
    (s.modPlanner f).planner = f s.planner := rfl
@[simp] theorem Part.modPlanner_outlet (s : Part) (f : Planner → Planner) : (s.modPlanner f).outlet = s.outlet := rfl
@[simp] theorem Part.modPlanner_guard (s : Part) (f : Planner → Planner) : (s.modPlanner f).guard = s.guard := rfl
@[simp] theorem Part.modPlanner_bus (s : Part) (f : Planner → Planner) : (s.modPlanner f).bus = s.bus := rfl
@[simp] theorem Part.modPlanner_peer (s : Part) (f : Planner → Planner) : (s.modPlanner f).peer = s.peer := rfl
@[simp] theorem Part.modPlanner_port (s : Part) (f : Planner → Planner) : (s.modPlanner f).port = s.port := rfl
@[simp] theorem Part.modPlanner_image (s : Part) (f : Planner → Planner) : (s.modPlanner f).image = s.image := rfl

@[simp] theorem Part.modPlanner_cfg (s : Part) (f : Planner → Planner) : (s.modPlanner f).cfg = s.cfg := rfl
@[simp] theorem Part.modPlanner_running (s : Part) (f : Planner → Planner) : (s.modPlanner f).running = s.running := rfl

/-! ### setPlanned -/

@[simp] theorem Part.setPlanned_now (s : Part) (r : Route) : (s.setPlanned r).now = s.now := rfl
@[simp] theorem Part.setPlanned_inst (s : Part) (r : Route) : (s.setPlanned r).inst = s.inst := rfl
@[simp] theorem Part.setPlanned_vol (s : Part) (r : Route) : (s.setPlanned r).vol = s.vol := rfl
@[simp] theorem Part.setPlanned_train (s : Part) (r : Route) : (s.setPlanned r).train = s.train := rfl
@[simp] theorem Part.setPlanned_det (s : Part) (r : Route) : (s.setPlanned r).det = s.det := rfl
@[simp] theorem Part.setPlanned_planner (s : Part) (r : Route) :
    (s.setPlanned r).planner = { s.planner with planned := some r } := rfl
@[simp] theorem Part.setPlanned_outlet (s : Part) (r : Route) : (s.setPlanned r).outlet = s.outlet := rfl
@[simp] theorem Part.setPlanned_guard (s : Part) (r : Route) : (s.setPlanned r).guard = s.guard := rfl
@[simp] theorem Part.setPlanned_bus (s : Part) (r : Route) : (s.setPlanned r).bus = s.bus := rfl
@[simp] theorem Part.setPlanned_peer (s : Part) (r : Route) : (s.setPlanned r).peer = s.peer := rfl
@[simp] theorem Part.setPlanned_port (s : Part) (r : Route) : (s.setPlanned r).port = s.port := rfl
@[simp] theorem Part.setPlanned_image (s : Part) (r : Route) : (s.setPlanned r).image = s.image := rfl

@[simp] theorem Part.setPlanned_cfg (s : Part) (r : Route) : (s.setPlanned r).cfg = s.cfg := rfl
@[simp] theorem Part.setPlanned_running (s : Part) (r : Route) : (s.setPlanned r).running = s.running := rfl

/-! ### turnFilling -/

@[simp] theorem Part.turnFilling_now (s : Part) (n : Nat) : (s.turnFilling n).now = s.now := rfl
@[simp] theorem Part.turnFilling_inst (s : Part) (n : Nat) : (s.turnFilling n).inst = s.inst := rfl
@[simp] theorem Part.turnFilling_vol (s : Part) (n : Nat) :
    (s.turnFilling n).vol = { s.vol with tally := 0 } := rfl
@[simp] theorem Part.turnFilling_train (s : Part) (n : Nat) : (s.turnFilling n).train = s.train := rfl
@[simp] theorem Part.turnFilling_det (s : Part) (n : Nat) : (s.turnFilling n).det = s.det := rfl
@[simp] theorem Part.turnFilling_outlet (s : Part) (n : Nat) : (s.turnFilling n).outlet = s.outlet := rfl
@[simp] theorem Part.turnFilling_guard (s : Part) (n : Nat) : (s.turnFilling n).guard = s.guard := rfl
@[simp] theorem Part.turnFilling_bus (s : Part) (n : Nat) : (s.turnFilling n).bus = s.bus := rfl
@[simp] theorem Part.turnFilling_peer (s : Part) (n : Nat) : (s.turnFilling n).peer = s.peer := rfl
@[simp] theorem Part.turnFilling_port (s : Part) (n : Nat) : (s.turnFilling n).port = s.port := rfl
@[simp] theorem Part.turnFilling_image (s : Part) (n : Nat) : (s.turnFilling n).image = s.image := rfl
@[simp] theorem Part.turnFilling_planner_nextOrder (s : Part) (n : Nat) :
    (s.turnFilling n).planner.nextOrder = s.planner.nextOrder := rfl
@[simp] theorem Part.turnFilling_planner_launches (s : Part) (n : Nat) :
    (s.turnFilling n).planner.launches = s.planner.launches := rfl
@[simp] theorem Part.turnFilling_planner_current (s : Part) (n : Nat) :
    (s.turnFilling n).planner.current = s.planner.current := rfl
@[simp] theorem Part.turnFilling_planner_incoming (s : Part) (n : Nat) :
    (s.turnFilling n).planner.incoming = s.planner.incoming := rfl
@[simp] theorem Part.turnFilling_planner_emptyShown (s : Part) (n : Nat) :
    (s.turnFilling n).planner.emptyShown = s.planner.emptyShown := rfl
@[simp] theorem Part.turnFilling_planner_planned (s : Part) (n : Nat) :
    (s.turnFilling n).planner.planned = s.planner.planned := rfl

@[simp] theorem Part.turnFilling_cfg (s : Part) (n : Nat) : (s.turnFilling n).cfg = s.cfg := rfl
@[simp] theorem Part.turnFilling_running (s : Part) (n : Nat) : (s.turnFilling n).running = s.running := rfl

/-! ### addLaunched -/

@[simp] theorem Part.addLaunched_now (s : Part) (n : Nat) : (s.addLaunched n).now = s.now := rfl
@[simp] theorem Part.addLaunched_inst (s : Part) (n : Nat) : (s.addLaunched n).inst = s.inst := rfl
@[simp] theorem Part.addLaunched_vol (s : Part) (n : Nat) : (s.addLaunched n).vol = s.vol := rfl
@[simp] theorem Part.addLaunched_train (s : Part) (n : Nat) : (s.addLaunched n).train = s.train := rfl
@[simp] theorem Part.addLaunched_det (s : Part) (n : Nat) : (s.addLaunched n).det = s.det := rfl
@[simp] theorem Part.addLaunched_outlet (s : Part) (n : Nat) : (s.addLaunched n).outlet = s.outlet := rfl
@[simp] theorem Part.addLaunched_guard (s : Part) (n : Nat) : (s.addLaunched n).guard = s.guard := rfl
@[simp] theorem Part.addLaunched_bus (s : Part) (n : Nat) : (s.addLaunched n).bus = s.bus := rfl
@[simp] theorem Part.addLaunched_peer (s : Part) (n : Nat) : (s.addLaunched n).peer = s.peer := rfl
@[simp] theorem Part.addLaunched_port (s : Part) (n : Nat) : (s.addLaunched n).port = s.port := rfl
@[simp] theorem Part.addLaunched_image (s : Part) (n : Nat) : (s.addLaunched n).image = s.image := rfl
@[simp] theorem Part.addLaunched_planner_orders (s : Part) (n : Nat) :
    (s.addLaunched n).planner.orders = s.planner.orders := rfl
@[simp] theorem Part.addLaunched_planner_nextOrder (s : Part) (n : Nat) :
    (s.addLaunched n).planner.nextOrder = s.planner.nextOrder := rfl
@[simp] theorem Part.addLaunched_planner_launches (s : Part) (n : Nat) :
    (s.addLaunched n).planner.launches = s.planner.launches := rfl
@[simp] theorem Part.addLaunched_planner_incoming (s : Part) (n : Nat) :
    (s.addLaunched n).planner.incoming = s.planner.incoming := rfl
@[simp] theorem Part.addLaunched_planner_emptyShown (s : Part) (n : Nat) :
    (s.addLaunched n).planner.emptyShown = s.planner.emptyShown := rfl
@[simp] theorem Part.addLaunched_planner_planned (s : Part) (n : Nat) :
    (s.addLaunched n).planner.planned = s.planner.planned := rfl

@[simp] theorem Part.addLaunched_cfg (s : Part) (n : Nat) : (s.addLaunched n).cfg = s.cfg := rfl
@[simp] theorem Part.addLaunched_running (s : Part) (n : Nat) : (s.addLaunched n).running = s.running := rfl

/-! ### modDet -/

@[simp] theorem Part.modDet_now (s : Part) (f : Detector → Detector) : (s.modDet f).now = s.now := rfl
@[simp] theorem Part.modDet_inst (s : Part) (f : Detector → Detector) : (s.modDet f).inst = s.inst := rfl
@[simp] theorem Part.modDet_vol (s : Part) (f : Detector → Detector) : (s.modDet f).vol = s.vol := rfl
@[simp] theorem Part.modDet_train (s : Part) (f : Detector → Detector) : (s.modDet f).train = s.train := rfl
@[simp] theorem Part.modDet_det (s : Part) (f : Detector → Detector) :
    (s.modDet f).det = f s.det := rfl
@[simp] theorem Part.modDet_planner (s : Part) (f : Detector → Detector) : (s.modDet f).planner = s.planner := rfl
@[simp] theorem Part.modDet_outlet (s : Part) (f : Detector → Detector) : (s.modDet f).outlet = s.outlet := rfl
@[simp] theorem Part.modDet_guard (s : Part) (f : Detector → Detector) : (s.modDet f).guard = s.guard := rfl
@[simp] theorem Part.modDet_bus (s : Part) (f : Detector → Detector) : (s.modDet f).bus = s.bus := rfl
@[simp] theorem Part.modDet_peer (s : Part) (f : Detector → Detector) : (s.modDet f).peer = s.peer := rfl
@[simp] theorem Part.modDet_port (s : Part) (f : Detector → Detector) : (s.modDet f).port = s.port := rfl
@[simp] theorem Part.modDet_image (s : Part) (f : Detector → Detector) : (s.modDet f).image = s.image := rfl

@[simp] theorem Part.modDet_cfg (s : Part) (f : Detector → Detector) : (s.modDet f).cfg = s.cfg := rfl
@[simp] theorem Part.modDet_running (s : Part) (f : Detector → Detector) : (s.modDet f).running = s.running := rfl

/-! ### zeroCounts -/

@[simp] theorem Part.zeroCounts_now (s : Part) : (s.zeroCounts).now = s.now := rfl
@[simp] theorem Part.zeroCounts_inst (s : Part) : (s.zeroCounts).inst = s.inst := rfl
@[simp] theorem Part.zeroCounts_vol (s : Part) : (s.zeroCounts).vol = s.vol := rfl
@[simp] theorem Part.zeroCounts_train (s : Part) : (s.zeroCounts).train = s.train := rfl
@[simp] theorem Part.zeroCounts_det (s : Part) :
    (s.zeroCounts).det = { s.det with leadCount := 0, midCount := 0, trailCount := 0, breakRun := 0 } := rfl
@[simp] theorem Part.zeroCounts_planner (s : Part) : (s.zeroCounts).planner = s.planner := rfl
@[simp] theorem Part.zeroCounts_outlet (s : Part) : (s.zeroCounts).outlet = s.outlet := rfl
@[simp] theorem Part.zeroCounts_guard (s : Part) : (s.zeroCounts).guard = s.guard := rfl
@[simp] theorem Part.zeroCounts_bus (s : Part) : (s.zeroCounts).bus = s.bus := rfl
@[simp] theorem Part.zeroCounts_peer (s : Part) : (s.zeroCounts).peer = s.peer := rfl
@[simp] theorem Part.zeroCounts_port (s : Part) : (s.zeroCounts).port = s.port := rfl
@[simp] theorem Part.zeroCounts_image (s : Part) : (s.zeroCounts).image = s.image := rfl

@[simp] theorem Part.zeroCounts_cfg (s : Part) : (s.zeroCounts).cfg = s.cfg := rfl
@[simp] theorem Part.zeroCounts_running (s : Part) : (s.zeroCounts).running = s.running := rfl

/-! ### modInst -/

@[simp] theorem Part.modInst_now (s : Part) (f : Instruments → Instruments) : (s.modInst f).now = s.now := rfl
@[simp] theorem Part.modInst_inst (s : Part) (f : Instruments → Instruments) :
    (s.modInst f).inst = f s.inst := rfl
@[simp] theorem Part.modInst_vol (s : Part) (f : Instruments → Instruments) : (s.modInst f).vol = s.vol := rfl
@[simp] theorem Part.modInst_train (s : Part) (f : Instruments → Instruments) : (s.modInst f).train = s.train := rfl
@[simp] theorem Part.modInst_det (s : Part) (f : Instruments → Instruments) : (s.modInst f).det = s.det := rfl
@[simp] theorem Part.modInst_planner (s : Part) (f : Instruments → Instruments) : (s.modInst f).planner = s.planner := rfl
@[simp] theorem Part.modInst_outlet (s : Part) (f : Instruments → Instruments) : (s.modInst f).outlet = s.outlet := rfl
@[simp] theorem Part.modInst_guard (s : Part) (f : Instruments → Instruments) : (s.modInst f).guard = s.guard := rfl
@[simp] theorem Part.modInst_bus (s : Part) (f : Instruments → Instruments) : (s.modInst f).bus = s.bus := rfl
@[simp] theorem Part.modInst_peer (s : Part) (f : Instruments → Instruments) : (s.modInst f).peer = s.peer := rfl
@[simp] theorem Part.modInst_port (s : Part) (f : Instruments → Instruments) : (s.modInst f).port = s.port := rfl
@[simp] theorem Part.modInst_image (s : Part) (f : Instruments → Instruments) : (s.modInst f).image = s.image := rfl

@[simp] theorem Part.modInst_cfg (s : Part) (f : Instruments → Instruments) : (s.modInst f).cfg = s.cfg := rfl
@[simp] theorem Part.modInst_running (s : Part) (f : Instruments → Instruments) : (s.modInst f).running = s.running := rfl

/-! ### openRequest -/

@[simp] theorem Part.openRequest_now (s : Part) (m : Nat) : (s.openRequest m).now = s.now := rfl
@[simp] theorem Part.openRequest_vol (s : Part) (m : Nat) : (s.openRequest m).vol = s.vol := rfl
@[simp] theorem Part.openRequest_train (s : Part) (m : Nat) : (s.openRequest m).train = s.train := rfl
@[simp] theorem Part.openRequest_det (s : Part) (m : Nat) : (s.openRequest m).det = s.det := rfl
@[simp] theorem Part.openRequest_planner (s : Part) (m : Nat) : (s.openRequest m).planner = s.planner := rfl
@[simp] theorem Part.openRequest_outlet (s : Part) (m : Nat) : (s.openRequest m).outlet = s.outlet := rfl
@[simp] theorem Part.openRequest_guard (s : Part) (m : Nat) : (s.openRequest m).guard = s.guard := rfl
@[simp] theorem Part.openRequest_bus (s : Part) (m : Nat) : (s.openRequest m).bus = s.bus := rfl
@[simp] theorem Part.openRequest_peer (s : Part) (m : Nat) : (s.openRequest m).peer = s.peer := rfl
@[simp] theorem Part.openRequest_port (s : Part) (m : Nat) : (s.openRequest m).port = s.port := rfl
@[simp] theorem Part.openRequest_image (s : Part) (m : Nat) : (s.openRequest m).image = s.image := rfl

@[simp] theorem Part.openRequest_cfg (s : Part) (m : Nat) : (s.openRequest m).cfg = s.cfg := rfl
@[simp] theorem Part.openRequest_running (s : Part) (m : Nat) : (s.openRequest m).running = s.running := rfl

/-! ### modPeer -/

@[simp] theorem Part.modPeer_now (s : Part) (f : PeerMonitor → PeerMonitor) : (s.modPeer f).now = s.now := rfl
@[simp] theorem Part.modPeer_inst (s : Part) (f : PeerMonitor → PeerMonitor) : (s.modPeer f).inst = s.inst := rfl
@[simp] theorem Part.modPeer_vol (s : Part) (f : PeerMonitor → PeerMonitor) : (s.modPeer f).vol = s.vol := rfl
@[simp] theorem Part.modPeer_train (s : Part) (f : PeerMonitor → PeerMonitor) : (s.modPeer f).train = s.train := rfl
@[simp] theorem Part.modPeer_det (s : Part) (f : PeerMonitor → PeerMonitor) : (s.modPeer f).det = s.det := rfl
@[simp] theorem Part.modPeer_planner (s : Part) (f : PeerMonitor → PeerMonitor) : (s.modPeer f).planner = s.planner := rfl
@[simp] theorem Part.modPeer_outlet (s : Part) (f : PeerMonitor → PeerMonitor) : (s.modPeer f).outlet = s.outlet := rfl
@[simp] theorem Part.modPeer_guard (s : Part) (f : PeerMonitor → PeerMonitor) : (s.modPeer f).guard = s.guard := rfl
@[simp] theorem Part.modPeer_bus (s : Part) (f : PeerMonitor → PeerMonitor) : (s.modPeer f).bus = s.bus := rfl
@[simp] theorem Part.modPeer_peer (s : Part) (f : PeerMonitor → PeerMonitor) :
    (s.modPeer f).peer = f s.peer := rfl
@[simp] theorem Part.modPeer_port (s : Part) (f : PeerMonitor → PeerMonitor) : (s.modPeer f).port = s.port := rfl
@[simp] theorem Part.modPeer_image (s : Part) (f : PeerMonitor → PeerMonitor) : (s.modPeer f).image = s.image := rfl

@[simp] theorem Part.modPeer_cfg (s : Part) (f : PeerMonitor → PeerMonitor) : (s.modPeer f).cfg = s.cfg := rfl
@[simp] theorem Part.modPeer_running (s : Part) (f : PeerMonitor → PeerMonitor) : (s.modPeer f).running = s.running := rfl

/-! ### modEntry -/

@[simp] theorem Part.modEntry_now (s : Part) (n : Nat) (f : PeerEntry → PeerEntry) : (s.modEntry n f).now = s.now := rfl
@[simp] theorem Part.modEntry_inst (s : Part) (n : Nat) (f : PeerEntry → PeerEntry) : (s.modEntry n f).inst = s.inst := rfl
@[simp] theorem Part.modEntry_vol (s : Part) (n : Nat) (f : PeerEntry → PeerEntry) : (s.modEntry n f).vol = s.vol := rfl
@[simp] theorem Part.modEntry_train (s : Part) (n : Nat) (f : PeerEntry → PeerEntry) : (s.modEntry n f).train = s.train := rfl
@[simp] theorem Part.modEntry_det (s : Part) (n : Nat) (f : PeerEntry → PeerEntry) : (s.modEntry n f).det = s.det := rfl
@[simp] theorem Part.modEntry_planner (s : Part) (n : Nat) (f : PeerEntry → PeerEntry) : (s.modEntry n f).planner = s.planner := rfl
@[simp] theorem Part.modEntry_outlet (s : Part) (n : Nat) (f : PeerEntry → PeerEntry) : (s.modEntry n f).outlet = s.outlet := rfl
@[simp] theorem Part.modEntry_guard (s : Part) (n : Nat) (f : PeerEntry → PeerEntry) : (s.modEntry n f).guard = s.guard := rfl
@[simp] theorem Part.modEntry_bus (s : Part) (n : Nat) (f : PeerEntry → PeerEntry) : (s.modEntry n f).bus = s.bus := rfl
@[simp] theorem Part.modEntry_peer (s : Part) (n : Nat) (f : PeerEntry → PeerEntry) :
    (s.modEntry n f).peer = { s.peer with table := updatePeer n f s.peer.table } := rfl
@[simp] theorem Part.modEntry_port (s : Part) (n : Nat) (f : PeerEntry → PeerEntry) : (s.modEntry n f).port = s.port := rfl
@[simp] theorem Part.modEntry_image (s : Part) (n : Nat) (f : PeerEntry → PeerEntry) : (s.modEntry n f).image = s.image := rfl

@[simp] theorem Part.modEntry_cfg (s : Part) (n : Nat) (f : PeerEntry → PeerEntry) : (s.modEntry n f).cfg = s.cfg := rfl
@[simp] theorem Part.modEntry_running (s : Part) (n : Nat) (f : PeerEntry → PeerEntry) : (s.modEntry n f).running = s.running := rfl

/-! ### renewExpiry -/

@[simp] theorem Part.renewExpiry_now (s : Part) (n : Nat) : (s.renewExpiry n).now = s.now := rfl
@[simp] theorem Part.renewExpiry_inst (s : Part) (n : Nat) : (s.renewExpiry n).inst = s.inst := rfl
@[simp] theorem Part.renewExpiry_vol (s : Part) (n : Nat) : (s.renewExpiry n).vol = s.vol := rfl
@[simp] theorem Part.renewExpiry_train (s : Part) (n : Nat) : (s.renewExpiry n).train = s.train := rfl
@[simp] theorem Part.renewExpiry_det (s : Part) (n : Nat) : (s.renewExpiry n).det = s.det := rfl
@[simp] theorem Part.renewExpiry_planner (s : Part) (n : Nat) : (s.renewExpiry n).planner = s.planner := rfl
@[simp] theorem Part.renewExpiry_outlet (s : Part) (n : Nat) : (s.renewExpiry n).outlet = s.outlet := rfl
@[simp] theorem Part.renewExpiry_guard (s : Part) (n : Nat) : (s.renewExpiry n).guard = s.guard := rfl
@[simp] theorem Part.renewExpiry_bus (s : Part) (n : Nat) : (s.renewExpiry n).bus = s.bus := rfl
@[simp] theorem Part.renewExpiry_port (s : Part) (n : Nat) : (s.renewExpiry n).port = s.port := rfl
@[simp] theorem Part.renewExpiry_image (s : Part) (n : Nat) : (s.renewExpiry n).image = s.image := rfl
@[simp] theorem Part.renewExpiry_peer_phase (s : Part) (n : Nat) :
    (s.renewExpiry n).peer.phase = s.peer.phase := rfl
@[simp] theorem Part.renewExpiry_peer_syncStation (s : Part) (n : Nat) :
    (s.renewExpiry n).peer.syncStation = s.peer.syncStation := rfl
@[simp] theorem Part.renewExpiry_peer_tag (s : Part) (n : Nat) :
    (s.renewExpiry n).peer.tag = s.peer.tag := rfl
@[simp] theorem Part.renewExpiry_peer_partialTotal (s : Part) (n : Nat) :
    (s.renewExpiry n).peer.partialTotal = s.peer.partialTotal := rfl
@[simp] theorem Part.renewExpiry_peer_buffer (s : Part) (n : Nat) :
    (s.renewExpiry n).peer.buffer = s.peer.buffer := rfl
@[simp] theorem Part.renewExpiry_peer_lastOutcome (s : Part) (n : Nat) :
    (s.renewExpiry n).peer.lastOutcome = s.peer.lastOutcome := rfl
@[simp] theorem Part.renewExpiry_peer_strays (s : Part) (n : Nat) :
    (s.renewExpiry n).peer.strays = s.peer.strays := rfl
@[simp] theorem Part.renewExpiry_peer_nextStatus (s : Part) (n : Nat) :
    (s.renewExpiry n).peer.nextStatus = s.peer.nextStatus := rfl

@[simp] theorem Part.renewExpiry_cfg (s : Part) (n : Nat) : (s.renewExpiry n).cfg = s.cfg := rfl
@[simp] theorem Part.renewExpiry_running (s : Part) (n : Nat) : (s.renewExpiry n).running = s.running := rfl

/-! ### countDown -/

@[simp] theorem Part.countDown_now (s : Part) (n : Nat) : (s.countDown n).now = s.now := rfl
@[simp] theorem Part.countDown_inst (s : Part) (n : Nat) : (s.countDown n).inst = s.inst := rfl
@[simp] theorem Part.countDown_vol (s : Part) (n : Nat) : (s.countDown n).vol = s.vol := rfl
@[simp] theorem Part.countDown_train (s : Part) (n : Nat) : (s.countDown n).train = s.train := rfl
@[simp] theorem Part.countDown_det (s : Part) (n : Nat) : (s.countDown n).det = s.det := rfl
@[simp] theorem Part.countDown_planner (s : Part) (n : Nat) : (s.countDown n).planner = s.planner := rfl
@[simp] theorem Part.countDown_outlet (s : Part) (n : Nat) : (s.countDown n).outlet = s.outlet := rfl
@[simp] theorem Part.countDown_guard (s : Part) (n : Nat) : (s.countDown n).guard = s.guard := rfl
@[simp] theorem Part.countDown_bus (s : Part) (n : Nat) : (s.countDown n).bus = s.bus := rfl
@[simp] theorem Part.countDown_port (s : Part) (n : Nat) : (s.countDown n).port = s.port := rfl
@[simp] theorem Part.countDown_image (s : Part) (n : Nat) : (s.countDown n).image = s.image := rfl
@[simp] theorem Part.countDown_peer_table (s : Part) (n : Nat) :
    (s.countDown n).peer.table = s.peer.table := rfl
@[simp] theorem Part.countDown_peer_phase (s : Part) (n : Nat) :
    (s.countDown n).peer.phase = s.peer.phase := rfl
@[simp] theorem Part.countDown_peer_syncStation (s : Part) (n : Nat) :
    (s.countDown n).peer.syncStation = s.peer.syncStation := rfl
@[simp] theorem Part.countDown_peer_tag (s : Part) (n : Nat) :
    (s.countDown n).peer.tag = s.peer.tag := rfl
@[simp] theorem Part.countDown_peer_partialTotal (s : Part) (n : Nat) :
    (s.countDown n).peer.partialTotal = s.peer.partialTotal := rfl
@[simp] theorem Part.countDown_peer_lastOutcome (s : Part) (n : Nat) :
    (s.countDown n).peer.lastOutcome = s.peer.lastOutcome := rfl
@[simp] theorem Part.countDown_peer_strays (s : Part) (n : Nat) :
    (s.countDown n).peer.strays = s.peer.strays := rfl
@[simp] theorem Part.countDown_peer_nextStatus (s : Part) (n : Nat) :
    (s.countDown n).peer.nextStatus = s.peer.nextStatus := rfl

@[simp] theorem Part.countDown_cfg (s : Part) (n : Nat) : (s.countDown n).cfg = s.cfg := rfl
@[simp] theorem Part.countDown_running (s : Part) (n : Nat) : (s.countDown n).running = s.running := rfl

/-! ### modChannel -/

@[simp] theorem Part.modChannel_now (s : Part) (c : ChannelNo) (f : GuardChannel → GuardChannel) : (s.modChannel c f).now = s.now := rfl
@[simp] theorem Part.modChannel_inst (s : Part) (c : ChannelNo) (f : GuardChannel → GuardChannel) : (s.modChannel c f).inst = s.inst := rfl
@[simp] theorem Part.modChannel_vol (s : Part) (c : ChannelNo) (f : GuardChannel → GuardChannel) : (s.modChannel c f).vol = s.vol := rfl
@[simp] theorem Part.modChannel_train (s : Part) (c : ChannelNo) (f : GuardChannel → GuardChannel) : (s.modChannel c f).train = s.train := rfl
@[simp] theorem Part.modChannel_det (s : Part) (c : ChannelNo) (f : GuardChannel → GuardChannel) : (s.modChannel c f).det = s.det := rfl
@[simp] theorem Part.modChannel_planner (s : Part) (c : ChannelNo) (f : GuardChannel → GuardChannel) : (s.modChannel c f).planner = s.planner := rfl
@[simp] theorem Part.modChannel_outlet (s : Part) (c : ChannelNo) (f : GuardChannel → GuardChannel) : (s.modChannel c f).outlet = s.outlet := rfl
@[simp] theorem Part.modChannel_guard (s : Part) (c : ChannelNo) (f : GuardChannel → GuardChannel) :
    (s.modChannel c f).guard = { s.guard with channels := s.guard.channels.set c (f s.guard.channels[c]) } := rfl
@[simp] theorem Part.modChannel_bus (s : Part) (c : ChannelNo) (f : GuardChannel → GuardChannel) : (s.modChannel c f).bus = s.bus := rfl
@[simp] theorem Part.modChannel_peer (s : Part) (c : ChannelNo) (f : GuardChannel → GuardChannel) : (s.modChannel c f).peer = s.peer := rfl
@[simp] theorem Part.modChannel_port (s : Part) (c : ChannelNo) (f : GuardChannel → GuardChannel) : (s.modChannel c f).port = s.port := rfl
@[simp] theorem Part.modChannel_image (s : Part) (c : ChannelNo) (f : GuardChannel → GuardChannel) : (s.modChannel c f).image = s.image := rfl

@[simp] theorem Part.modChannel_cfg (s : Part) (c : ChannelNo) (f : GuardChannel → GuardChannel) : (s.modChannel c f).cfg = s.cfg := rfl
@[simp] theorem Part.modChannel_running (s : Part) (c : ChannelNo) (f : GuardChannel → GuardChannel) : (s.modChannel c f).running = s.running := rfl

/-! ### startGuards -/

@[simp] theorem Part.startGuards_now (s : Part) : (s.startGuards).now = s.now := rfl
@[simp] theorem Part.startGuards_inst (s : Part) : (s.startGuards).inst = s.inst := rfl
@[simp] theorem Part.startGuards_vol (s : Part) : (s.startGuards).vol = s.vol := rfl
@[simp] theorem Part.startGuards_train (s : Part) : (s.startGuards).train = s.train := rfl
@[simp] theorem Part.startGuards_det (s : Part) : (s.startGuards).det = s.det := rfl
@[simp] theorem Part.startGuards_planner (s : Part) : (s.startGuards).planner = s.planner := rfl
@[simp] theorem Part.startGuards_outlet (s : Part) : (s.startGuards).outlet = s.outlet := rfl
@[simp] theorem Part.startGuards_bus (s : Part) : (s.startGuards).bus = s.bus := rfl
@[simp] theorem Part.startGuards_peer (s : Part) : (s.startGuards).peer = s.peer := rfl
@[simp] theorem Part.startGuards_port (s : Part) : (s.startGuards).port = s.port := rfl
@[simp] theorem Part.startGuards_image (s : Part) : (s.startGuards).image = s.image := rfl

@[simp] theorem Part.startGuards_cfg (s : Part) : (s.startGuards).cfg = s.cfg := rfl
@[simp] theorem Part.startGuards_running (s : Part) : (s.startGuards).running = s.running := rfl

/-! ### modImage -/

@[simp] theorem Part.modImage_now (s : Part) (f : ImageStore → ImageStore) : (s.modImage f).now = s.now := rfl
@[simp] theorem Part.modImage_inst (s : Part) (f : ImageStore → ImageStore) : (s.modImage f).inst = s.inst := rfl
@[simp] theorem Part.modImage_vol (s : Part) (f : ImageStore → ImageStore) : (s.modImage f).vol = s.vol := rfl
@[simp] theorem Part.modImage_train (s : Part) (f : ImageStore → ImageStore) : (s.modImage f).train = s.train := rfl
@[simp] theorem Part.modImage_det (s : Part) (f : ImageStore → ImageStore) : (s.modImage f).det = s.det := rfl
@[simp] theorem Part.modImage_planner (s : Part) (f : ImageStore → ImageStore) : (s.modImage f).planner = s.planner := rfl
@[simp] theorem Part.modImage_outlet (s : Part) (f : ImageStore → ImageStore) : (s.modImage f).outlet = s.outlet := rfl
@[simp] theorem Part.modImage_guard (s : Part) (f : ImageStore → ImageStore) : (s.modImage f).guard = s.guard := rfl
@[simp] theorem Part.modImage_bus (s : Part) (f : ImageStore → ImageStore) : (s.modImage f).bus = s.bus := rfl
@[simp] theorem Part.modImage_peer (s : Part) (f : ImageStore → ImageStore) : (s.modImage f).peer = s.peer := rfl
@[simp] theorem Part.modImage_port (s : Part) (f : ImageStore → ImageStore) : (s.modImage f).port = s.port := rfl
@[simp] theorem Part.modImage_image (s : Part) (f : ImageStore → ImageStore) :
    (s.modImage f).image = f s.image := rfl

/-! ### setBuffer -/

@[simp] theorem Part.setBuffer_now (s : Part) (b : Option TxBuffer) : (s.setBuffer b).now = s.now := rfl
@[simp] theorem Part.setBuffer_inst (s : Part) (b : Option TxBuffer) : (s.setBuffer b).inst = s.inst := rfl
@[simp] theorem Part.setBuffer_vol (s : Part) (b : Option TxBuffer) : (s.setBuffer b).vol = s.vol := rfl
@[simp] theorem Part.setBuffer_train (s : Part) (b : Option TxBuffer) : (s.setBuffer b).train = s.train := rfl
@[simp] theorem Part.setBuffer_det (s : Part) (b : Option TxBuffer) : (s.setBuffer b).det = s.det := rfl
@[simp] theorem Part.setBuffer_planner (s : Part) (b : Option TxBuffer) : (s.setBuffer b).planner = s.planner := rfl
@[simp] theorem Part.setBuffer_outlet (s : Part) (b : Option TxBuffer) : (s.setBuffer b).outlet = s.outlet := rfl
@[simp] theorem Part.setBuffer_guard (s : Part) (b : Option TxBuffer) : (s.setBuffer b).guard = s.guard := rfl
@[simp] theorem Part.setBuffer_bus (s : Part) (b : Option TxBuffer) :
    (s.setBuffer b).bus = { s.bus with buffer := b } := rfl
@[simp] theorem Part.setBuffer_peer (s : Part) (b : Option TxBuffer) : (s.setBuffer b).peer = s.peer := rfl
@[simp] theorem Part.setBuffer_port (s : Part) (b : Option TxBuffer) : (s.setBuffer b).port = s.port := rfl
@[simp] theorem Part.setBuffer_image (s : Part) (b : Option TxBuffer) : (s.setBuffer b).image = s.image := rfl

@[simp] theorem Part.setBuffer_cfg (s : Part) (b : Option TxBuffer) : (s.setBuffer b).cfg = s.cfg := rfl
@[simp] theorem Part.setBuffer_running (s : Part) (b : Option TxBuffer) : (s.setBuffer b).running = s.running := rfl

/-! ### carrierUntil -/

@[simp] theorem Part.carrierUntil_now (s : Part) (m : Nat) : (s.carrierUntil m).now = s.now := rfl
@[simp] theorem Part.carrierUntil_inst (s : Part) (m : Nat) : (s.carrierUntil m).inst = s.inst := rfl
@[simp] theorem Part.carrierUntil_vol (s : Part) (m : Nat) : (s.carrierUntil m).vol = s.vol := rfl
@[simp] theorem Part.carrierUntil_train (s : Part) (m : Nat) : (s.carrierUntil m).train = s.train := rfl
@[simp] theorem Part.carrierUntil_det (s : Part) (m : Nat) : (s.carrierUntil m).det = s.det := rfl
@[simp] theorem Part.carrierUntil_planner (s : Part) (m : Nat) : (s.carrierUntil m).planner = s.planner := rfl
@[simp] theorem Part.carrierUntil_outlet (s : Part) (m : Nat) : (s.carrierUntil m).outlet = s.outlet := rfl
@[simp] theorem Part.carrierUntil_guard (s : Part) (m : Nat) : (s.carrierUntil m).guard = s.guard := rfl
@[simp] theorem Part.carrierUntil_bus (s : Part) (m : Nat) :
    (s.carrierUntil m).bus = { s.bus with carrierEnd := some (max m (s.bus.carrierEnd.getD 0)) } := rfl
@[simp] theorem Part.carrierUntil_peer (s : Part) (m : Nat) : (s.carrierUntil m).peer = s.peer := rfl
@[simp] theorem Part.carrierUntil_port (s : Part) (m : Nat) : (s.carrierUntil m).port = s.port := rfl
@[simp] theorem Part.carrierUntil_image (s : Part) (m : Nat) : (s.carrierUntil m).image = s.image := rfl

@[simp] theorem Part.carrierUntil_cfg (s : Part) (m : Nat) : (s.carrierUntil m).cfg = s.cfg := rfl
@[simp] theorem Part.carrierUntil_running (s : Part) (m : Nat) : (s.carrierUntil m).running = s.running := rfl

/-! ### countDiscarded -/

@[simp] theorem Part.countDiscarded_now (s : Part) : (s.countDiscarded).now = s.now := rfl
@[simp] theorem Part.countDiscarded_inst (s : Part) : (s.countDiscarded).inst = s.inst := rfl
@[simp] theorem Part.countDiscarded_vol (s : Part) : (s.countDiscarded).vol = s.vol := rfl
@[simp] theorem Part.countDiscarded_train (s : Part) : (s.countDiscarded).train = s.train := rfl
@[simp] theorem Part.countDiscarded_det (s : Part) : (s.countDiscarded).det = s.det := rfl
@[simp] theorem Part.countDiscarded_planner (s : Part) : (s.countDiscarded).planner = s.planner := rfl
@[simp] theorem Part.countDiscarded_outlet (s : Part) : (s.countDiscarded).outlet = s.outlet := rfl
@[simp] theorem Part.countDiscarded_guard (s : Part) : (s.countDiscarded).guard = s.guard := rfl
@[simp] theorem Part.countDiscarded_bus (s : Part) : (s.countDiscarded).bus = s.bus := rfl
@[simp] theorem Part.countDiscarded_peer (s : Part) : (s.countDiscarded).peer = s.peer := rfl
@[simp] theorem Part.countDiscarded_image (s : Part) : (s.countDiscarded).image = s.image := rfl

@[simp] theorem Part.countDiscarded_cfg (s : Part) : (s.countDiscarded).cfg = s.cfg := rfl
@[simp] theorem Part.countDiscarded_running (s : Part) : (s.countDiscarded).running = s.running := rfl

/-! ### countReceived -/

@[simp] theorem Part.countReceived_now (s : Part) : (s.countReceived).now = s.now := rfl
@[simp] theorem Part.countReceived_inst (s : Part) : (s.countReceived).inst = s.inst := rfl
@[simp] theorem Part.countReceived_vol (s : Part) : (s.countReceived).vol = s.vol := rfl
@[simp] theorem Part.countReceived_train (s : Part) : (s.countReceived).train = s.train := rfl
@[simp] theorem Part.countReceived_det (s : Part) : (s.countReceived).det = s.det := rfl
@[simp] theorem Part.countReceived_planner (s : Part) : (s.countReceived).planner = s.planner := rfl
@[simp] theorem Part.countReceived_outlet (s : Part) : (s.countReceived).outlet = s.outlet := rfl
@[simp] theorem Part.countReceived_guard (s : Part) : (s.countReceived).guard = s.guard := rfl
@[simp] theorem Part.countReceived_peer (s : Part) : (s.countReceived).peer = s.peer := rfl
@[simp] theorem Part.countReceived_port (s : Part) : (s.countReceived).port = s.port := rfl
@[simp] theorem Part.countReceived_image (s : Part) : (s.countReceived).image = s.image := rfl
@[simp] theorem Part.countReceived_bus_outbound (s : Part) :
    (s.countReceived).bus.outbound = s.bus.outbound := rfl
@[simp] theorem Part.countReceived_bus_buffer (s : Part) :
    (s.countReceived).bus.buffer = s.bus.buffer := rfl
@[simp] theorem Part.countReceived_bus_inbound (s : Part) :
    (s.countReceived).bus.inbound = s.bus.inbound := rfl
@[simp] theorem Part.countReceived_bus_peerHold (s : Part) :
    (s.countReceived).bus.peerHold = s.bus.peerHold := rfl
@[simp] theorem Part.countReceived_bus_holdSent (s : Part) :
    (s.countReceived).bus.holdSent = s.bus.holdSent := rfl
@[simp] theorem Part.countReceived_bus_generator (s : Part) :
    (s.countReceived).bus.generator = s.bus.generator := rfl
@[simp] theorem Part.countReceived_bus_carrierEnd (s : Part) :
    (s.countReceived).bus.carrierEnd = s.bus.carrierEnd := rfl

@[simp] theorem Part.countReceived_cfg (s : Part) : (s.countReceived).cfg = s.cfg := rfl
@[simp] theorem Part.countReceived_running (s : Part) : (s.countReceived).running = s.running := rfl

/-! ### retirePlain -/

@[simp] theorem Part.retirePlain_now (s : Part) : (s.retirePlain).now = s.now := rfl
@[simp] theorem Part.retirePlain_inst (s : Part) : (s.retirePlain).inst = s.inst := rfl
@[simp] theorem Part.retirePlain_vol (s : Part) : (s.retirePlain).vol = s.vol := rfl
@[simp] theorem Part.retirePlain_det (s : Part) : (s.retirePlain).det = s.det := rfl
@[simp] theorem Part.retirePlain_planner (s : Part) : (s.retirePlain).planner = s.planner := rfl
@[simp] theorem Part.retirePlain_outlet (s : Part) : (s.retirePlain).outlet = s.outlet := rfl
@[simp] theorem Part.retirePlain_guard (s : Part) : (s.retirePlain).guard = s.guard := rfl
@[simp] theorem Part.retirePlain_bus (s : Part) : (s.retirePlain).bus = s.bus := rfl
@[simp] theorem Part.retirePlain_peer (s : Part) : (s.retirePlain).peer = s.peer := rfl
@[simp] theorem Part.retirePlain_port (s : Part) : (s.retirePlain).port = s.port := rfl
@[simp] theorem Part.retirePlain_image (s : Part) : (s.retirePlain).image = s.image := rfl

@[simp] theorem Part.retirePlain_cfg (s : Part) : (s.retirePlain).cfg = s.cfg := rfl
@[simp] theorem Part.retirePlain_running (s : Part) : (s.retirePlain).running = s.running := rfl

end Sys2Proof.Machine
end

