-- ==== Sys2Proof/Laws/Detector.lean ====
section
/-! SUPPORT. The channel that the detector chooses and the plan that the cut planner computes are those that the
statements write out apart from them (R75, R76, R101). -/

namespace Sys2Proof.Machine

/-! ## The channel (R75, R76) -/

theorem span_eq (a b : Nat) : ((b : Int) - a).natAbs = span a b := by
  unfold span; omega

theorem Part.densityRefs_eq (s : Part) (l t : Product) :
    s.densityRefs l t = if s.cfg.densityFitted && s.inst.densityReady then
      pairRefs s.cfg ProductConfig.refDensity ProductConfig.densityTol l t else none := by
  unfold Part.densityRefs pairRefs
  cases s.cfg.product? l <;> cases s.cfg.product? t <;> simp [RefSet.apart, refSet, span_eq]
  split_ifs <;> simp_all

theorem Part.markerRefs_eq (s : Part) (l t : Product) :
    s.markerRefs l t = if s.cfg.markerFitted && s.inst.markerReady then
      pairRefs s.cfg ProductConfig.refMarker ProductConfig.markerTol l t else none := by
  unfold Part.markerRefs pairRefs
  cases s.cfg.product? l <;> cases s.cfg.product? t <;> simp [RefSet.apart, refSet, span_eq]
  split_ifs <;> simp_all

/-- The detector chooses the channel that R75 gives. -/
theorem Part.chooseChannel_eq (s : Part) (l t : Product) : s.chooseChannel l t = s.chosenFor l t := by
  unfold Part.chooseChannel Part.chosenFor
  rw [Part.densityRefs_eq, Part.markerRefs_eq]
  simp only [RefSet.score, span_eq]
  generalize (if (s.cfg.densityFitted && s.inst.densityReady) = true then _ else none : Option RefSet) = density
  generalize (if (s.cfg.markerFitted && s.inst.markerReady) = true then _ else none : Option RefSet) = marker
  rcases density with _ | d <;> rcases marker with _ | m <;> simp only
  by_cases h : span m.a m.b * 256 / (m.ta + m.tb) ≤ span d.a d.b * 256 / (d.ta + d.tb)
  · simp [h, Nat.not_lt.mpr h]
  · simp [h, Nat.lt_of_not_le h]

/-! ## The plan (R101) -/

/-- The batch just older than one of the train, no two records having one number. -/
theorem aheadOf_eq (b : BatchNo) (recs : List BatchRecord) (distinct : (recs.map BatchRecord.batch).Nodup)
    (mem : b ∈ recs.map BatchRecord.batch) :
    aheadOf b recs = (recs.takeWhile (fun r => decide (r.batch ≠ b))).getLast?.map BatchRecord.batch := by
  have absent : ∀ l : List BatchRecord, b ∉ l.map BatchRecord.batch → ∀ r, aheadOf b (r :: l) = none := by
    intro l
    induction l with
    | nil => intros; rfl
    | cons n l ih =>
      intro h r
      simp only [List.map_cons, List.mem_cons, not_or] at h
      simp only [aheadOf, if_neg (Ne.symm h.1), ih h.2]
  induction recs with
  | nil => simp at mem
  | cons r l ih =>
    simp only [List.map_cons, List.nodup_cons, List.mem_cons] at distinct mem
    by_cases hr : r.batch = b
    · subst hr
      simp [absent l distinct.1 r]
    · have inRest : b ∈ l.map BatchRecord.batch := mem.resolve_left (Ne.symm hr)
      match l, inRest, ih distinct.2 inRest with
      | n :: l', _, step =>
        by_cases hn : n.batch = b
        · simp [aheadOf, hr, hn]
        · simp only [aheadOf, if_neg hn, step]
          simp [hr, hn]

theorem planFrom_eq (role : Role) (filling ok ok1 : Option Order) :
    planFrom role filling ok ok1 = planTable role filling ok ok1 := by
  have other : defaultRoute role = if role = .end_ then .outlet transmix else .closed := by cases role <;> rfl
  rcases ok with _ | x <;> rcases ok1 with _ | y <;> rcases filling with _ | z <;>
    simp [planFrom, planTable, claims, defaultSegment, Order.segment, other, Option.filter] <;>
    (try cases x.tailPolicy) <;> (try cases y.headPolicy) <;> simp

/-- The cut planner's fresh plan is that of R101's table. -/
theorem Part.freshPlan_eq (s : Part) (b : BatchNo) (distinct : (s.train.records.map BatchRecord.batch).Nodup)
    (mem : b ∈ s.train.records.map BatchRecord.batch) : s.freshPlan b = s.planFor b := by
  unfold Part.freshPlan Part.planFor
  rw [planFrom_eq, aheadOf_eq b _ distinct mem]
  cases (s.train.records.takeWhile (fun r => decide (r.batch ≠ b))).getLast?.map BatchRecord.batch <;> rfl

end Sys2Proof.Machine
end

