-- ==== Sys2Proof/Laws/Frame.lean ====
section
/-! SUPPORT. What each shared operation leaves as it is. Three frames, from narrow to wide: `LineFrame` for an
operation of the line bus, `RouteFrame` for one that can start a route change, `StageFrame` for one that
can take stages or end orders. One lemma for each operation. -/

namespace Sys2Proof.Machine

/-! ## Alarms -/

@[simp] theorem StationPort.raise_alarmSet (p : StationPort) (a b : Alarm) :
    (p.raise a).alarmSet b = (p.alarmSet b || decide (a = b)) := by
  cases a <;> cases b <;>
    simp [StationPort.raise, StationPort.alarmSet, Alarm.bit]

@[simp] theorem StationPort.raise_response (p : StationPort) (a : Alarm) :
    (p.raise a).response = p.response := rfl
@[simp] theorem StationPort.raise_discarded (p : StationPort) (a : Alarm) :
    (p.raise a).discarded = p.discarded := rfl
@[simp] theorem StationPort.raise_records (p : StationPort) (a : Alarm) :
    (p.raise a).records = p.records := rfl
@[simp] theorem StationPort.raise_seq (p : StationPort) (a : Alarm) : (p.raise a).seq = p.seq := rfl
@[simp] theorem StationPort.raise_loss (p : StationPort) (a : Alarm) : (p.raise a).loss = p.loss := rfl
@[simp] theorem StationPort.raise_resetCause (p : StationPort) (a : Alarm) :
    (p.raise a).resetCause = p.resetCause := rfl

/-! ## The frames -/

/-- `t` agrees with `s` in all but the outbound side of the line bus, the sync, and alarm flags that rise. -/
structure LineFrame (s t : Part) : Prop where
  now : t.now = s.now
  inst : t.inst = s.inst
  vol : t.vol = s.vol
  train : t.train = s.train
  det : t.det = s.det
  planner : t.planner = s.planner
  outlet : t.outlet = s.outlet
  guard : t.guard = s.guard
  image : t.image = s.image
  response : t.port.response = s.port.response
  discarded : t.port.discarded = s.port.discarded
  records : t.port.records = s.port.records
  seq : t.port.seq = s.port.seq
  loss : t.port.loss = s.port.loss
  resetCause : t.port.resetCause = s.port.resetCause
  alarms : ∀ a, s.port.alarmSet a = true → t.port.alarmSet a = true
  inbound : t.bus.inbound = s.bus.inbound
  peerHold : t.bus.peerHold = s.bus.peerHold
  holdSent : t.bus.holdSent = s.bus.holdSent
  generator : t.bus.generator = s.bus.generator
  table : t.peer.table = s.peer.table
  tag : t.peer.tag = s.peer.tag
  strays : t.peer.strays = s.peer.strays
  nextStatus : t.peer.nextStatus = s.peer.nextStatus

/-- `t` agrees with `s` in all that a route change, and a launch cut it brings about, cannot reach. -/
structure RouteFrame (s t : Part) : Prop where
  now : t.now = s.now
  inst : t.inst = s.inst
  vol : t.vol = s.vol
  det : t.det = s.det
  guard : t.guard = s.guard
  image : t.image = s.image
  orders : t.planner.orders = s.planner.orders
  nextOrder : t.planner.nextOrder = s.planner.nextOrder
  planned : t.planner.planned = s.planner.planned
  mode : t.outlet.mode = s.outlet.mode
  response : t.port.response = s.port.response
  discarded : t.port.discarded = s.port.discarded
  resetCause : t.port.resetCause = s.port.resetCause
  alarms : ∀ a, s.port.alarmSet a = true → t.port.alarmSet a = true
  inbound : t.bus.inbound = s.bus.inbound
  peerHold : t.bus.peerHold = s.bus.peerHold
  holdSent : t.bus.holdSent = s.bus.holdSent
  generator : t.bus.generator = s.bus.generator
  table : t.peer.table = s.peer.table
  tag : t.peer.tag = s.peer.tag
  strays : t.peer.strays = s.peer.strays
  nextStatus : t.peer.nextStatus = s.peer.nextStatus

/-- `t` agrees with `s` in all that stages, ends of orders and what they bring cannot reach. -/
structure StageFrame (s t : Part) : Prop where
  now : t.now = s.now
  inst : t.inst = s.inst
  vol : { t.vol with tally := 0 } = { s.vol with tally := 0 }
  guard : t.guard = s.guard
  image : t.image = s.image
  nextOrder : t.planner.nextOrder = s.planner.nextOrder
  mode : t.outlet.mode = s.outlet.mode
  response : t.port.response = s.port.response
  discarded : t.port.discarded = s.port.discarded
  resetCause : t.port.resetCause = s.port.resetCause
  alarms : ∀ a, s.port.alarmSet a = true → t.port.alarmSet a = true
  inbound : t.bus.inbound = s.bus.inbound
  peerHold : t.bus.peerHold = s.bus.peerHold
  holdSent : t.bus.holdSent = s.bus.holdSent
  generator : t.bus.generator = s.bus.generator
  table : t.peer.table = s.peer.table
  tag : t.peer.tag = s.peer.tag
  strays : t.peer.strays = s.peer.strays
  nextStatus : t.peer.nextStatus = s.peer.nextStatus

theorem LineFrame.refl (s : Part) : LineFrame s s := by constructor <;> simp
theorem RouteFrame.refl (s : Part) : RouteFrame s s := by constructor <;> simp
theorem StageFrame.refl (s : Part) : StageFrame s s := by constructor <;> simp

theorem LineFrame.trans {s t u : Part} (h : LineFrame s t) (k : LineFrame t u) : LineFrame s u := by
  constructor
  case alarms => exact fun a ha => k.alarms a (h.alarms a ha)
  all_goals first
    | exact k.now.trans h.now | exact k.inst.trans h.inst | exact k.vol.trans h.vol
    | exact k.train.trans h.train | exact k.det.trans h.det | exact k.planner.trans h.planner
    | exact k.outlet.trans h.outlet | exact k.guard.trans h.guard | exact k.image.trans h.image
    | exact k.response.trans h.response | exact k.discarded.trans h.discarded
    | exact k.records.trans h.records | exact k.seq.trans h.seq | exact k.loss.trans h.loss
    | exact k.resetCause.trans h.resetCause | exact k.inbound.trans h.inbound
    | exact k.peerHold.trans h.peerHold | exact k.holdSent.trans h.holdSent
    | exact k.generator.trans h.generator | exact k.table.trans h.table | exact k.tag.trans h.tag
    | exact k.strays.trans h.strays | exact k.nextStatus.trans h.nextStatus

theorem RouteFrame.trans {s t u : Part} (h : RouteFrame s t) (k : RouteFrame t u) : RouteFrame s u := by
  constructor
  case alarms => exact fun a ha => k.alarms a (h.alarms a ha)
  all_goals first
    | exact k.now.trans h.now | exact k.inst.trans h.inst | exact k.vol.trans h.vol
    | exact k.det.trans h.det | exact k.guard.trans h.guard | exact k.image.trans h.image
    | exact k.orders.trans h.orders | exact k.nextOrder.trans h.nextOrder
    | exact k.planned.trans h.planned | exact k.mode.trans h.mode
    | exact k.response.trans h.response | exact k.discarded.trans h.discarded
    | exact k.resetCause.trans h.resetCause | exact k.inbound.trans h.inbound
    | exact k.peerHold.trans h.peerHold | exact k.holdSent.trans h.holdSent
    | exact k.generator.trans h.generator | exact k.table.trans h.table | exact k.tag.trans h.tag
    | exact k.strays.trans h.strays | exact k.nextStatus.trans h.nextStatus

theorem StageFrame.trans {s t u : Part} (h : StageFrame s t) (k : StageFrame t u) : StageFrame s u := by
  constructor
  case alarms => exact fun a ha => k.alarms a (h.alarms a ha)
  all_goals first
    | exact k.now.trans h.now | exact k.inst.trans h.inst | exact k.vol.trans h.vol
    | exact k.guard.trans h.guard | exact k.image.trans h.image
    | exact k.nextOrder.trans h.nextOrder | exact k.mode.trans h.mode
    | exact k.response.trans h.response | exact k.discarded.trans h.discarded
    | exact k.resetCause.trans h.resetCause | exact k.inbound.trans h.inbound
    | exact k.peerHold.trans h.peerHold | exact k.holdSent.trans h.holdSent
    | exact k.generator.trans h.generator | exact k.table.trans h.table | exact k.tag.trans h.tag
    | exact k.strays.trans h.strays | exact k.nextStatus.trans h.nextStatus

theorem LineFrame.route {s t : Part} (h : LineFrame s t) : RouteFrame s t :=
  ⟨h.now, h.inst, h.vol, h.det, h.guard, h.image, by rw [h.planner], by rw [h.planner],
    by rw [h.planner], by rw [h.outlet], h.response, h.discarded, h.resetCause, h.alarms, h.inbound,
    h.peerHold, h.holdSent, h.generator, h.table, h.tag, h.strays, h.nextStatus⟩

theorem RouteFrame.stage {s t : Part} (h : RouteFrame s t) : StageFrame s t :=
  ⟨h.now, h.inst, by rw [h.vol], h.guard, h.image, h.nextOrder, h.mode, h.response, h.discarded,
    h.resetCause, h.alarms, h.inbound, h.peerHold, h.holdSent, h.generator, h.table, h.tag, h.strays,
    h.nextStatus⟩

/-! ## The line bus -/

theorem Part.raise_line (a : Alarm) (s : Part) : LineFrame s (s.raise a) := by
  constructor
  case alarms => intro b hb; simp [hb]
  all_goals rfl

theorem Part.raiseIf_line (c : Bool) (a : Alarm) (s : Part) : LineFrame s (s.raiseIf c a) := by
  cases c
  · exact .refl s
  · exact s.raise_line a

theorem Part.modStats_line (f : LinkStats → LinkStats) (s : Part) : LineFrame s (s.modStats f) := by
  constructor
  case alarms => exact fun _ h => h
  all_goals rfl

theorem Part.failSync_line (r : SyncFailure) (s : Part) : LineFrame s (s.failSync r) := by
  constructor
  case alarms => intro b hb; simp [hb]
  all_goals rfl

theorem Part.reportDiscarded_line (n : Notice) (s : Part) : LineFrame s (s.reportDiscarded n) := by
  unfold Part.reportDiscarded
  split
  · exact s.failSync_line _
  · exact .refl s

theorem Part.arbitrate_line (s : Part) : LineFrame s s.arbitrate := by
  unfold Part.arbitrate
  split
  · exact .refl s
  · split
    · exact .refl s
    · constructor
      case alarms => exact fun _ h => h
      all_goals rfl

theorem Part.joinOutbound_line (n : Notice) (s : Part) : LineFrame s (s.joinOutbound n) := by
  refine LineFrame.trans ?_ (Part.arbitrate_line _)
  constructor
  case alarms => exact fun _ h => h
  all_goals rfl

theorem Part.evict_line (c : Nat) (s : Part) : LineFrame s (s.evict c) := by
  unfold Part.evict
  split
  · exact .refl s
  · refine LineFrame.trans ?_ (Part.reportDiscarded_line _ _)
    constructor
    case alarms => exact fun _ h => h
    all_goals rfl

/-- A notice handed to the outbound queue changes the outbound side of the bus, the alarm flags and, when it
discards a TRAIN REQUEST, the sync (R141, R142). -/
theorem Part.enqueue_line (n : Notice) (s : Part) : LineFrame s (s.enqueue n) := by
  unfold Part.enqueue
  split
  · constructor
    case alarms => exact fun _ h => h
    all_goals rfl
  · split
    · exact s.joinOutbound_line n
    · split
      · exact (s.evict_line _).trans (Part.joinOutbound_line n _)
      · exact (s.raise_line _).trans (Part.reportDiscarded_line n _)

/-- A frame that every step of a fold keeps holds of the fold. -/
theorem LineFrame.foldl {α : Type} (f : Part → α → Part) (h : ∀ s a, LineFrame s (f s a)) (l : List α)
    (s : Part) : LineFrame s (l.foldl f s) := by
  induction l generalizing s with
  | nil => exact .refl s
  | cons a l ih => exact (h s a).trans (ih _)

/-! ## Route changes -/

theorem Part.writeRecord_route (b : RecordBody) (s : Part) : RouteFrame s (s.writeRecord b) := by
  constructor
  case alarms => exact fun _ h => h
  all_goals rfl

theorem Part.mapTrain_route (f : List BatchRecord → List BatchRecord) (s : Part) :
    RouteFrame s (s.mapTrain f) := by
  constructor
  case alarms => exact fun _ h => h
  all_goals rfl

theorem Part.modBatch_route (b : BatchNo) (f : BatchRecord → BatchRecord) (s : Part) :
    RouteFrame s (s.modBatch b f) := by
  constructor
  case alarms => exact fun _ h => h
  all_goals rfl

theorem Part.modHead_route (b : BatchNo) (f : HeadInterface → HeadInterface) (s : Part) :
    RouteFrame s (s.modHead b f) := s.modBatch_route b _

theorem Part.retirePlain_route (s : Part) : RouteFrame s s.retirePlain := by
  constructor
  case alarms => exact fun _ h => h
  all_goals rfl

theorem Part.launchRecord_route (e : LaunchEntry) (leading : Product) (s : Part) :
    RouteFrame s (s.launchRecord e leading) := by
  unfold Part.launchRecord
  split
  · exact .refl s
  · split
    · exact .refl s
    · split
      · exact (s.raise_line _).route
      · exact (s.mapTrain_route _).trans (Part.retirePlain_route _)

/-- A launch cut taking effect (R111). -/
theorem Part.launchEffect_route (e : LaunchEntry) (s : Part) : RouteFrame s (s.launchEffect e) := by
  have h := ((s.writeRecord_route
    (.launch e.batch e.product ((s.planner.current.map CurrentBatch.launched).getD 0) e.outlet)).trans
    (Part.enqueue_line (.launch e.batch e.product
      ((s.planner.current.map CurrentBatch.batch).getD (e.batch - 1))
      ((s.planner.current.map CurrentBatch.product).getD 0) e.nominated s.cfg.launchWidth
      s.vol.trunkCounter) _).route).trans
    (Part.launchRecord_route e ((s.planner.current.map CurrentBatch.product).getD 0) _)
  exact ⟨h.now, h.inst, h.vol, h.det, h.guard, h.image, h.orders, h.nextOrder, h.planned, h.mode,
    h.response, h.discarded, h.resetCause, h.alarms, h.inbound, h.peerHold, h.holdSent, h.generator,
    h.table, h.tag, h.strays, h.nextStatus⟩

theorem Part.reportStart_route (o : Outlet) (s : Part) : RouteFrame s (s.reportStart o) := by
  unfold Part.reportStart
  split
  · split
    · exact s.launchEffect_route _
    · exact .refl s
  · exact .refl s

theorem Part.modOutlet_route (f : OutletController → OutletController) (s : Part)
    (h : (f s.outlet).mode = s.outlet.mode) : RouteFrame s (s.modOutlet f) := by
  constructor
  case alarms => exact fun _ h => h
  case mode => exact h
  all_goals rfl

theorem Part.command_route (o : Outlet) (c : CommandState) (s : Part) : RouteFrame s (s.command o c) :=
  s.modOutlet_route _ rfl

theorem Part.markStuck_route (o : Outlet) (b : Bool) (s : Part) : RouteFrame s (s.markStuck o b) :=
  s.modOutlet_route _ rfl

theorem Part.finish_route (r : CurrentRoute) (s : Part) : RouteFrame s (s.finish r) :=
  s.modOutlet_route _ rfl

theorem Part.inFlight_route (src : CurrentRoute) (target : Route) (ph : ChangePhase) (s : Part) :
    RouteFrame s (s.inFlight src target ph) := s.modOutlet_route _ rfl

theorem Part.faultOutlet_route (o : Outlet) (f : OutletFault) (s : Part) :
    RouteFrame s (s.faultOutlet o f) := by
  unfold Part.faultOutlet
  exact (s.modOutlet_route _ rfl).trans (Part.raise_line _ _).route

theorem Part.completeAt_route (target : Route) (s : Part) : RouteFrame s (s.completeAt target) := by
  unfold Part.completeAt
  split
  · exact (s.markStuck_route _ _).trans (Part.finish_route _ _)
  · exact s.finish_route _

theorem Part.closeFor_route (o : Outlet) (src : CurrentRoute) (target : Route) (s : Part) :
    RouteFrame s (s.closeFor o src target) := by
  unfold Part.closeFor
  split
  · exact s.completeAt_route _
  · exact (s.command_route _ _).trans (Part.inFlight_route _ _ _ _)

/-- A frame that every step of a fold keeps holds of the fold. -/
theorem RouteFrame.foldl {α : Type} (f : Part → α → Part) (h : ∀ s a, RouteFrame s (f s a)) (l : List α)
    (s : Part) : RouteFrame s (l.foldl f s) := by
  induction l generalizing s with
  | nil => exact .refl s
  | cons a l ih => exact (h s a).trans (ih _)

theorem Part.clearFor_route (target : Route) (s : Part) : RouteFrame s (s.clearFor target) := by
  unfold Part.clearFor
  split
  · exact s.completeAt_route _
  · exact (RouteFrame.foldl _ (fun t o => t.command_route o .closing) _ s).trans
      (Part.inFlight_route _ _ _ _)

theorem Part.openConfirmed_route (src : CurrentRoute) (target : Route) (s : Part) :
    RouteFrame s (s.openConfirmed src target) := by
  unfold Part.openConfirmed
  split
  · exact s.closeFor_route _ _ _
  · exact s.completeAt_route _
  · exact s.clearFor_route _

/-- A change that starts (R117). -/
theorem Part.beginChange_route (target : Route) (s : Part) : RouteFrame s (s.beginChange target) := by
  have hp : RouteFrame s (s.modOutlet (fun k => { k with pending := none })) := s.modOutlet_route _ rfl
  cases target with
  | outlet b =>
    have hb := hp.trans ((Part.command_route b .opening _).trans
      ((Part.inFlight_route s.outlet.current (.outlet b) .opening _).trans (Part.reportStart_route b _)))
    simp only [Part.beginChange]
    split
    · exact hb.trans ((Part.command_route b .idle _).trans (Part.openConfirmed_route _ _ _))
    · exact hb
  | closed =>
    simp only [Part.beginChange]
    split
    · exact hp.trans (Part.closeFor_route _ _ _ _)
    · exact hp
    · exact hp.trans (Part.clearFor_route _ _)

theorem Part.applyPending_route (s : Part) : RouteFrame s s.applyPending := by
  unfold Part.applyPending
  split
  · exact .refl s
  · have hp : RouteFrame s (s.modOutlet (fun k => { k with pending := none })) := s.modOutlet_route _ rfl
    split
    · exact hp
    · exact hp.trans (Part.beginChange_route _ _)

/-- The route target recomputed and acted on (R116, R117, R119). -/
theorem Part.retarget_route (s : Part) : RouteFrame s s.retarget := by
  unfold Part.retarget
  split
  · exact s.modOutlet_route _ rfl
  · rename_i t _
    have hs : RouteFrame s (s.modOutlet (fun k => { k with target := some t })) := s.modOutlet_route _ rfl
    split
    · split
      · exact hs
      · split
        · split
          · have hc := hs.trans (Part.modOutlet_route (fun k => { k with pending := none }) _ rfl)
            cases t with
            | outlet o => exact hc.trans (Part.reportStart_route o _)
            | closed => exact hc
          · simp only
            split
            · exact hs.trans (Part.modOutlet_route _ _ rfl)
            · exact hs
        · simp only
          split
          · exact hs.trans (Part.beginChange_route _ _)
          · exact hs
    · exact hs.trans (Part.modOutlet_route _ _ rfl)

/-- A planned route handed to the outlet controller (R107, R116). -/
theorem Part.handRoute_route (r : Route) (s : Part) : RouteFrame s (s.handRoute r) :=
  (s.modOutlet_route _ rfl).trans (Part.retarget_route _)

theorem Part.overrideMade_route (c : ChannelNo) (r : Route) (s : Part) :
    RouteFrame s (s.overrideMade c r) := (s.modOutlet_route _ rfl).trans (Part.retarget_route _)

theorem Part.overrideGone_route (c : ChannelNo) (s : Part) : RouteFrame s (s.overrideGone c) :=
  (s.modOutlet_route _ rfl).trans (Part.retarget_route _)

theorem Part.holdEvent_route (s : Part) : RouteFrame s s.holdEvent := by
  unfold Part.holdEvent
  split
  · have hp : RouteFrame s (s.modOutlet (fun k => { k with conflictHold := false, reported := false })) :=
      s.modOutlet_route _ rfl
    simp only
    split
    · exact hp.trans (Part.beginChange_route _ _)
    · exact hp
  · exact .refl s

theorem Part.reportConflict_route (s : Part) : RouteFrame s s.reportConflict := by
  unfold Part.reportConflict
  split
  · have hp : RouteFrame s (s.modOutlet (fun k => { k with reported := true })) := s.modOutlet_route _ rfl
    simp only
    split
    · exact hp.trans (Part.holdEvent_route _)
    · exact hp
  · exact .refl s

theorem Part.confirmOpen_route (o : Outlet) (s : Part) : RouteFrame s (s.confirmOpen o) := by
  unfold Part.confirmOpen
  split
  · have hd := (s.command_route o .idle)
    simp only
    split
    · exact (hd.trans (Part.openConfirmed_route _ _ _)).trans (Part.applyPending_route _)
    · exact hd.trans (Part.openConfirmed_route _ _ _)
  · exact .refl s

theorem Part.confirmClosed_route (o : Outlet) (s : Part) : RouteFrame s (s.confirmClosed o) := by
  unfold Part.confirmClosed
  split
  · simp only
    split
    · exact s.command_route o .idle
    · exact ((s.command_route o .idle).trans (Part.completeAt_route _ _)).trans
        (Part.applyPending_route _)
  · exact .refl s

/-- A taken limit level at the outlet controller (R118, R121, R122). -/
theorem Part.limitEvent_route (o : Outlet) (input : LimitInput) (active : Bool) (s : Part) :
    RouteFrame s (s.limitEvent o input active) := by
  unfold Part.limitEvent
  split
  · cases input <;> cases active <;> simp only
    · split
      · exact s.faultOutlet_route _ _
      · exact .refl s
    · split
      · exact s.confirmOpen_route o
      · split
        · exact s.faultOutlet_route _ _
        · exact .refl s
    · exact .refl s
    · split
      · exact (s.markStuck_route _ _).trans (Part.confirmClosed_route _ _)
      · exact s.markStuck_route _ _
  · exact .refl s

theorem Part.closeFailed_route (o : Outlet) (s : Part) : RouteFrame s (s.closeFailed o) :=
  ((s.command_route _ _).trans (Part.markStuck_route _ _ _)).trans (Part.faultOutlet_route _ _ _)

/-- The travel timer expired (R120, R121). -/
theorem Part.travelExpired_route (s : Part) : RouteFrame s s.travelExpired := by
  unfold Part.travelExpired
  split
  · exact .refl s
  · split
    · split
      · exact (((s.command_route _ _).trans (Part.faultOutlet_route _ _ _)).trans
          (Part.finish_route _ _)).trans (Part.applyPending_route _)
      · exact (s.finish_route _).trans (Part.applyPending_route _)
    · exact ((RouteFrame.foldl _ (fun t o => t.closeFailed_route o) _ s).trans
        (Part.finish_route _ _)).trans (Part.applyPending_route _)

theorem Part.followRoute_route (s : Part) : RouteFrame s s.followRoute := by
  unfold Part.followRoute
  split
  · exact s.modOutlet_route _ rfl
  · exact .refl s

theorem Part.handPlanned_route (s : Part) : RouteFrame s s.handPlanned := by
  unfold Part.handPlanned
  split
  · exact .refl s
  · split
    · exact .refl s
    · exact s.handRoute_route _

/-! ## Orders, plans and launches -/

theorem Part.modPlanner_stage (f : Planner → Planner) (s : Part)
    (h : (f s.planner).nextOrder = s.planner.nextOrder) : StageFrame s (s.modPlanner f) := by
  constructor
  case alarms => exact fun _ h => h
  case nextOrder => exact h
  all_goals rfl

theorem Part.setPlanned_stage (r : Route) (s : Part) : StageFrame s (s.setPlanned r) :=
  s.modPlanner_stage _ rfl

theorem Part.setPlan_stage (p : Option CutPlan) (s : Part) : StageFrame s (s.setPlan p) := by
  unfold Part.setPlan
  split
  · exact (s.modHead_route _ _).stage
  · exact .refl s

theorem Part.takeRoute_stage (clean : Bool) (g : Segment) (s : Part) :
    StageFrame s (s.takeRoute clean g) :=
  (s.setPlanned_stage _).trans (Part.raiseIf_line _ _ _).route.stage

theorem Part.recompute_stage (s : Part) : StageFrame s s.recompute := by
  unfold Part.recompute
  split
  · exact .refl s
  · split
    · exact .refl s
    · split
      · exact .refl s
      · simp only
        split
        · exact .refl s
        · split
          · exact (s.setPlan_stage _).trans (Part.takeRoute_stage _ _ _)
          · exact s.setPlan_stage _

theorem Part.enterPlan_stage (s : Part) : StageFrame s s.enterPlan := by
  unfold Part.enterPlan
  split
  · split
    · exact (s.setPlan_stage _).trans (Part.takeRoute_stage _ _ _)
    · exact .refl s
  · exact .refl s

theorem Part.stripPlan_stage (n : Nat) (s : Part) : StageFrame s (s.stripPlan n) := by
  unfold Part.stripPlan
  split
  · split
    · exact s.setPlan_stage _
    · exact .refl s
  · exact .refl s

theorem Part.redirect_stage (s : Part) : StageFrame s s.redirect := s.takeRoute_stage _ _

/-- An order that ends (R99). -/
theorem Part.endOrder_stage (o : Order) (reason : EndReason) (s : Part) :
    StageFrame s (s.endOrder o reason) := by
  have h := ((s.writeRecord_route (.delivery o.number o.batch o.outlet
    (if o.filling then s.vol.tally else 0) reason)).trans
    (Part.modBatch_route o.batch (fun r => { r with orderLink := none }) _)).stage.trans
    (Part.modPlanner_stage (fun p =>
      { p with orders := p.orders.filter (fun e => decide (e.number ≠ o.number)) }) _ rfl)
  unfold Part.endOrder
  simp only
  split
  · exact h.trans (Part.recompute_stage _)
  · exact ((h.trans (Part.redirect_stage _)).trans (Part.stripPlan_stage _ _)).trans
      (Part.recompute_stage _)
  · exact (h.trans (Part.stripPlan_stage _ _)).trans (Part.recompute_stage _)

theorem Part.endFilling_stage (keep : Option Nat) (reason : EndReason) (s : Part) :
    StageFrame s (s.endFilling keep reason) := by
  unfold Part.endFilling
  split
  · split
    · exact .refl s
    · exact s.endOrder_stage _ _
  · exact .refl s

theorem Part.turnFilling_stage (n : Nat) (s : Part) : StageFrame s (s.turnFilling n) := by
  constructor
  case alarms => exact fun _ h => h
  all_goals rfl

theorem Part.takeSegment_stage (clean : Bool) (g : Segment) (s : Part) :
    StageFrame s (s.takeSegment clean g) := by
  have h := s.endFilling_stage g.owner .done
  unfold Part.takeSegment
  simp only
  split
  · split
    · exact h.trans (Part.takeRoute_stage _ _ _)
    · exact (h.trans (Part.turnFilling_stage _ _)).trans (Part.takeRoute_stage _ _ _)
  · exact h.trans (Part.takeRoute_stage _ _ _)

/-- A step's stages taken by the cut planner (R103). -/
theorem Part.planStep_stage (last : Stage) (s : Part) : StageFrame s (s.planStep last) := by
  unfold Part.planStep
  split
  · exact .refl s
  · exact (s.setPlan_stage _).trans (Part.takeSegment_stage _ _ _)

theorem Part.planWithdrawal_stage (s : Part) : StageFrame s s.planWithdrawal := by
  unfold Part.planWithdrawal
  split
  · exact (s.setPlan_stage _).trans (Part.takeRoute_stage _ _ _)
  · exact .refl s

theorem Part.lateStart_stage (o : Order) (s : Part) : StageFrame s (s.lateStart o) :=
  (((s.endFilling_stage _ _).trans (Part.turnFilling_stage _ _)).trans
    (Part.setPlanned_stage _ _)).trans (Part.recompute_stage _)

theorem Part.lateStartFor_stage (b : BatchNo) (s : Part) : StageFrame s (s.lateStartFor b) := by
  unfold Part.lateStartFor
  split
  · split
    · exact .refl s
    · exact s.lateStart_stage _
  · exact .refl s

theorem Part.limitTest_stage (s : Part) : StageFrame s s.limitTest := by
  unfold Part.limitTest
  split
  · split
    · exact (s.endOrder_stage _ _).trans (Part.handPlanned_route _).stage
    · exact .refl s
  · exact .refl s

theorem Part.guardEnd_stage (s : Part) : StageFrame s s.guardEnd := by
  unfold Part.guardEnd
  split
  · exact (s.endOrder_stage _ _).trans (Part.handPlanned_route _).stage
  · exact .refl s

theorem Part.endRetired_stage (r : BatchRecord) (s : Part) : StageFrame s (s.endRetired r) := by
  unfold Part.endRetired
  split
  · exact s.endOrder_stage _ _
  · exact .refl s

/-- A frame that every step of a fold keeps holds of the fold. -/
theorem StageFrame.foldl {α : Type} (f : Part → α → Part) (h : ∀ s a, StageFrame s (f s a)) (l : List α)
    (s : Part) : StageFrame s (l.foldl f s) := by
  induction l generalizing s with
  | nil => exact .refl s
  | cons a l ih => exact (h s a).trans (ih _)

/-- The retirement test (R15, R16). -/
theorem Part.retire_stage (s : Part) : StageFrame s s.retire := by
  unfold Part.retire
  refine StageFrame.trans (t := { s with train := _ }) ?_
    (StageFrame.foldl _ (fun t r => Part.endRetired_stage r t) _ _)
  constructor
  case alarms => exact fun _ h => h
  all_goals rfl

theorem Part.decideCut_stage (e : LaunchEntry) (rest : List LaunchEntry) (s : Part) :
    StageFrame s (s.decideCut e rest) := by
  have h := ((s.modPlanner_stage (fun p =>
    { p with launches := rest, incoming := some e, planned := some (.outlet e.outlet) }) rfl).trans
    (Part.handRoute_route (.outlet e.outlet) _).stage).trans (Part.holdEvent_route _).stage
  unfold Part.decideCut
  simp only
  split
  · exact h.trans (Part.launchEffect_route _ _).stage
  · exact h

/-- The cut test (R110). -/
theorem Part.cutTest_stage (s : Part) : StageFrame s s.cutTest := by
  unfold Part.cutTest
  split
  · split
    · unfold Part.showEmpty
      split
      · exact (s.modPlanner_stage (fun p => { p with emptyShown := true }) rfl).trans
          (Part.raise_line _ _).route.stage
      · exact .refl s
    · split
      · exact .refl s
      · exact s.decideCut_stage _ _
  · exact .refl s

theorem Part.addLaunched_stage (n : Nat) (s : Part) : StageFrame s (s.addLaunched n) :=
  s.modPlanner_stage _ rfl

/-! ## The detector -/

theorem Part.modDet_stage (f : Detector → Detector) (s : Part) : StageFrame s (s.modDet f) := by
  constructor
  case alarms => exact fun _ h => h
  all_goals rfl

theorem Part.modWindow_stage (f : HeadInterface → HeadInterface) (s : Part) :
    StageFrame s (s.modWindow f) := by
  unfold Part.modWindow
  split
  · exact (s.modHead_route _ _).stage
  · exact .refl s

theorem Part.setChannel_stage (ch : Channel × Option RefSet) (s : Part) :
    StageFrame s (s.setChannel ch) := (s.modWindow_stage _).trans (Part.modDet_stage _ _)

theorem Part.enterWindow_stage (b : BatchNo) (s : Part) : StageFrame s (s.enterWindow b) := by
  unfold Part.enterWindow
  exact ((((s.modDet_stage _).trans (Part.setChannel_stage _ _)).trans (Part.modDet_stage _ _)).trans
    (Part.modDet_stage _ _)).trans ((Part.enterPlan_stage _).trans (Part.handPlanned_route _).stage)

theorem Part.nextWindow_stage (s : Part) : StageFrame s s.nextWindow := by
  unfold Part.nextWindow
  split
  · exact s.enterWindow_stage _
  · exact s.modDet_stage _

theorem Part.takeStage_stage (m : Method) (g : Stage) (s : Part) : StageFrame s (s.takeStage m g) := by
  unfold Part.takeStage
  cases g
  · exact (s.modWindow_stage _).trans (Part.modDet_stage _ _)
  · exact (s.modWindow_stage _).trans (Part.modDet_stage _ _)
  · exact s.modWindow_stage _

theorem Part.reportPassage_route (s : Part) : RouteFrame s s.reportPassage := by
  unfold Part.reportPassage
  split
  · simp only
    split
    · exact s.writeRecord_route _
    · exact (s.writeRecord_route _).trans (Part.enqueue_line _ _).route
  · exact .refl s

/-- The completion of an interface (R91). -/
theorem Part.complete_stage (s : Part) : StageFrame s s.complete := by
  unfold Part.complete
  split
  · exact .refl s
  · exact ((((((((s.modWindow_stage _).trans (Part.reportPassage_route _).stage).trans
      (Part.planStep_stage _ _)).trans (Part.setPlan_stage _ _)).trans
      (Part.mapTrain_route _ _).stage).trans (Part.lateStartFor_stage _ _)).trans
      (Part.retire_stage _)).trans (Part.modDet_stage _ _)).trans
      (((Part.handPlanned_route _).trans (Part.holdEvent_route _)).stage.trans (Part.nextWindow_stage _))

/-- A step of stages (R83). -/
theorem Part.takeStages_stage (m : Method) (stages : List Stage) (s : Part) :
    StageFrame s (s.takeStages m stages) := by
  have h := StageFrame.foldl (Part.takeStage m) (fun t g => t.takeStage_stage m g) stages s
  unfold Part.takeStages
  split
  · exact .refl s
  · simp only
    split
    · exact h.trans (Part.complete_stage _)
    · exact h.trans ((Part.planStep_stage _ _).trans
        ((Part.handPlanned_route _).trans (Part.holdEvent_route _)).stage)
    · exact h.trans ((Part.planStep_stage _ _).trans
        ((Part.handPlanned_route _).trans (Part.holdEvent_route _)).stage)

theorem Part.markOverdue_stage (again : Bool) (h : HeadInterface) (s : Part) :
    StageFrame s (s.markOverdue again h) :=
  (s.modWindow_stage _).trans (Part.raiseIf_line _ _ _).route.stage

/-- The evaluation of the window and of each window entered (R84 to R86). -/
theorem Part.evaluateWith_stage (fuel : Nat) (waited : Bool) (s : Part) :
    StageFrame s (s.evaluateWith fuel waited) := by
  induction fuel generalizing waited s with
  | zero => exact .refl s
  | succ n ih =>
    unfold Part.evaluateWith
    split
    · exact .refl s
    · split
      · split
        · split
          · exact s.markOverdue_stage _ _
          · exact .refl s
        · simp only
          split
          · exact (s.takeStages_stage _ _).trans (ih _ _)
          · exact s.takeStages_stage _ _
      · split
        · simp only
          split
          · exact s.markOverdue_stage _ _
          · exact ((s.markOverdue_stage _ _).trans (Part.takeStages_stage _ _ _)).trans (ih _ _)
        · exact .refl s

theorem Part.evaluate_stage (s : Part) : StageFrame s s.evaluate := s.evaluateWith_stage _ _

theorem Part.handOffReleased_stage (before s : Part) : StageFrame s (Part.handOffReleased before s) :=
  s.evaluateWith_stage _ _

theorem Part.windowAfterInsertion_stage (s : Part) : StageFrame s s.windowAfterInsertion := by
  unfold Part.windowAfterInsertion
  split
  · exact .refl s
  · exact ((s.modWindow_stage _).trans (Part.nextWindow_stage _)).trans (Part.evaluate_stage _)

theorem Part.readinessReport_stage (s : Part) : StageFrame s s.readinessReport := by
  unfold Part.readinessReport
  split
  · exact .refl s
  · split
    · simp only
      split
      · exact .refl s
      · exact ((s.setChannel_stage _).trans (Part.modDet_stage _ _)).trans (Part.evaluate_stage _)
    · split
      · split
        · exact .refl s
        · exact ((s.setChannel_stage _).trans (Part.modDet_stage _ _)).trans (Part.evaluate_stage _)
      · exact .refl s

theorem Part.withdraw_stage (s : Part) : StageFrame s s.withdraw := by
  unfold Part.withdraw
  exact (((s.modWindow_stage _).trans (Part.modDet_stage _ _)).trans (Part.modDet_stage _ _)).trans
    ((Part.planWithdrawal_stage _).trans
      ((Part.handPlanned_route _).trans (Part.holdEvent_route _)).stage)

/-- The event's readings taken (R78 to R83). -/
theorem Part.takeReadings_stage (density marker : Option Int) (s : Part) :
    StageFrame s (s.takeReadings density marker) := by
  unfold Part.takeReadings
  split
  · simp only
    split
    · exact .refl s
    · split
      · exact (s.modDet_stage _).trans (Part.withdraw_stage _)
      · split
        · exact ((s.modDet_stage _).trans (Part.takeStages_stage _ _ _)).trans (Part.evaluate_stage _)
        · exact (s.modDet_stage _).trans (Part.takeStages_stage _ _ _)
  · exact .refl s

theorem Part.creditMixList_stage (n : Nat) (s : Part) : StageFrame s (s.creditMixList n) := by
  unfold Part.creditMixList
  split
  · split
    · exact s.modDet_stage _
    · exact .refl s
  · exact .refl s

theorem Part.force_stage (g : Stage) (s : Part) : StageFrame s (s.force g).1 := by
  have h := ((s.takeStages_stage .forced [g]).trans
    (Part.modDet_stage (fun d =>
      { d with leadCount := 0, midCount := 0, trailCount := 0, breakRun := 0 }) _)).trans
    ((Part.evaluate_stage _).trans (Part.holdEvent_route _).stage)
  cases g <;> exact h

/-! ## The tracking engine and the train store -/

theorem Part.flowStep_stage (arrival trunk : Nat) (s : Part) : StageFrame s (s.flowStep arrival trunk) :=
  ((s.mapTrain_route _).stage.trans (Part.retire_stage _)).trans (Part.handPlanned_route _).stage

theorem Part.handOffIfMoved_stage (before : Option Int) (s : Part) :
    StageFrame s (s.handOffIfMoved before) := by
  unfold Part.handOffIfMoved
  split
  · exact .refl s
  · exact s.evaluate_stage

theorem Part.applyDelta_stage (chainage delta : Nat) (s : Part) :
    StageFrame s (s.applyDelta chainage delta) := by
  unfold Part.applyDelta
  split
  · exact (((s.mapTrain_route _).stage.trans (Part.retire_stage _)).trans
      (Part.handPlanned_route _).stage).trans (Part.handOffIfMoved_stage _ _)
  · exact .refl s

theorem Part.applyRestart_stage (role : Role) (chainage : Nat) (s : Part) :
    StageFrame s (s.applyRestart role chainage) := by
  unfold Part.applyRestart
  split
  · exact (s.mapTrain_route _).stage.trans (Part.handOffReleased_stage _ _)
  · exact .refl s

theorem Part.offerNotice_stage (before : Part) (own released : Bool) (s : Part) :
    StageFrame s (Part.offerNotice before own released s) := by
  unfold Part.offerNotice
  split
  · split
    · split
      · exact Part.handOffReleased_stage _ _
      · exact s.handOffIfMoved_stage _
    · split
      · exact Part.handOffReleased_stage _ _
      · exact s.handOffIfMoved_stage _
    · split
      · exact Part.handOffReleased_stage _ _
      · exact .refl s
  · exact s.windowAfterInsertion_stage

theorem Part.insertNew_stage (r : BatchRecord) (d : Int) (s : Part) : StageFrame s (s.insertNew r d) :=
  (((s.mapTrain_route _).stage.trans (Part.retire_stage _)).trans (Part.handPlanned_route _).stage).trans
    (Part.offerNotice_stage _ _ _ _)

/-- A record offered to the train (R6, R13, R14). -/
theorem Part.offerRecord_stage (r : BatchRecord) (d : Int) (s : Part) :
    StageFrame s (s.offerRecord r d) := by
  unfold Part.offerRecord
  split
  · exact .refl s
  · exact .refl s
  · exact (s.raise_line _).route.stage
  · exact s.insertNew_stage _ _

theorem Part.takeLaunch_stage (source : Nat) (batch : BatchNo) (product leadProduct : Product)
    (nominated launchWidth trail : Nat) (s : Part) :
    StageFrame s (s.takeLaunch source batch product leadProduct nominated launchWidth trail) := by
  unfold Part.takeLaunch
  split
  · exact .refl s
  · split
    · exact (s.modBatch_route _ _).stage
    · exact s.offerRecord_stage _ _

theorem Part.reanchor_stage (source chainage : Nat) (batch : BatchNo) (trail width : Nat)
    (h : HeadInterface) (s : Part) : StageFrame s (s.reanchor source chainage batch trail width h) :=
  (((s.mapTrain_route _).stage.trans (Part.retire_stage _)).trans (Part.handPlanned_route _).stage).trans
    (Part.offerNotice_stage _ _ _ _)

theorem Part.takePassage_stage (source chainage : Nat) (batch : BatchNo) (product leadProduct : Product)
    (trail width : Nat) (s : Part) :
    StageFrame s (s.takePassage source chainage batch product leadProduct trail width) := by
  unfold Part.takePassage
  split
  · exact (s.modStats_line _).route.stage
  · split
    · split
      · split
        · exact .refl s
        · exact s.reanchor_stage _ _ _ _ _ _
      · exact .refl s
    · exact s.offerRecord_stage _ _

theorem Part.mergeEntry_stage (source chainage : Nat) (e : ReportEntry) (s : Part) :
    StageFrame s (s.mergeEntry source chainage e) := by
  unfold Part.mergeEntry
  split
  · exact .refl s
  · exact s.offerRecord_stage _ _

theorem mergeEntries_stage (source chainage : Nat) (entries : List ReportEntry) (x : Part × MergeCounts) :
    StageFrame x.1 (mergeEntries source chainage entries x).1 := by
  induction entries generalizing x with
  | nil => exact .refl _
  | cons e rest ih =>
    obtain ⟨s, n⟩ := x
    unfold mergeEntries
    simp only
    refine StageFrame.trans ?_ (ih _)
    split
    · exact .refl s
    · exact s.mergeEntry_stage _ _ _

/-! ## Guards -/

/-- A guard channel's action applied at its make (R136). -/
theorem Part.applyAction_stage (c : ChannelNo) (a : GuardAction) (s : Part) :
    StageFrame s (s.applyAction c a) := by
  unfold Part.applyAction
  split
  · exact (s.overrideMade_route _ _).stage
  · split
    · exact s.guardEnd_stage
    · exact .refl s

/-- A guard channel's action withdrawn (R137). -/
theorem Part.withdrawAction_stage (c : ChannelNo) (a : GuardAction) (s : Part) :
    StageFrame s (s.withdrawAction c a) := by
  unfold Part.withdrawAction
  split
  · exact (s.overrideGone_route _).stage
  · split
    · exact s.cutTest_stage
    · exact .refl s

/-! ## The planner's and the detector's shares of a sample event, and the answer to a request -/

theorem Part.plannerShare_stage (trunk : Nat) (s : Part) : StageFrame s (s.plannerShare trunk) := by
  unfold Part.plannerShare
  split
  · exact (s.addLaunched_stage _).trans (Part.cutTest_stage _)
  · exact s.limitTest_stage

theorem Part.detectorShare_stage (e : Sample) (n : Counted) (readiness moved : Bool) (s : Part) :
    StageFrame s (s.detectorShare e n readiness moved) := by
  unfold Part.detectorShare
  simp only
  have h1 : StageFrame s (if readiness then s.readinessReport else s) := by
    split
    · exact s.readinessReport_stage
    · exact .refl s
  generalize (if readiness then s.readinessReport else s) = r at h1 ⊢
  have h2 : StageFrame s (if moved && decide (r.det.window = s.det.window) then r.evaluate else r) := by
    split
    · exact h1.trans r.evaluate_stage
    · exact h1
  generalize (if moved && decide (r.det.window = s.det.window) then r.evaluate else r) = q at h2 ⊢
  split
  · exact h2.trans (q.takeReadings_stage _ _)
  · exact h2

theorem Part.answerRequest_line (source : Nat) (tag : BitVec 16) (s : Part) :
    LineFrame s (s.answerRequest source tag) := by
  unfold Part.answerRequest
  simp only
  split
  · exact LineFrame.foldl _ (fun t n => Part.enqueue_line n t) _ s
  · exact .refl s

end Sys2Proof.Machine
end

