-- ==== Sys2Proof/Laws/Outlet.lean ====
section
/-! SUPPORT. The narrowest frame of the outlet controller: while no launch cut waits, a route change and all that
starts one reach the outlet controller and alarm flags that rise, and nothing else (R117, R111). -/

namespace Sys2Proof.Machine

/-- `t` agrees with `s` in all but the outlet controller, whose mode stays, and alarm flags that rise. -/
structure OutletFrame (s t : Part) : Prop where
  now : t.now = s.now
  inst : t.inst = s.inst
  vol : t.vol = s.vol
  train : t.train = s.train
  det : t.det = s.det
  planner : t.planner = s.planner
  guard : t.guard = s.guard
  bus : t.bus = s.bus
  peer : t.peer = s.peer
  image : t.image = s.image
  mode : t.outlet.mode = s.outlet.mode
  response : t.port.response = s.port.response
  discarded : t.port.discarded = s.port.discarded
  records : t.port.records = s.port.records
  seq : t.port.seq = s.port.seq
  loss : t.port.loss = s.port.loss
  resetCause : t.port.resetCause = s.port.resetCause
  alarms : ∀ a, s.port.alarmSet a = true → t.port.alarmSet a = true

theorem OutletFrame.refl (s : Part) : OutletFrame s s := by constructor <;> simp

theorem OutletFrame.trans {s t u : Part} (h : OutletFrame s t) (k : OutletFrame t u) :
    OutletFrame s u := by
  constructor
  case alarms => exact fun a ha => k.alarms a (h.alarms a ha)
  all_goals first
    | exact k.now.trans h.now | exact k.inst.trans h.inst | exact k.vol.trans h.vol
    | exact k.train.trans h.train | exact k.det.trans h.det | exact k.planner.trans h.planner
    | exact k.guard.trans h.guard | exact k.bus.trans h.bus | exact k.peer.trans h.peer
    | exact k.image.trans h.image | exact k.mode.trans h.mode | exact k.response.trans h.response
    | exact k.discarded.trans h.discarded | exact k.records.trans h.records | exact k.seq.trans h.seq
    | exact k.loss.trans h.loss | exact k.resetCause.trans h.resetCause

theorem OutletFrame.foldl {α : Type} (f : Part → α → Part) (h : ∀ s a, OutletFrame s (f s a)) (l : List α)
    (s : Part) : OutletFrame s (l.foldl f s) := by
  induction l generalizing s with
  | nil => exact .refl s
  | cons a l ih => exact (h s a).trans (ih _)

theorem Part.modOutlet_outlet_frame (f : OutletController → OutletController) (s : Part)
    (h : (f s.outlet).mode = s.outlet.mode) : OutletFrame s (s.modOutlet f) := by
  constructor
  case alarms => exact fun _ h => h
  case mode => exact h
  all_goals rfl

theorem Part.raise_outlet_frame (a : Alarm) (s : Part) : OutletFrame s (s.raise a) := by
  constructor
  case alarms => intro b hb; simp [hb]
  all_goals rfl

theorem Part.command_outlet_frame (o : Outlet) (c : CommandState) (s : Part) :
    OutletFrame s (s.command o c) := s.modOutlet_outlet_frame _ rfl

theorem Part.markStuck_outlet_frame (o : Outlet) (b : Bool) (s : Part) :
    OutletFrame s (s.markStuck o b) := s.modOutlet_outlet_frame _ rfl

theorem Part.finish_outlet_frame (r : CurrentRoute) (s : Part) : OutletFrame s (s.finish r) :=
  s.modOutlet_outlet_frame _ rfl

theorem Part.inFlight_outlet_frame (src : CurrentRoute) (target : Route) (ph : ChangePhase) (s : Part) :
    OutletFrame s (s.inFlight src target ph) := s.modOutlet_outlet_frame _ rfl

theorem Part.faultOutlet_outlet_frame (o : Outlet) (f : OutletFault) (s : Part) :
    OutletFrame s (s.faultOutlet o f) := by
  unfold Part.faultOutlet
  exact (s.modOutlet_outlet_frame _ rfl).trans (Part.raise_outlet_frame _ _)

theorem Part.completeAt_outlet_frame (target : Route) (s : Part) :
    OutletFrame s (s.completeAt target) := by
  unfold Part.completeAt
  split
  · exact (s.markStuck_outlet_frame _ _).trans (Part.finish_outlet_frame _ _)
  · exact s.finish_outlet_frame _

theorem Part.closeFor_outlet_frame (o : Outlet) (src : CurrentRoute) (target : Route) (s : Part) :
    OutletFrame s (s.closeFor o src target) := by
  unfold Part.closeFor
  split
  · exact s.completeAt_outlet_frame _
  · exact (s.command_outlet_frame _ _).trans (Part.inFlight_outlet_frame _ _ _ _)

theorem Part.clearFor_outlet_frame (target : Route) (s : Part) : OutletFrame s (s.clearFor target) := by
  unfold Part.clearFor
  split
  · exact s.completeAt_outlet_frame _
  · exact (OutletFrame.foldl _ (fun t o => t.command_outlet_frame o .closing) _ s).trans
      (Part.inFlight_outlet_frame _ _ _ _)

theorem Part.openConfirmed_outlet_frame (src : CurrentRoute) (target : Route) (s : Part) :
    OutletFrame s (s.openConfirmed src target) := by
  unfold Part.openConfirmed
  split
  · exact s.closeFor_outlet_frame _ _ _
  · exact s.completeAt_outlet_frame _
  · exact s.clearFor_outlet_frame _

/-- With no launch cut waiting, the report of a start changes nothing (R111). -/
theorem Part.reportStart_none (o : Outlet) (s : Part) (h : s.planner.incoming = none) :
    s.reportStart o = s := by
  unfold Part.reportStart
  rw [h]

theorem Part.beginChange_outlet_frame (target : Route) (s : Part) (h : s.planner.incoming = none) :
    OutletFrame s (s.beginChange target) := by
  have hp : OutletFrame s (s.modOutlet (fun k => { k with pending := none })) :=
    s.modOutlet_outlet_frame _ rfl
  cases target with
  | outlet b =>
    have hb := hp.trans ((Part.command_outlet_frame b .opening _).trans
      (Part.inFlight_outlet_frame s.outlet.current (.outlet b) .opening _))
    have hr := Part.reportStart_none b _ (by rw [hb.planner]; exact h)
    simp only [Part.beginChange]
    rw [hr]
    split
    · exact hb.trans ((Part.command_outlet_frame b .idle _).trans
        (Part.openConfirmed_outlet_frame _ _ _))
    · exact hb
  | closed =>
    simp only [Part.beginChange]
    split
    · exact hp.trans (Part.closeFor_outlet_frame _ _ _ _)
    · exact hp
    · exact hp.trans (Part.clearFor_outlet_frame _ _)

theorem Part.applyPending_outlet_frame (s : Part) (h : s.planner.incoming = none) :
    OutletFrame s s.applyPending := by
  unfold Part.applyPending
  split
  · exact .refl s
  · have hp : OutletFrame s (s.modOutlet (fun k => { k with pending := none })) :=
      s.modOutlet_outlet_frame _ rfl
    split
    · exact hp
    · exact hp.trans (Part.beginChange_outlet_frame _ _ h)

theorem Part.retarget_outlet_frame (s : Part) (h : s.planner.incoming = none) :
    OutletFrame s s.retarget := by
  unfold Part.retarget
  split
  · exact s.modOutlet_outlet_frame _ rfl
  · rename_i t _
    have hs : OutletFrame s (s.modOutlet (fun k => { k with target := some t })) :=
      s.modOutlet_outlet_frame _ rfl
    split
    · split
      · exact hs
      · split
        · split
          · have hc := hs.trans (Part.modOutlet_outlet_frame (fun k => { k with pending := none }) _ rfl)
            cases t with
            | outlet o =>
              simp only
              rw [Part.reportStart_none o _ (by rw [hc.planner]; exact h)]
              exact hc
            | closed => exact hc
          · simp only
            split
            · exact hs.trans (Part.modOutlet_outlet_frame _ _ rfl)
            · exact hs
        · simp only
          split
          · exact hs.trans (Part.beginChange_outlet_frame _ _ h)
          · exact hs
    · exact hs.trans (Part.modOutlet_outlet_frame _ _ rfl)

theorem Part.handRoute_outlet_frame (r : Route) (s : Part) (h : s.planner.incoming = none) :
    OutletFrame s (s.handRoute r) :=
  (s.modOutlet_outlet_frame _ rfl).trans (Part.retarget_outlet_frame _ h)

theorem Part.overrideMade_outlet_frame (c : ChannelNo) (r : Route) (s : Part)
    (h : s.planner.incoming = none) : OutletFrame s (s.overrideMade c r) :=
  (s.modOutlet_outlet_frame _ rfl).trans (Part.retarget_outlet_frame _ h)

theorem Part.overrideGone_outlet_frame (c : ChannelNo) (s : Part) (h : s.planner.incoming = none) :
    OutletFrame s (s.overrideGone c) :=
  (s.modOutlet_outlet_frame _ rfl).trans (Part.retarget_outlet_frame _ h)

theorem Part.holdEvent_outlet_frame (s : Part) (h : s.planner.incoming = none) :
    OutletFrame s s.holdEvent := by
  unfold Part.holdEvent
  split
  · have hp : OutletFrame s (s.modOutlet (fun k => { k with conflictHold := false, reported := false })) :=
      s.modOutlet_outlet_frame _ rfl
    simp only
    split
    · exact hp.trans (Part.beginChange_outlet_frame _ _ h)
    · exact hp
  · exact .refl s

theorem Part.handPlanned_outlet_frame (s : Part) (h : s.planner.incoming = none) :
    OutletFrame s s.handPlanned := by
  unfold Part.handPlanned
  split
  · exact .refl s
  · split
    · exact .refl s
    · exact s.handRoute_outlet_frame _ h

theorem Part.confirmOpen_outlet_frame (o : Outlet) (s : Part) (h : s.planner.incoming = none) :
    OutletFrame s (s.confirmOpen o) := by
  unfold Part.confirmOpen
  split
  · rename_i c _
    have hd := (s.command_outlet_frame o .idle).trans
      (Part.openConfirmed_outlet_frame c.source c.target _)
    simp only
    split
    · exact hd.trans (Part.applyPending_outlet_frame _ (by rw [hd.planner]; exact h))
    · exact hd
  · exact .refl s

theorem Part.confirmClosed_outlet_frame (o : Outlet) (s : Part) (h : s.planner.incoming = none) :
    OutletFrame s (s.confirmClosed o) := by
  unfold Part.confirmClosed
  split
  · rename_i c _
    have hd := (s.command_outlet_frame o .idle).trans (Part.completeAt_outlet_frame c.target _)
    simp only
    split
    · exact s.command_outlet_frame o .idle
    · exact hd.trans (Part.applyPending_outlet_frame _ (by rw [hd.planner]; exact h))
  · exact .refl s

end Sys2Proof.Machine
end

