-- ==== Sys2Proof/Tests/Slice0.lean ====
section
/-! SUPPORT. The model's own tests: ill-formed terms refused, frames written out octet by octet, small one-step tests
with values worked out by hand from the rules, and for every statement with hypotheses a state and operands
that meet them. -/

namespace Sys2Proof.Tests

open Sys2Proof.Machine

set_option maxRecDepth 30000

/-! ## WellFormed -/

theorem test_storeImage_295_octets_is_illFormed :
    (Instr.storeImage 0 true false 0 (List.replicate 295 0)).wellFormed = false := by decide

theorem test_lineFrame_97_octets_is_illFormed :
    (Instr.lineFrameReceived 0 (List.replicate 97 0)).wellFormed = false := by decide

theorem test_collision_after_769_bits_is_illFormed : (Instr.collision 0 769).wellFormed = false := by decide

theorem test_silence_of_stations_0_and_49_is_illFormed :
    (Instr.peerSilenceExpiry 0 0).wellFormed = false ∧ (Instr.peerSilenceExpiry 0 49).wellFormed = false := by
  decide

theorem test_bounds_are_wellFormed :
    (Instr.storeImage 0 true false 0 (List.replicate 294 0)).wellFormed = true ∧
      (Instr.lineFrameReceived 0 (List.replicate 96 0)).wellFormed = true ∧
      (Instr.collision 0 768).wellFormed = true ∧ (Instr.peerSilenceExpiry 0 1).wellFormed = true ∧
      (Instr.peerSilenceExpiry 0 48).wellFormed = true := by decide

/-! ## Frames at the station port, octet by octet (12.3; check words by R176, worked out apart from the model) -/

/-- The check word's own example (R176). -/
theorem test_checkWord_of_123456789 :
    checkWord [0x31, 0x32, 0x33, 0x34, 0x35, 0x36, 0x37, 0x38, 0x39] = 0x29B1 := by decide

/-- A frame that comes as R166 asks. -/
def read (frame : List Octet) : Instr := decodePortFrame 7 true true true frame

theorem test_frame_identify : read [0x7E, 0x00, 0x01, 0x01, 0x47, 0xFF] = .identify 7 := by decide

theorem test_frame_readStatus :
    read [0x7E, 0x00, 0x04, 0x02, 0x01, 0x00, 0x40, 0x5C, 0xBD] = .readStatus 7 0x010040 := by decide

theorem test_frame_storeImage :
    read [0x7E, 0x00, 0x08, 0x10, 0x03, 0x01, 0xFE, 0x00, 0x02, 0xAB, 0xCD, 0xE2, 0x75] =
      .storeImage 7 true true 510 [0xAB, 0xCD] := by decide

theorem test_frame_start :
    read [0x7E, 0x00, 0x06, 0x12, 0x01, 0x01, 0x12, 0x34, 0x05, 0x98, 0x2D] = .start 7 1 1 0x1234 5 := by
  decide

theorem test_frame_queueOrder :
    read [0x7E, 0x00, 0x0A, 0x20, 0x12, 0x34, 0x02, 0x00, 0x98, 0x96, 0x80, 0x01, 0x03, 0xB7, 0x63] =
      .queueOrder 7 0x1234 2 10000000 1 3 := by decide

theorem test_frame_queueLaunch :
    read [0x7E, 0x00, 0x09, 0x22, 0x12, 0x35, 0x03, 0x00, 0x00, 0x27, 0x10, 0x04, 0x48, 0x33] =
      .queueLaunch 7 0x1235 3 10000 4 := by decide

theorem test_frame_forceStage :
    read [0x7E, 0x00, 0x04, 0x24, 0x12, 0x34, 0x02, 0xF7, 0x8E] = .forceStage 7 0x1234 2 := by decide

theorem test_frame_releaseGuard :
    read [0x7E, 0x00, 0x02, 0x25, 0x08, 0xD5, 0x59] = .releaseGuard 7 8 := by decide

theorem test_frame_syncFrom : read [0x7E, 0x00, 0x02, 0x26, 0x30, 0x37, 0x51] = .syncFrom 7 48 := by decide

theorem test_frame_readTrain : read [0x7E, 0x00, 0x02, 0x30, 0x3F, 0x6F, 0x6B] = .readTrain 7 63 := by decide

theorem test_frame_takeRecord : read [0x7E, 0x00, 0x01, 0x32, 0x41, 0xCF] = .takeRecord 7 := by decide

/-- A code that is no request, and CANCEL ORDER without its operand (R166). -/
theorem test_frame_of_no_request :
    read [0x7E, 0x00, 0x01, 0x7F, 0xD8, 0xA6] = .unknownRequestCode 7 0x7F ∧
      read [0x7E, 0x00, 0x01, 0x21, 0x63, 0x9D] = .unknownRequestCode 7 0x21 := by decide

/-- A check word that is wrong in its last bit, and IDENTIFY within a frame's gap (R166). -/
theorem test_frame_discarded :
    read [0x7E, 0x00, 0x01, 0x01, 0x47, 0xFE] = .portFrameDiscarded 7 ∧
      decodePortFrame 7 true false true [0x7E, 0x00, 0x01, 0x01, 0x47, 0xFF] = .portFrameDiscarded 7 := by
  decide

/-! ## Small stations -/

/-- A configuration with all seven outlets and both analysers fitted, which listens to every other station. -/
def config (role : Role) : Config :=
  { Config.nothingFitted with
    driveEnabled := true, station := 9, role := role, chainage := if role = .origin then 0 else 1000
    listening := 0xFFFFFFFFFEFF, statusInterval := 10, samplePeriod := 250, trunkWeight := 250
    deliveryWeight := 250, densityFitted := true, markerFitted := true, warmup := 3, makeCount := 2
    breakCount := 3, u0 := 20, drift := 33, margin := 20, keepBehind := 50, launchWidth := 50
    outletsFitted := 0x3F, transmixFitted := true, travelTimeout := 20, highWater := 18, lowWater := 6
    holdTime := 200 }

/-- Guard channel 1 as these tests configure it. -/
def guardOne : GuardConfig :=
  { GuardConfig.disabled with
    enable := true, latch := true, source := .pressure, contact := some 0, makeCount := 2
    breakCount := 2, threshold := 100, passband := 10 }

/-- The part in RUNNING, in OPERATE, with its route CLOSED and a transfer open. -/
def station (role : Role) : Part :=
  { Part.reset with
    image := { ImageStore.blank with state := .running, config := some (config role), failOffset := none }
    outlet :=
      { OutletController.afterReset with
        mode := some .operate, current := .known .closed, target := some .closed, planned := some .closed }
    planner := { Planner.afterReset with planned := some .closed }
    inst := { Instruments.afterReset with transferOpen := true, nextRequest := some 31250 } }

/-- The part in STANDBY with a configuration. -/
def standby (role : Role) : Part :=
  { Part.reset with
    image := { ImageStore.blank with state := .standby, config := some (config role), failOffset := none } }

/-- The station with guard channel 1 configured, in a working state. -/
def guarded (k : GuardChannel) : Part :=
  let s := station .terminal
  { s with
    image := { s.image with
      config := some { config .terminal with guards := (config .terminal).guards.set 0 guardOne } }
    guard := { s.guard with channels := s.guard.channels.set 0 k } }

/-- The state of a part with no command waiting. -/
def lone (s : Part) : State := { part := s, pending := [] }

/-- The part after a command. -/
def after (i : Instr) (s : Part) : Part :=
  match exec i (lone s) with
  | .next t => t.part
  | .fault _ => s
  | .refused _ => s

/-- A batch PRESENT with no head interface. -/
def present (b : BatchNo) : BatchRecord :=
  { batch := b, product := 2, nominated := none, status := .present, head := none, delivered := 0
    orderLink := none }

/-- A head interface in a state, at a distance, on the density channel. -/
def headAt (st : HeadState) (d : Int) : HeadInterface :=
  { leading := 2, state := st, d := d, w := 60, u := 20, anchorStation := 5, anchorChainage := 500
    overdue := false, early := false, clamped := false, restartMark := false, channel := some .density
    leadRec := none, midRec := none, trailRec := none, plan := none
    midError := if st = .pastMid then some 4 else none
    measuredWidth := none, degradedMark := none }

/-- A batch that approaches behind such a head. -/
def coming (b : BatchNo) (st : HeadState) (d : Int) : BatchRecord :=
  { batch := b, product := 3, nominated := none, status := .approaching, head := some (headAt st d)
    delivered := 0, orderLink := none }

/-- The station with a train and its window. -/
def withTrain (role : Role) (recs : List BatchRecord) : Part :=
  { station role with
    train := { records := recs, horizon := none }
    det := { Detector.afterReset with window := oldestLive recs } }

/-- An order for a batch to outlet 1. -/
def order (n : Nat) (b : BatchNo) (filling : Bool) : Order :=
  { number := n, batch := b, outlet := 0, limit := 0, headPolicy := .clean, tailPolicy := .clean
    filling := filling }

/-- The part with a queue of orders. -/
def withOrders (orders : List Order) (next : Nat) (s : Part) : Part :=
  { s with planner := { s.planner with orders := orders, nextOrder := next } }

/-- The entry of station 5, a TERMINAL. -/
def five : PeerEntry :=
  { station := 5, chainage := 500, role := some .terminal, startCount := some 1, delivered := some 70
    interval := some 10, silent := false, expiry := some 900000, rate := none, atMeter := none
    flags := none }

/-- The part with the entry of station 5 and a notice of that station waiting. -/
def hears (body : Body) (s : Part) : Part :=
  { s with
    peer := { s.peer with table := [five] }
    bus := { s.bus with inbound := [{ source := 5, chainage := 500, body := body }] } }

/-- A transmit buffer that waits, with a STATUS. -/
def waiting : TxBuffer := { notice := .status .terminal 1 10, collisions := 0, phase := .waiting 0 }

/-- The part with its transmit buffer taken. -/
def busy (s : Part) : Part := { s with bus := { s.bus with buffer := some waiting } }

/-- The part with a frame on the medium. -/
def sending (n : Notice) (collisions : Nat) (s : Part) : Part :=
  { s with bus := { s.bus with
      generator := some 1
      buffer := some { notice := n, collisions := collisions, phase := .sending [1, 2] } } }

/-- A sample set of readings that are all valid but for the one at a place. -/
def readings (bad : Fin 8) : SampleSet :=
  Vector.ofFn (fun i =>
    { value := match i.val with
        | 0 => 8000
        | 1 => 2000
        | 2 => 2500
        | _ => 300
      indicated := decide (i ≠ bad) })

/-- A change in flight from outlet 1 to outlet 2. -/
def changing (phase : ChangePhase) (s : Part) : Part :=
  { s with outlet :=
      { s.outlet with
        current := .known (.outlet 0), target := some (.outlet 1)
        change := some { source := .known (.outlet 0), target := .outlet 1, phase := phase, expiry := 99 }
        outlets :=
          if phase = .opening then
            s.outlet.outlets.set 1 { command := .opening, stuckOpen := false, lastFault := .none_ }
          else s.outlet.outlets.set 0 { command := .closing, stuckOpen := false, lastFault := .none_ } } }

/-- The part with its route at outlet 1. -/
def atOutletOne (s : Part) : Part :=
  { s with outlet :=
      { s.outlet with
        current := .known (.outlet 0), target := some (.outlet 0), planned := some (.outlet 0) } }

/-! ## One step each, with values worked out by hand from the rules -/

/-- R173, R175: a power-on reset clears the record queue, a reset-line reset keeps it; an image that a write had
left invalid fails its check word (R171). -/
theorem test_resets_and_records :
    let invalid : Part :=
      { station .terminal with image := { (station .terminal).image with spoiled := true } }
    let s := invalid.writeRecord (.guard 0 .made .alarm none)
    (after (.powerOnReset 3) s).port.records = [] ∧
      (after (.resetLineReset 3) s).port.records = s.port.records ∧
      (after (.resetLineReset 3) s).image.failOffset = some 510 := by decide

/-- R167: CANCEL ORDER in STANDBY is refused with STATE, QUEUE LAUNCH at a TERMINAL with ROLE. -/
theorem test_port_checks :
    (after (.cancelOrder 0 1) (standby .terminal)).port.response.map Response.result = some .state ∧
      (after (.queueLaunch 0 1 1 1 1) (station .terminal)).port.response.map Response.result =
        some .role := by decide

/-- R170: a segment that does not start at the fill is refused with SEQUENCE and empties the buffer. -/
theorem test_storeImage_wrong_offset :
    let s := after (.storeImage 0 true false 0 [1, 2]) (standby .terminal)
    s.image.staging = some [1, 2] ∧ (after (.storeImage 0 false false 3 [4]) s).image.staging = none := by
  decide

/-- R171: PROGRAMMING ends in the state it came from; a failed verify sets STORE_FAILED. -/
theorem test_programming_fails :
    let s := { standby .terminal with
      image := { (standby .terminal).image with state := .programming, returnState := some .standby } }
    (after (.programmingComplete 0 false) s).image.state = .standby ∧
      (after (.programmingComplete 0 false) s).port.alarmSet .storeFailed = true := by decide

/-- R169, R171: a RELOAD of an image that a write left invalid fails its check word. -/
theorem test_reload_invalid :
    let s := { standby .terminal with image := { (standby .terminal).image with spoiled := true } }
    (after (.reloadImage 0) s).image.state = .configFault ∧
      (after (.reloadImage 0) s).image.failOffset = some 510 := by decide

/-- R172, R147: START number 1 of station 9 seeds the generator with 9 × 256 + 1. -/
theorem test_start_seeds :
    let t := after (.start 0 1 1 100 2) (standby .terminal)
    t.image.startCount = 1 ∧ t.bus.generator = some 2305 ∧ t.outlet.mode = some .operate := by decide

/-- R97: the first order takes number 1 and the next is 2; its outlet is the fitted one that the octet
names. -/
theorem test_queueOrder :
    let t := after (.queueOrder 0 101 3 60 1 2) (withTrain .terminal [present 100, coming 101 .distant 900])
    t.planner.nextOrder = 2 ∧
      t.planner.orders.map (fun o => (o.number, o.outlet, o.limit, o.headPolicy, o.tailPolicy)) =
        [(1, 2, 60, .withMix, .atMid)] := by decide

/-- R100: cancelling a FILLING order writes its tally. -/
theorem test_cancelOrder_filling :
    let s := withOrders [order 4 100 true] 5 (withTrain .terminal [present 100])
    let t := after (.cancelOrder 0 4) { s with vol := { s.vol with tally := 33 } }
    t.planner.orders = [] ∧
      t.port.records.map CutRecord.body = [.delivery 4 100 0 33 .cancelled] := by decide

/-- R108 to R111: with no current batch the volume condition holds, so the entry's cut is decided at once and
outlet 2 is commanded open; the start of that change makes the cut take effect. -/
theorem test_queueLaunch_first_cut :
    let t := after (.queueLaunch 0 7 3 500 2) (station .origin)
    t.planner.current.map CurrentBatch.batch = some 7 ∧ t.planner.incoming = none ∧
      t.outlet.outlets[1].command = .opening ∧
      t.train.records.map (fun r => (r.batch, r.status)) = [(7, .present)] := by decide

/-- R112: no entry waits. -/
theorem test_forceLaunch_empty :
    (after (.forceLaunch 0) (station .origin)).port.response.map Response.result = some .sequence := by decide

/-- R87: a forced leading edge, with its record. -/
theorem test_forceStage_leading :
    let t := after (.forceStage 0 101 1) (withTrain .terminal [present 100, coming 101 .armed 40])
    t.windowState = some .inMix ∧
      t.windowHead.map (fun w => w.2.leadRec) = some (some { method := .forced, stamp := 0 }) := by decide

/-- R134, R137: a release breaks the channel and de-energizes a NORMAL contact. -/
theorem test_releaseGuard :
    let s := guarded { GuardChannel.afterReset with made := true, latched := true }
    let t := after (.releaseGuard 0 1) { s with guard := { s.guard with contacts := s.guard.contacts.set 0 true } }
    t.guard.channels[0].made = false ∧ t.guard.contacts[0] = false := by decide

/-- R161: the tag advances and the TRAIN REQUEST joins the queue. -/
theorem test_syncFrom :
    let t := after (.syncFrom 0 5) (busy (station .terminal))
    t.peer.tag = 1 ∧ t.bus.outbound.map Queued.notice = [.trainRequest 5 1] := by decide

/-- R19, 12.3: a READ TRAIN beyond the train answers VALUE with the count and the absent horizon. -/
theorem test_readTrain_beyond :
    (after (.readTrain 0 1) (withTrain .terminal [present 100])).port.response =
      some { code := 0x30, result := .value, payload := [1, 0, 0, 0] } := by decide

/-- R173: TAKE RECORD with no record: loss count 0, none remaining, none present. -/
theorem test_takeRecord_empty :
    (after (.takeRecord 0) (station .terminal)).port.response =
      some { code := 0x32, result := .accepted, payload := [0, 0, 0, 0] } := by decide

/-- R20, R23: a transfer still open when the next request falls due is a missed set. -/
theorem test_sampleRequestDue_missed :
    let t := after (.sampleRequestDue 31250) (station .terminal)
    t.inst.missedRun = 1 ∧ t.inst.nextRequest = some 62500 ∧ t.inst.transferOpen = true := by decide

/-- R39, R40: 41 pulses of 250 cL at product 0 are 10,250 cL: 10 dal, 250 cL left; END does not use the
trunk meter. -/
theorem test_sampleEvent_counts :
    let pulses (s : Part) : Part := { s with inst := { s.inst with trunkPending := 41 } }
    let t := after (.sampleEvent 0 (readings 7)) (pulses (station .terminal))
    let u := after (.sampleEvent 0 (readings 7)) (pulses (station .end_))
    t.vol.trunkCounter = 10 ∧ t.vol.trunkAcc = 250 ∧ t.inst.trunkPending = 0 ∧ u.vol.trunkCounter = 0 := by
  decide

/-- R37, R38: 25.00 °C and 300 kPa with α = 10,200 and β = 900. -/
theorem test_vcf : vcf 10200 900 2500 300 = 1063809259 := by decide

/-- R29: one pulse. -/
theorem test_meterPulse :
    (after (.meterPulse 0 .delivery) (station .terminal)).inst.deliveryPending = 1 := by decide

/-- R117, R118: the open level of outlet 2 hands the command to outlet 1, and the timer starts afresh. -/
theorem test_open_confirmed :
    let t := after (.limitLevelTaken 1 1 .open_ true) (changing .opening (station .terminal))
    t.outlet.outlets[1].command = .idle ∧ t.outlet.outlets[0].command = .closing ∧
      t.outlet.change.map Change.expiry = some 2500001 := by decide

/-- R120: an expiry that comes before its moment, the timer having been started again, has no effect. -/
theorem test_travelTimeout_early :
    (after (.travelTimeout 98) (changing .closing (station .terminal))).outlet =
      (changing .closing (station .terminal)).outlet := by decide

/-- R121: a close that times out leaves outlet 1 STUCK_OPEN and the route at outlet 2. -/
theorem test_close_times_out :
    let t := after (.travelTimeout 99) (changing .closing (station .terminal))
    t.outlet.current = .known (.outlet 1) ∧ t.outlet.outlets[0].stuckOpen = true := by decide

/-- R149, 12.2: a HOLD of 100 slots from station 5, octet by octet, joins the inbound queue; with station 9
as its source it is the mark of a duplicate. -/
theorem test_lineFrame_hold :
    let t := after (.lineFrameReceived 0
      [0x03, 0x05, 0x00, 0x00, 0x00, 0x01, 0xF4, 0x02, 0x00, 0x64, 0x9A, 0x95]) (station .terminal)
    t.bus.inbound = [{ source := 5, chainage := 500, body := .hold 100 }] := by decide

theorem test_lineFrame_own_number :
    let t := after (.lineFrameReceived 0
      [0x03, 0x09, 0x00, 0x00, 0x00, 0x01, 0xF4, 0x02, 0x00, 0x64, 0x2F, 0x85]) (station .terminal)
    t.port.alarmSet .duplicateStation = true ∧ t.bus.inbound = [] := by decide

/-- R62, R74: a LAUNCH at D = 800 in front of a window at D = 700 moves the window to it and brings the other up to
800, CLAMPED and without a channel. -/
theorem test_launchNotice_moves_window :
    let t := after (.launchNoticeTaken 0)
      (hears (.launch 101 3 100 2 0 50 200) (withTrain .terminal [present 100, coming 102 .distant 700]))
    t.det.window = some 101 ∧
      t.train.records.map (fun r => r.head.map (fun h => (h.d, h.clamped, h.channel.isSome))) =
        [none, some (800, false, true), some (800, true, false)] := by decide

/-- R7, R60: a LAUNCH with a trail of 200 dal at chainage 1,000: D = 800, W = 50, U = 20. -/
theorem test_launchNotice :
    let t := after (.launchNoticeTaken 0) (hears (.launch 101 3 100 2 0 50 200) (station .terminal))
    t.train.records.map (fun r => r.head.map (fun h => (h.d, h.w, h.u, h.state))) =
      [some (800, 50, 20, .distant)] := by decide

/-- R55: a PASSAGE of chainage 500 with a trail of 30 re-anchors at D = 470. -/
theorem test_passageNotice :
    let t := after (.passageNoticeTaken 0)
      (hears (.passage 101 3 2 30 64 .analyser .analyser .analyser false false false)
        (withTrain .terminal [present 100, coming 101 .distant 900]))
    t.train.records.map (fun r => r.head.map (fun h => (h.d, h.w, h.anchorChainage))) =
      [none, some (470, 64, 500)] := by decide

/-- R152: 100 slots of 128 bit times. -/
theorem test_holdNotice :
    (after (.holdNoticeTaken 5) (hears (.hold 100) (station .terminal))).bus.peerHold =
      some { expiry := 12805, holder := 5 } := by decide

/-- R157, R53: a delta of 30 dal of station 5 lowers D by 30. -/
theorem test_statusNotice_delta :
    let flags : StatusFlags :=
      { densityReady := true, markerReady := false, anyDegraded := false, holdSent := false }
    let t := after (.statusNoticeTaken 0) (hears (.status .terminal 1 10 100 0 none flags)
      (withTrain .terminal [present 100, coming 101 .distant 900]))
    t.train.records.map (fun r => r.head.map HeadInterface.d) = [none, some 870] := by decide

/-- R159: an empty train is one segment, FIRST and LAST, of no entries. -/
theorem test_trainRequest_empty :
    (after (.trainRequestTaken 0) (hears (.trainRequest 6) (busy (station .terminal)))).bus.outbound.map
      Queued.notice = [.report 5 true true 5 6 0 []] := by decide

/-- R162: with no sync a segment is a stray. -/
theorem test_trainReport_stray :
    (after (.trainReportSegmentTaken 0)
      (hears (.report true true 9 0 0 []) (station .terminal))).peer.strays = 1 := by decide

/-- R146, 12.2: the STATUS of station 9 goes out to all with its header. -/
theorem test_frameTransmitStart :
    let t := after (.frameTransmitStart 769) (busy (station .terminal))
    t.transmitting = true ∧ t.bus.stats.deferrals = 1 := by decide

/-- R145: 31 bit times after the end of its own frame the next one does not begin, and 32 after it does; after a
collision the jam is waited for too. -/
theorem test_transmit_start_waits_the_gap :
    let s := after (.frameSent 100) { sending (.hold 1) 0 (station .terminal) with
      bus := { (sending (.hold 1) 0 (station .terminal)).bus with
        outbound := [{ notice := .hold 2, joined := 0 }] } }
    (after (.frameTransmitStart 31) s).transmitting = false ∧
      (after (.frameTransmitStart 32) s).transmitting = true ∧
      (after (.collision 100 64) (sending (.hold 1) 0 (station .terminal))).bus.carrierEnd = some 132 := by
  decide

/-- R148: the frame is counted. -/
theorem test_frameSent :
    (after (.frameSent 0) (sending (.hold 1) 0 (station .terminal))).bus.stats.framesSent = 1 := by decide

/-- R147: g = 1 gives g' = 39,022 and r = 9; the first collision waits 32 bit times and 13 slots. -/
theorem test_collision_backoff :
    let t := after (.collision 0 64) (sending (.hold 1) 0 (station .terminal))
    t.bus.generator = some 39022 ∧ t.bus.buffer.map TxBuffer.phase = some (.backoff 1696) := by decide

/-- R147: the notice waits for the gap again. -/
theorem test_backoffEnd :
    let s := { station .terminal with
      bus := { (station .terminal).bus with buffer := some { waiting with phase := .backoff 1696 } } }
    (after (.backoffEnd 1696) s).bus.buffer.map TxBuffer.phase = some (.waiting 1696) := by decide

/-- R152: the hold ends. -/
theorem test_peerHoldExpiry :
    let s := { station .terminal with
      bus := { (station .terminal).bus with peerHold := some { expiry := 50, holder := 5 } } }
    (after (.peerHoldExpiry 50) s).bus.peerHold = none := by decide

/-- R158: the next STATUS is 10 s on, and this one takes the empty buffer. -/
theorem test_statusIntervalDue :
    let s := { station .terminal with peer := { (station .terminal).peer with nextStatus := some 40 } }
    (after (.statusIntervalDue 40) s).peer.nextStatus = some 1250040 ∧
      (after (.statusIntervalDue 40) s).bus.buffer.isSome = true := by decide

/-- R156: the peer is SILENT. -/
theorem test_peerSilenceExpiry :
    let t := after (.peerSilenceExpiry 900000 5) (hears (.hold 1) (station .terminal))
    t.peer.table.map PeerEntry.silent = [true] ∧ t.port.alarmSet .peerSilent = true := by decide

/-- R164: the sync ends with TIMEOUT. -/
theorem test_syncTimeout :
    let s := { station .terminal with peer := { (station .terminal).peer with phase := .awaiting 90 } }
    (after (.syncTimeout 90) s).peer.lastOutcome = .failed .timeout := by decide

/-- R67, R57: with the window in its mix on the VOLUME channel at D = -5, a PASSAGE that clears another
interface's RESTART_MARK hands the window off, and its midpoint is taken; one that clears none does not. -/
theorem test_passage_hands_off_in_mix :
    let window : BatchRecord :=
      { coming 101 .inMix (-5) with head := some { headAt .inMix (-5) with channel := some .volume } }
    let behind (mark : Bool) : BatchRecord :=
      { coming 102 .distant 900 with head := some { headAt .distant 900 with restartMark := mark } }
    let body : Body := .passage 102 3 2 30 64 .analyser .analyser .analyser false false false
    (after (.passageNoticeTaken 0) (hears body (withTrain .relay [window, behind true]))).windowState =
        some .pastMid ∧
      (after (.passageNoticeTaken 0) (hears body (withTrain .relay [window, behind false]))).windowState =
        some .inMix := by decide

/-- R174, 12: flag 1 is the least significant bit of the last octet, flag 17 of the first. -/
theorem test_flag_octets :
    (Part.reset.raise .sampleMissed).port.flagOctets = [0, 0, 1] ∧
      (Part.reset.raise .storeFailed).port.flagOctets = [1, 0, 0] := by decide

/-- R63: the older head comes down to the newer. -/
theorem test_flowClamp :
    (flowClamp [coming 101 .distant 70, coming 102 .distant 40]).map (fun r => r.head.map (fun h =>
      (h.d, h.clamped))) = [some (40, true), some (40, false)] := by decide

/-! ## States and operands that meet the hypotheses of the statements -/

/-- ResetTakesResetValues. -/
theorem witness_ResetTakesResetValues :
    (Instr.powerOnReset 0).isReset = true ∧ (Instr.resetLineReset 9).isReset = true := by decide

/-- The station in PROGRAMMING, back to STANDBY, with a staged image. -/
def programming : Part :=
  { standby .terminal with
    image :=
      { (standby .terminal).image with
        state := .programming, returnState := some .standby, staging := some [3] } }

/-- ResetsKeepOrClearRecords: in PROGRAMMING and out of it. -/
theorem witness_ResetsKeepOrClearRecords :
    (Instr.powerOnReset 0).isReset = true ∧ programming.image.state = .programming ∧
      (station .terminal).image.state ≠ .programming := by decide

/-- RequestsRefusedByStateAndRole: BUSY, STATE and ROLE. -/
theorem witness_RequestsRefusedByStateAndRole :
    (Instr.cancelOrder 0 1).served = some (0x21, [.running], [.terminal, .end_]) ∧
      programming.image.state = .programming ∧
      (standby .terminal).image.state ≠ .programming ∧
      (standby .terminal).image.state ∉ [PartState.running] ∧
      (station .origin).image.state ∈ [PartState.running] ∧
      (station .origin).cfg.role ∉ [Role.terminal, .end_] := by decide

/-- ReadsAndOtherFramesAnswered: the last index of the train, and the first beyond it; no cut record, and
one. -/
theorem witness_ReadsAndOtherFramesAnswered :
    let s := withTrain .terminal [present 100]
    let r := s.writeRecord (.guard 0 .made .alarm none)
    s.running = true ∧ s.train.records[(0 : Octet).toNat]? = some (present 100) ∧
      s.train.records.length ≤ (1 : Octet).toNat ∧ s.port.records = [] ∧ r.running = true ∧
      r.port.records = { seq := 0, stamp := 0, body := .guard 0 .made .alarm none } :: [] := by decide

/-- The station with a conflict hold. -/
def holding : Part :=
  { station .terminal with outlet := { (station .terminal).outlet with conflictHold := true } }

/-- A decided cut that waits for outlet 2. -/
def cut : LaunchEntry := { batch := 10, product := 3, nominated := 600, outlet := 1 }

/-- ReadStatusClearsItsMask: a conflict hold that is shown with ROUTE_CONFLICT, with a cut waiting and without
one, and a hold that is not shown. -/
theorem witness_ReadStatusClearsItsMask :
    let shown (s : Part) : Bool :=
      s.running && s.port.alarmSet .routeConflict && s.outlet.conflictHold
    let told : Part := holding.raise .routeConflict
    let waits : Part := { told with planner := { told.planner with incoming := some cut } }
    shown waits = true ∧ waits.planner.incoming.isSome = true ∧ shown told = true ∧
      told.planner.incoming = none ∧ shown holding = false := by decide

/-- StoreImageStagesSegments: in STANDBY, an empty buffer, a wrong offset, one octet too many, a short last
segment, a last segment of zeros (whose check word is not 0), and a segment that fits. -/
theorem witness_StoreImageStagesSegments :
    (standby .terminal).image.state = .standby ∧
      (if false then some [] else (standby .terminal).image.staging) = none ∧
      (1 : BitVec 16).toNat ≠ ([] : List Octet).length ∧
      512 < (300 : BitVec 16).toNat + (List.replicate 213 (0 : Octet)).length ∧
      (300 : BitVec 16).toNat + (List.replicate 211 (0 : Octet)).length ≠ 512 ∧
      (300 : BitVec 16).toNat + (List.replicate 212 (0 : Octet)).length = 512 := by decide

/-- StoreImageStagesSegments: a last segment whose check word is wrong, and one whose check word (worked out
apart from the model) is right. -/
theorem witness_StoreImageStagesSegments_last :
    let octets (check : List Octet) : List Octet := List.replicate 510 0 ++ check
    field (octets [0, 0]) 510 2 ≠ (checkWord ((octets [0, 0]).take 510)).toNat ∧
      field (octets [0x44, 0xB7]) 510 2 = (checkWord ((octets [0x44, 0xB7]).take 510)).toNat := by
  decide +kernel

/-- ProgrammingReturns. -/
theorem witness_ProgrammingReturns :
    programming.image.state = .programming ∧ programming.image.returnState = some .standby := by decide

/-- A valid image: station 1, a TERMINAL at chainage 1,000 that listens to station 2 (12.5). -/
def image : List Octet :=
  let section_ := be1 3 ++ be2 0x5A5A ++ be1 1 ++ be1 3 ++ be4 1000 ++ be2 0 ++ be4 2 ++ be1 10 ++ be2 250 ++
    be2 250 ++ be2 250 ++ be1 3 ++ be1 2 ++ be1 3 ++ be1 3 ++ be4 200 ++ be2 33 ++ be4 200 ++ be4 1000 ++
    be4 500 ++ be1 0x3F ++ be1 1 ++ be2 20 ++ be1 18 ++ be1 6 ++ be2 200
  let product := be2 100 ++ be2 100 ++ be2 10 ++ be2 8000 ++ be2 40 ++ be2 1000 ++ be2 800 ++ be2 0
  withCheck (section_ ++ List.replicate (142 - section_.length) 0 ++ (List.replicate 15 product).flatten ++
    List.replicate 128 0)

/-- ReloadRepeatsLoading: an image that fails, and one that is valid. -/
theorem witness_ReloadRepeatsLoading :
    (standby .terminal).image.state = .standby ∧
      imageFailure true (standby .terminal).image.nonvolatile = some 510 ∧ imageFailure false image = none := by
  decide +kernel

/-- StartBeginsARun: mode 3, presence 2 and product 0 or 16 refused. -/
theorem witness_StartBeginsARun_refused :
    (standby .terminal).image.state = .standby ∧
      ((3 : Octet).toNat ≠ 1 ∧ (3 : Octet).toNat ≠ 2) ∧ 1 < (2 : Octet).toNat ∧
      ¬(1 ≤ (0 : Octet).toNat ∧ (0 : Octet).toNat ≤ 15) ∧
      ¬(1 ≤ (16 : Octet).toNat ∧ (16 : Octet).toNat ≤ 15) := by decide

/-- StartBeginsARun: a START that runs, with a present batch and without. -/
theorem witness_StartBeginsARun :
    (standby .terminal).image.state = .standby ∧
      (standby .terminal).image.config = some (config .terminal) ∧ (standby .terminal).trainLaw ∧
      (standby .terminal).outletLaw ∧ (standby .terminal).queueLaw ∧
      modeOf? (2 : Octet).toNat = some .observe ∧ presentOf 1 100 15 = some (some (100, 15)) ∧
      presentOf 0 100 0 = some none ∧
      (standby .origin).image.config = some (config .origin) ∧ (config .origin).role = .origin := by
  refine ⟨by decide, by decide, ?_, ⟨?_, by decide⟩, ?_, by decide⟩
  · unfold Part.trainLaw; decide
  · show ∀ o : Outlet, (standby .terminal).outlet.outlets[o].command = .idle
    decide
  · unfold Part.queueLaw; decide

/-- RunningHoldsUntilReset. -/
theorem witness_RunningHoldsUntilReset :
    (Instr.sampleEvent 0 (readings 7)).isReset = false ∧ (station .terminal).running = true ∧
      ∃ t, exec (.sampleEvent 0 (readings 7)) (lone (station .terminal)) = .next t :=
  ⟨by decide, by decide, _, rfl⟩

/-- A delivering station with a batch present, one that approaches, and an order that fills. -/
def delivering : Part :=
  withOrders [order 4 100 true] 5 (withTrain .terminal [present 100, coming 101 .distant 900])

/-- QueueOrderOutcome: for a batch that approaches, with an outlet, limit and policies at the ends of their
ranges. -/
theorem witness_QueueOrderOutcome_approaching :
    delivering.running = true ∧ delivering.cfg.role = .terminal ∧ delivering.orderLaw ∧
      delivering.planner.incoming = none ∧ (6 : Octet).toNat = (5 : Outlet).val + 1 ∧
      (5 : Outlet).val < 6 ∧ delivering.cfg.outletsFitted.getLsbD (5 : Outlet).val = true ∧
      policyOf? (1 : Octet).toNat = some .withMix ∧ policyOf? (3 : Octet).toNat = some .clean ∧
      (40000000 : BitVec 32).toNat ≤ 40000000 ∧
      findBatch 101 delivering.train.records = some (coming 101 .distant 900) ∧
      (coming 101 .distant 900).status = .approaching ∧
      (∀ e ∈ delivering.planner.orders, e.batch ≠ 101) ∧ delivering.planner.orders.length < 16 := by
  unfold Part.orderLaw
  decide

/-- QueueOrderOutcome: at an END, for the PRESENT batch, while the order of another batch fills. -/
theorem witness_QueueOrderOutcome_present :
    let s := withOrders [order 4 99 true] 5 (withTrain .end_ [present 100])
    s.running = true ∧ s.cfg.role = .end_ ∧ s.orderLaw ∧ s.planner.incoming = none ∧
      (1 : Octet).toNat = (0 : Outlet).val + 1 ∧
      findBatch 100 s.train.records = some (present 100) ∧ (present 100).status = .present ∧
      ¬((present 100).status = .present ∧ s.inMix = true) ∧
      (∀ e ∈ s.planner.orders, e.batch ≠ 100) ∧ s.fillingOrder = some (order 4 99 true) := by
  unfold Part.orderLaw
  decide

/-- QueueOrderOutcome: VALUE (outlet 7, a limit above 40,000,000), UNKNOWN_BATCH, SEQUENCE in the mix,
DUPLICATE, FULL. -/
theorem witness_QueueOrderOutcome_refusals :
    delivering.running = true ∧ delivering.cfg.role = .terminal ∧ ¬((7 : Octet).toNat ≤ 6) ∧
      ¬((40000001 : BitVec 32).toNat ≤ 40000000) ∧ findBatch 7 delivering.train.records = none ∧
      (withTrain .terminal [present 100, coming 101 .inMix 9]).inMix = true ∧
      (∃ e ∈ delivering.planner.orders, e.batch = 100) ∧
      16 ≤ (withOrders (List.replicate 16 (order 4 99 false)) 5 delivering).planner.orders.length ∧
      (∀ e ∈ (withOrders (List.replicate 16 (order 4 99 false)) 5 delivering).planner.orders,
        e.batch ≠ 101) := by decide

/-- CancelOrderEndsOrder: no such order, one that fills, one that waits. -/
theorem witness_CancelOrderEndsOrder :
    let s := withOrders [order 4 100 true, order 255 101 false] 5 delivering
    s.running = true ∧ s.cfg.role = .terminal ∧ s.orderLaw ∧ s.planner.incoming = none ∧
      (∀ o ∈ s.planner.orders, o.number ≠ (1 : Octet).toNat) ∧
      order 4 100 true ∈ s.planner.orders ∧ (order 4 100 true).number = (4 : Octet).toNat ∧
      order 255 101 false ∈ s.planner.orders ∧ (order 255 101 false).number = (255 : Octet).toNat := by
  unfold Part.orderLaw
  decide

/-- An ORIGIN with a current batch, its volume condition open, and an entry that waits. -/
def launching : Part :=
  let s := station .origin
  { s with planner :=
      { s.planner with
        current := some { batch := 9, product := 2, nominated := some 500, source := some 0, launched := 3 }
        launches := [cut] } }

/-- QueueLaunchOutcome: VALUE, DUPLICATE, SEQUENCE, FULL, an entry that joins, and one whose cut is decided. -/
theorem witness_QueueLaunchOutcome :
    let held := (launching.planner.current.map CurrentBatch.batch).toList ++
      (launching.planner.incoming.map LaunchEntry.batch).toList ++
      launching.planner.launches.map LaunchEntry.batch
    let full : Part :=
      { launching with planner :=
          { launching.planner with
            launches := List.replicate 8 { batch := 10, product := 3, nominated := 1, outlet := 0 } } }
    launching.running = true ∧ launching.cfg.role = .origin ∧
      ¬(1 ≤ (0 : BitVec 32).toNat) ∧ (1 : Octet).toNat ≤ 15 ∧
      launching.cfg.outletsFitted.getLsbD ((6 : Octet).toNat - 1) = true ∧
      (9 : BatchNo) ∈ held ∧ (8 : BatchNo) ∉ held ∧ launching.launchInOrder 8 = false ∧
      (11 : BatchNo) ∉ held ∧ launching.launchInOrder 11 = true ∧
      launching.planner.launches.length < 8 ∧ launching.volumeCondition = false ∧
      (station .origin).volumeCondition = true ∧ (station .origin).planner.incoming = none ∧
      (station .origin).holdLaunchMade = false ∧
      full.launchInOrder 11 = true ∧ 8 ≤ full.planner.launches.length := by decide

/-- The station with guard channel 1 made, its action HOLD_LAUNCH. -/
def heldLaunch : Part :=
  let s := station .origin
  { s with
    image := { s.image with
      config := some { config .origin with
        guards := (config .origin).guards.set 0 { guardOne with action := .holdLaunch } } }
    guard := { s.guard with
      channels := s.guard.channels.set 0 { GuardChannel.afterReset with made := true } } }

/-- ForceLaunchDecidesCut: BUSY, SEQUENCE, a cut whose route is elsewhere, and one with its route already at the
source outlet. -/
theorem witness_ForceLaunchDecidesCut :
    heldLaunch.running = true ∧ heldLaunch.cfg.role = .origin ∧ heldLaunch.holdLaunchMade = true ∧
      (station .origin).holdLaunchMade = false ∧ (station .origin).planner.launches = [] ∧
      launching.holdLaunchMade = false ∧ launching.planner.launches = cut :: [] ∧
      launching.planner.incoming = none ∧ launching.outlet.current = .known .closed ∧
      (let s := { launching with outlet := { launching.outlet with current := .known (.outlet 1) } }
       s.running = true ∧ s.cfg.role = .origin ∧ s.holdLaunchMade = false ∧
        s.planner.launches = cut :: [] ∧
        s.planner.incoming = none ∧ s.outlet.conflictHold = false ∧ s.outlet.mode = some .operate ∧
        s.outlet.change = none ∧ s.outlet.override = [] ∧ (busy s).bus.buffer.isSome = true ∧
        s.bus.outbound.length < 32 ∧ s.admission 10 = .room) := by decide

/-- ForceLaunchDecidesCut: a cut whose change starts at once from CLOSED toward outlet 2; one with a change to outlet 3
in flight; and one with the target held CLOSED by a guard channel. -/
theorem witness_ForceLaunchDecidesCut_change :
    let c : Change := { source := .known .closed, target := .outlet 2, phase := .opening, expiry := 99 }
    let flight : Part := { launching with outlet := { launching.outlet with change := some c } }
    let held : Part := { launching with outlet := { launching.outlet with override := [(3, .closed)] } }
    launching.outlet.change = none ∧ launching.outlet.mode = some .operate ∧
      launching.outlet.conflictHold = false ∧ launching.outlet.override = [] ∧
      launching.outlet.current ≠ .known (.outlet cut.outlet) ∧
      launching.outlet.target ≠ some (.outlet cut.outlet) ∧ launching.openLevel cut.outlet = false ∧
      flight.outlet.override = [] ∧ flight.outlet.target ≠ some (.outlet cut.outlet) ∧
      flight.outlet.change = some c ∧ c.target ≠ .outlet cut.outlet ∧
      held.outlet.override = (3, .closed) :: [] ∧ Route.closed ≠ .outlet cut.outlet ∧
      held.outlet.target = some .closed ∧ held.outlet.change = none ∧
      flight.planner.launches = cut :: [] ∧ flight.planner.incoming = none ∧
      held.planner.launches = cut :: [] ∧ held.planner.incoming = none := by decide

/-- The ORIGIN with a decided cut that waits, its outlet 2 pending while outlet 1 closes. -/
def cutWaits : Part :=
  { launching with
    planner := { launching.planner with launches := [], incoming := some cut }
    outlet :=
      { launching.outlet with
        current := .known (.outlet 0), target := some (.outlet 1), pending := some (.outlet 1)
        change := some { source := .known (.outlet 0), target := .closed, phase := .closing, expiry := 99 }
        outlets := launching.outlet.outlets.set 0 { command := .closing, stuckOpen := false, lastFault := .none_ } } }

/-- ForceLaunchDecidesCut: the closed level of outlet 1 ends the change before a cut that waits. -/
theorem witness_ForceLaunchDecidesCut_waits :
    let c : Change := { source := .known (.outlet 0), target := .closed, phase := .closing, expiry := 99 }
    cutWaits.running = true ∧ cutWaits.cfg.role = .origin ∧ cutWaits.planner.incoming = some cut ∧
      cutWaits.outlet.mode = some .operate ∧ cutWaits.levelsRead 0 = true ∧
      cutWaits.inst.limits[(0 : Outlet)].closed = false ∧
      cutWaits.outlet.outlets[(0 : Outlet)].command = .closing ∧
      (∀ o : Outlet, o ≠ 0 → cutWaits.outlet.outlets[o].command ≠ .closing) ∧
      cutWaits.outlet.change = some c ∧ c.phase ≠ .opening ∧ c.target ≠ .outlet cut.outlet ∧
      cutWaits.outlet.pending = some (.outlet cut.outlet) ∧ cutWaits.openLevel cut.outlet = false := by decide

/-- R111, R117, R119: that level starts the change to outlet 2, and the cut takes effect with it: the LAUNCH record has
the 3 dal of the batch before. -/
theorem test_cut_takes_effect_with_its_change :
    let t := after (.limitLevelTaken 1 0 .closed true) cutWaits
    t.planner.current.map CurrentBatch.batch = some 10 ∧ t.outlet.outlets[1].command = .opening ∧
      t.port.records.map CutRecord.body = [.launch 10 3 3 1] := by decide

/-- The station in the mix of batch 101 or before it. -/
def mixing (st : HeadState) (d : Int) : Part := withTrain .terminal [present 100, coming 101 st d]

/-- ForceStageOutcome: stages 0 and 4, an empty window, another batch, a stage that is not the next. -/
theorem witness_ForceStageOutcome_refusals :
    (station .terminal).running = true ∧ (station .terminal).cfg.role ≠ .origin ∧
      stageOf? (0 : Octet).toNat = none ∧ stageOf? (4 : Octet).toNat = none ∧
      stageOf? (1 : Octet).toNat = some .leading ∧ (station .terminal).windowHead = none ∧
      (mixing .inMix 9).windowHead = some (coming 101 .inMix 9, headAt .inMix 9) ∧
      (coming 101 .inMix 9).batch ≠ 100 ∧ (headAt .inMix 9).next ≠ some .leading := by decide

/-- ForceStageOutcome: on the VOLUME channel, a head whose midpoint is not due at D = 1, and one whose
trailing edge is not due at D = -29 with W = 60. -/
theorem witness_ForceStageOutcome_volume :
    let h : HeadInterface := { headAt .armed 1 with channel := some .volume }
    let g : HeadInterface := { headAt .inMix (-29) with channel := some .volume }
    let r (x : HeadInterface) : BatchRecord := { coming 101 .armed 1 with head := some x }
    (withTrain .relay [present 100, r h]).windowHead = some (r h, h) ∧ 0 < h.d ∧
      (withTrain .relay [present 100, r g]).windowHead = some (r g, g) ∧
      -((g.w / 2 : Nat) : Int) < g.d ∧ stageOf? (3 : Octet).toNat = some .trailing ∧
      (headAt .pastMid 0).next = some .trailing := by decide

/-- ForceStageOutcome: the leading edge and the midpoint on the density channel. -/
theorem witness_ForceStageOutcome :
    (mixing .armed 40).running = true ∧ (mixing .armed 40).cfg.role ≠ .origin ∧
      (mixing .armed 40).planner.incoming = none ∧
      (mixing .armed 40).windowHead = some (coming 101 .armed 40, headAt .armed 40) ∧
      (headAt .armed 40).channel = some .density ∧ (headAt .armed 40).state = .armed ∧
      (mixing .inMix 9).windowHead = some (coming 101 .inMix 9, headAt .inMix 9) ∧
      (headAt .inMix 9).channel = some .density ∧ (headAt .inMix 9).state = .inMix := by decide

/-- ForcedTrailingEdgeCompletes. -/
theorem witness_ForcedTrailingEdgeCompletes :
    let s := busy { mixing .pastMid (-20) with
      det := { (mixing .pastMid (-20)).det with midStamp := some 50 } }
    s.running = true ∧ s.cfg.role ≠ .origin ∧ s.planner.incoming = none ∧ s.planner.orders = [] ∧
      s.windowHead = some (coming 101 .pastMid (-20), headAt .pastMid (-20)) ∧
      (headAt .pastMid (-20)).state = .pastMid ∧ s.det.midStamp = some 50 ∧
      (∀ x ∈ s.train.records, x.batch ≠ 101 → x.headLive = false) ∧ s.bus.buffer.isSome = true ∧
      s.bus.outbound.length < 32 := by decide

/-- ReleaseGuardReleases: no such channel, one that is not MADE, and one to release. -/
theorem witness_ReleaseGuardReleases :
    (station .terminal).running = true ∧
      (∀ c : ChannelNo, c.val + 1 = (9 : Octet).toNat →
        (station .terminal).cfg.guards[c].enable = false) ∧
      (0 : ChannelNo).val + 1 = (1 : Octet).toNat ∧
      (guarded GuardChannel.afterReset).cfg.guards[0].enable = true ∧
      (guarded GuardChannel.afterReset).guard.channels[0].made = false ∧
      (guarded { GuardChannel.afterReset with made := true, latched := true }).guard.channels[0].latched =
        true := by decide

/-- The sample at a part, and the station with guard channel 1 in a working state and a pressure in use. -/
def sampleAt (s : Part) : Sample := sampleOf (readings 7) s.inst s.inst

def pressed (v : Int) (k : GuardChannel) : Part :=
  { guarded k with inst := { (guarded k).inst with pressInUse := v } }

/-- Channel 1's value and threshold on the sample at a part. -/
def judged (s : Part) : Option Int × Option Int :=
  (s.sourceValue (sampleAt s) (s.counted (sampleAt s)) s.cfg.guards[0].source, s.threshold s.cfg.guards[0])

/-- GuardChannelEvaluated: a channel that is not enabled; a HIGH channel of threshold 100 and passband 10, which
makes at 101 but not at 100, and breaks at 89 but not at 90. -/
theorem witness_GuardChannelEvaluated :
    let k := GuardChannel.afterReset
    let makes (v : Int) : Prop := (100 : Int) < v
    let breaks (v : Int) : Prop := v < 100 - (guardOne.passband : Int)
    (station .terminal).cfg.guards[0].enable = false ∧ (pressed 101 k).cfg.guards[0] = guardOne ∧
      guardOne.enable = true ∧ guardOne.compare = .high ∧
      judged (pressed 101 k) = (some 101, some 100) ∧ makes 101 ∧
      judged (pressed 100 k) = (some 100, some 100) ∧ ¬makes 100 ∧
      judged (pressed 89 { k with made := true, breakRun := 1 }) = (some 89, some 100) ∧ breaks 89 ∧
      judged (pressed 90 { k with made := true }) = (some 90, some 100) ∧ ¬breaks 90 ∧
      k.makeRun + 1 < guardOne.makeCount ∧
      guardOne.makeCount ≤ ({ k with makeRun := 1 } : GuardChannel).makeRun + 1 ∧
      ({ k with made := true } : GuardChannel).breakRun + 1 < guardOne.breakCount ∧
      guardOne.breakCount ≤ ({ k with made := true, breakRun := 1 } : GuardChannel).breakRun + 1 := by
  decide

/-- GuardChannelEvaluated: a latched channel and one with its inhibit pending. -/
theorem witness_GuardChannelEvaluated_latched :
    let k := GuardChannel.afterReset
    (pressed 101 { k with made := true, latched := true }).guard.channels[(0 : ChannelNo)].latched = true ∧
      (pressed 101 { k with inhibitPending := true }).guard.channels[(0 : ChannelNo)].inhibitPending =
        true ∧
      judged (pressed 101 { k with made := true, latched := true }) = (some 101, some 100) := by decide

/-- The station with guard channels 1 and 2 as given, and channel 1 one sample short of its make. -/
def paired (one two : GuardConfig) : Part :=
  let s := withOrders [order 4 100 true] 5 (pressed 101 { GuardChannel.afterReset with makeRun := 1 })
  { s with
    image := { s.image with
      config := some { config .terminal with
        guards := ((config .terminal).guards.set 0 one).set 1 two } } }

/-- R128: channel 1 ends the FILLING order as it makes, and channel 2 still takes the tally of 5 that stood when the guard
unit took the event. -/
theorem test_guard_sources_as_the_unit_takes_the_event :
    let s := paired { guardOne with action := .endOrder } { guardOne with source := .tally, contact := none }
    let p : Part := { s with vol := { s.vol with tally := 5 } }
    let t := p.evaluateGuards (sampleAt p) (p.counted (sampleAt p))
    t.planner.orders = [] ∧ t.guard.channels[1].lastValue = some 5 := by decide

/-- GuardChannelEvaluated: a HOLD_LAUNCH channel one sample short of its break at the ORIGIN, the only one made, with an
entry that waits and the volume condition met; and a channel with FORCE_CLOSED. -/
theorem witness_GuardChannelEvaluated_break :
    let k : GuardChannel := { GuardChannel.afterReset with made := true, breakRun := 1 }
    let s : Part :=
      { heldLaunch with
        planner := { heldLaunch.planner with launches := [cut] }
        guard := { heldLaunch.guard with channels := heldLaunch.guard.channels.set 0 k } }
    s.cfg.guards[(0 : ChannelNo)].action = .holdLaunch ∧ s.cfg.guards[(0 : ChannelNo)].enable = true ∧
      s.cfg.role = .origin ∧ s.volumeCondition = true ∧ s.planner.incoming = none ∧
      s.planner.launches = cut :: [] ∧
      (∀ d : ChannelNo, d ≠ 0 → s.cfg.guards[d].action = .holdLaunch → s.guard.channels[d].made = false) ∧
      judged s = (some 0, some 100) ∧ (0 : Int) < 100 - (guardOne.passband : Int) ∧
      guardOne.breakCount ≤ k.breakRun + 1 ∧ guardOne.contact = some 0 ∧
      ({ guardOne with action := .forceClosed }).action = .forceClosed := by decide

/-- GuardChannelEvaluated: END_ORDER at the make with an order that fills; a sample event with a transfer open,
no launch waiting. -/
theorem witness_GuardChannelEvaluated_event :
    let s := withOrders [order 4 100 true] 5 (pressed 101 { GuardChannel.afterReset with makeRun := 1 })
    ({ guardOne with action := .endOrder }).action = .endOrder ∧ s.fillingOrder = some (order 4 100 true) ∧
      s.samples := by
  refine ⟨by decide, by decide, by decide, by decide, ?_, by decide⟩
  unfold Part.trainLaw; decide

/-- GuardChannelEvaluated: FORCE_TRANSMIX at the make, with an empty override and with a higher channel in it, FORCE_CLOSED,
and an action that is no route's. -/
theorem witness_GuardChannelEvaluated_route :
    let s := pressed 101 { GuardChannel.afterReset with makeRun := 1 }
    let q : Part := { s with outlet := { s.outlet with override := [(4, .closed)] } }
    (∀ x ∈ s.outlet.override, (0 : ChannelNo) < x.1) ∧ (∀ x ∈ q.outlet.override, (0 : ChannelNo) < x.1) ∧
      ({ guardOne with action := .forceTransmix }).action = .forceTransmix ∧
      ({ guardOne with action := .forceClosed }).action = .forceClosed ∧
      ({ guardOne with action := .alarm }).action ≠ .forceTransmix ∧
      guardOne.makeCount ≤ s.guard.channels[(0 : ChannelNo)].makeRun + 1 := by decide

/-- R135, R136, R116: a FORCE_TRANSMIX channel that makes on a sample event joins the override with outlet 7, the new
target. -/
theorem test_make_joins_the_override :
    let s := paired { guardOne with action := .forceTransmix } GuardConfig.disabled
    let t := s.evaluateGuards (sampleAt s) (s.counted (sampleAt s))
    t.outlet.override = [(0, .outlet 6)] ∧ t.outlet.target = some (.outlet 6) := by decide

/-- LatchedGuardStaysMade. -/
theorem witness_LatchedGuardStaysMade :
    let s := guarded { GuardChannel.afterReset with made := true, latched := true }
    (Instr.releaseGuard 0 2).isReset = false ∧ (Instr.releaseGuard 0 2).releases 0 = false ∧
      s.running = true ∧ s.guard.channels[(0 : ChannelNo)].made = true ∧
      s.guard.channels[(0 : ChannelNo)].latched = true ∧ ∃ t, exec (.releaseGuard 0 2) (lone s) = .next t :=
  ⟨by decide, by decide, by decide, by decide, by decide, _, rfl⟩

/-- SampleRequestDueOpensTransfer: before the moment and at it, a transfer open and not, and the run reaching
4. -/
theorem witness_SampleRequestDueOpensTransfer :
    let s := station .terminal
    s.running = true ∧ s.inst.nextRequest = some 31250 ∧ s.inst.transferOpen = true ∧
      s.now + 31249 < 31250 ∧ 31250 ≤ s.now + 31250 ∧
      ({ s with inst := { s.inst with transferOpen := false } }).inst.transferOpen = false ∧
      min (({ s with inst := { s.inst with missedRun := 3 } }).inst.missedRun + 1) 65535 = 4 := by decide

/-- SampleEventTakesReadings and SampleEventCountsVolume: without an open transfer and with one; an empty flow
window and one of 16 entries; a valid density. -/
theorem witness_SampleEvent :
    let s := station .terminal
    s.running = true ∧ s.inst.transferOpen = true ∧
      (withTrain .terminal []).running = true ∧
      ({ s with inst := { s.inst with transferOpen := false } }).inst.transferOpen = false ∧
      s.vol.flowWindow.length < 16 ∧ (List.replicate 16 7).length = 16 ∧
      readingValid 0 (readings 7)[(0 : Fin 8)] = true ∧ readingValid 0 (readings 0)[(0 : Fin 8)] = false := by
  decide

/-- CorrectionFactorBounds: the ends of the coefficients' ranges. -/
theorem witness_CorrectionFactorBounds :
    (32767 : Nat) ≤ 32767 ∧ (4095 : Nat) ≤ 4095 ∧ vcf 32767 4095 (-4000) 15000 = 1325694991 ∧
      vcf 32767 0 8000 0 = 860756324 := by decide

/-- OwnFlowMovesTrain: a record with a head and one without; a train whose oldest record is about to retire and
has not, at D = -50 with K = 50. -/
theorem witness_OwnFlowMovesTrain :
    let gone : BatchRecord := { present 99 with status := .departed }
    let here : BatchRecord := { present 100 with head := some (headAt .cleared (-50)) }
    let s := withTrain .terminal [gone, here, coming 101 .distant 900]
    (present 100).head = none ∧ (coming 101 .distant 70).head = some (headAt .distant 70) ∧
      lowestOf 70 [coming 102 .distant 40] = 40 ∧ s.samples ∧ gone.status = .departed ∧
      here.head = some (headAt .cleared (-50)) ∧ (headAt .distant 900).state = .distant ∧
      s.peer.phase ≠ .waitingSent := by
  refine ⟨by decide, by decide, by decide, ⟨by decide, by decide, ?_, by decide⟩, by decide⟩
  unfold Part.trainLaw; decide

/-- The window of batch 101 on a channel, with 10 dal of arrival pending and nothing taken of its marker. -/
def watched (ch : Channel) (st : HeadState) (d : Int) : Part :=
  let h : HeadInterface := { headAt st d with channel := some ch }
  let s := withTrain .terminal [present 100, { coming 101 st d with head := some h }]
  { s with
    inst := { s.inst with trunkPending := 40, markerReady := true }
    det := { s.det with
      refs := some { a := 1000, b := 2000, ta := 100, tb := 100, rising := true, thr := 1500, p := 25 } } }

/-- The watched part with its four counts as they stand before the event. -/
def counting (lead mid trail brk : Nat) (s : Part) : Part :=
  { s with det := { s.det with leadCount := lead, midCount := mid, trailCount := trail, breakRun := brk } }

/-- The window of the watched part. -/
def watchedHead (ch : Channel) (st : HeadState) (d : Int) : HeadInterface :=
  { headAt st d with channel := some ch }

/-- R79, R83: the second reading of 2,000 beyond the leading product's 1,000 takes the leading edge from ARMED;
with the other counts one short of 2 the interface is completed on the same event. -/
theorem test_analyser_stages :
    (after (.sampleEvent 0 (readings 7)) (counting 1 0 0 0 (watched .marker .armed 30))).windowState =
        some .inMix ∧
      (after (.sampleEvent 0 (readings 7)) (counting 1 1 1 0 (watched .marker .armed 30))).det.window =
        none := by decide

/-- R86, R15: at D = -71 after 10 dal of arrival, below -A = -70, an ARMED interface is cut LATE; at once its D is
below -K = -50, and the batch ahead, now DEPARTED, retires. -/
theorem test_late_cut :
    let t := after (.sampleEvent 0 (readings 7)) (watched .marker .armed (-61))
    t.train.records.map (fun r => r.head.map (fun h => (h.state, h.overdue, h.leadRec.map StageRecord.method))) =
        [some (.cleared, true, some .late)] ∧
      t.port.alarmSet .interfaceOverdue = true := by decide

/-- The window of batch 101 ARMED at D = -100, below -A, with OVERDUE set before. -/
def overdueAt (mark : Bool) : Part :=
  let h : HeadInterface := { headAt .armed (-100) with overdue := true, restartMark := mark }
  withTrain .terminal [present 100, { coming 101 .armed (-100) with head := some h }]

/-- R86: INTERFACE_OVERDUE is set again where the window's own re-anchor at D = -100 ends DEGRADED, and not where a
peer falls SILENT beside a window that was not DEGRADED. The late stages complete the window in both. -/
theorem test_overdue_set_again :
    let ended := after (.passageNoticeTaken 0)
      (hears (.passage 101 3 2 600 60 .analyser .analyser .analyser false false false) (overdueAt true))
    let aside := after (.peerSilenceExpiry 900000 5)
      { overdueAt false with peer := { (overdueAt false).peer with table := [five] } }
    (ended.port.alarmSet .interfaceOverdue, ended.det.window) = (true, none) ∧
      (aside.port.alarmSet .interfaceOverdue, aside.det.window) = (false, none) := by decide

/-- A sample event with a window, in each state that the clauses of the two statements name. -/
theorem watched_samplesWindow (ch : Channel) (st : HeadState)
    (hst : st = .armed ∨ st = .inMix ∨ st = .pastMid) :
    (watched ch st 30).samplesWindow (readings 7)
      { coming 101 st 30 with head := some (watchedHead ch st 30) } (watchedHead ch st 30) := by
  rcases hst with rfl | rfl | rfl <;> cases ch <;>
    simp only [Part.samplesWindow, Part.samples, Part.trainLaw, Part.distanceLaw, Part.windowLaw] <;> decide

/-- SampleEventTakesAnalyserStages: the value 2,000 on the marker, at D = 20 with an arming distance of 70; no
stage with the first reading, the leading edge with the second, all three with every count one short of 2; from
IN_MIX the midpoint, and the withdrawal at the third reading within ta - p of a leading reference of 2,000; from
PAST_MID the trailing edge. -/
theorem witness_SampleEventTakesAnalyserStages :
    let s := watched .marker .armed 30
    let h := watchedHead .marker .armed 30
    let near : Int := ((h.w / 2 + h.u + s.cfg.margin : Nat) : Int)
    (s.samplesWindow (readings 7) { coming 101 .armed 30 with head := some h } h ∧
      (watched .marker .inMix 30).samplesWindow (readings 7)
        { coming 101 .inMix 30 with head := some (watchedHead .marker .inMix 30) }
        (watchedHead .marker .inMix 30) ∧
      (watched .marker .pastMid 30).samplesWindow (readings 7)
        { coming 101 .pastMid 30 with head := some (watchedHead .marker .pastMid 30) }
        (watchedHead .marker .pastMid 30)) ∧
      h.channel = some .marker ∧ (s.eventOf (readings 7)).marker = some 2000 ∧
      (s.countOf (readings 7)).arrival = 10 ∧ near = 70 ∧ -near ≤ holdD (h.d - 10) ∧
      s.cfg.makeCount = 2 ∧ (100 < ((2000 : Int) - (1000 : Nat)).natAbs) ∧ min 2 (0 + 1) < 2 ∧
      2 ≤ min 2 (1 + 1) ∧ ((1500 : Nat) : Int) + (25 : Nat) ≤ 2000 ∧
      ((2000 : Int) - (2000 : Nat)).natAbs ≤ 100 ∧ s.cfg.breakCount ≤ min s.cfg.breakCount (2 + 1) ∧
      (∀ x ∈ s.train.records, x.batch ≠ 101 → x.headLive = false) :=
  ⟨⟨watched_samplesWindow _ _ (by decide), watched_samplesWindow _ _ (by decide),
    watched_samplesWindow _ _ (by decide)⟩, by decide⟩

/-- The products 2 and 3 far apart on both channels: |8,000 - 7,000| x 256 / 80 = 3,200 on DENSITY, and
|2,000 - 1,000| x 256 / 200 = 1,280 on MARKER. -/
def telling (density marker : Bool) (s : Part) : Part :=
  let product (r m : Nat) : ProductConfig :=
    { alpha := 0, beta := 0, growth := 0, refDensity := r, densityTol := 40, refMarker := m, markerTol := 100 }
  { s with
    image := { s.image with config := some { s.cfg with
      products := (s.cfg.products.set 1 (product 7000 1000)).set 2 (product 8000 2000) } }
    inst := { s.inst with densityReady := density, markerReady := marker } }

/-- R75, R76, R77, R28: with DENSITY lost on the event, an ARMED window on it goes over to MARKER with the reference
set of 1,000 and 2,000 and ANALYSER_LOST; and one IN_MIX on it falls to VOLUME. -/
theorem test_analyser_lost :
    let t := after (.sampleEvent 0 (readings 0)) (telling true true (watched .density .armed 60))
    t.windowHead.map (fun w => w.2.channel) = some (some .marker) ∧
      t.det.refs =
        some { a := 1000, b := 2000, ta := 100, tb := 100, rising := true, thr := 1500, p := 25 } ∧
      t.port.alarmSet .analyserLost = true ∧
      (after (.sampleEvent 0 (readings 0)) (telling true true (watched .density .inMix 60))).windowHead.map
        (fun w => w.2.channel) = some (some .volume) := by decide

/-- ReadinessReachesTheWindow: DENSITY lost on the event by an ARMED window that has it, MARKER then being the choice,
and by one IN_MIX; MARKER lost under DENSITY; the fourth missed set; and the window empty. -/
theorem witness_ReadinessReachesTheWindow :
    let s := telling true true (watched .density .armed 60)
    let m := telling true true (watched .density .inMix 60)
    let lost := Instruments.takeSet s.cfg (readings 0) s.inst
    let other := Instruments.takeSet m.cfg (readings 1) m.inst
    (s.samples ∧ s.distanceLaw ∧ s.windowLaw) ∧ (m.samples ∧ m.distanceLaw ∧ m.windowLaw) ∧
      s.windowHead.map (fun w => (w.1.batch, w.2.state, w.2.channel)) = some (101, .armed, some .density) ∧
      m.windowHead.map (fun w => (w.1.batch, w.2.state, w.2.channel)) = some (101, .inMix, some .density) ∧
      s.inst.densityReady = true ∧ lost.densityReady = false ∧ lost.markerReady = true ∧
      other.densityReady = true ∧ other.markerReady = false ∧
      (s.chosenFor 2 3).1 = .density ∧ ({ s with inst := lost } : Part).chosenFor 2 3 =
        (.marker, some { a := 1000, b := 2000, ta := 100, tb := 100, rising := true, thr := 1500, p := 25 }) ∧
      (let f : Part := { s with inst := { s.inst with missedRun := 3 } }
       f.inst.nextRequest = some 31250 ∧ f.inst.transferOpen = true ∧ f.inst.missedRun = 3 ∧
        f.planner.incoming = none ∧ f.windowHead.isSome = true) ∧
      (station .terminal).windowHead = none := by
  refine ⟨?_, ?_, by decide, by decide, by decide, by decide, by decide, by decide, by decide, by decide, by decide,
    by decide, by decide⟩ <;>
    · simp only [Part.samples, Part.trainLaw, Part.distanceLaw, Part.windowLaw]
      decide

/-- The watched part at a TERMINAL with an order that fills from batch 100, one that waits for batch 101, and the plan
that splits the mix at the midpoint. -/
def crossing (st : HeadState) (d : Int) : Part :=
  let ahead : Order := { order 4 100 true with tailPolicy := .atMid }
  let behind : Order := { order 7 101 false with outlet := 1, headPolicy := .atMid }
  let seg (o : Order) : Segment := { route := .outlet o.outlet, owner := some o.number }
  let plan : CutPlan :=
    { s0 := seg ahead, s1 := seg ahead, s2 := seg behind, s3 := seg behind, frozen := decide (st = .inMix) }
  let h : HeadInterface := { headAt st d with channel := some .volume, plan := some plan }
  let s := atOutletOne (withOrders [ahead, behind] 9 (withTrain .terminal
    [{ present 100 with orderLink := some 4 },
     { coming 101 st d with head := some h, orderLink := some 7 }]))
  { s with
    planner := { s.planner with planned := some (.outlet 0) }
    vol := { s.vol with tally := 33 }
    inst := { s.inst with trunkPending := 40, deliveryPending := 40 } }

/-- R101: the plan of these two orders. -/
theorem test_plan_splits_the_mix :
    (crossing .armed 45).windowPlan = some ((crossing .armed 45).planFor 101) ∧
      (crossing .armed 45).freshPlan 101 = (crossing .armed 45).planFor 101 := by decide

/-- R103, R84: from D = 10 by 20 dal the midpoint is taken; the order of batch 100 ends DONE with 33 + 10 dal, and that
of batch 101 fills from 0. -/
theorem test_stage_hands_over :
    let t := after (.sampleEvent 0 (readings 7)) (crossing .inMix 10)
    t.windowState = some .pastMid ∧
      t.planner.orders.map (fun o => (o.number, o.filling)) = [(7, true)] ∧ t.vol.tally = 0 ∧
      t.planner.planned = some (.outlet 1) ∧ t.port.records.map CutRecord.body = [.delivery 4 100 0 43 .done] := by
  decide

/-- SampleEventStagesMoveOrders: in front of its leading edge and in the mix, with an order on each side; and with only
the owner of S3 left beside the one that fills, each linked to its own batch. -/
theorem witness_SampleEventStagesMoveOrders :
    let s := crossing .armed 45
    let m := crossing .inMix 10
    let q := (s.windowPlan).getD ((s.planFor 101))
    (s.samples ∧ s.orderLaw ∧ s.windowLaw) ∧ (m.samples ∧ m.orderLaw ∧ m.windowLaw) ∧
      s.windowHead.map (fun w => (w.1.batch, w.2.plan)) = some (101, some q) ∧ s.cfg.role = .terminal ∧
      (∀ x ∈ s.train.records, x.status ≠ .departed) ∧
      (∀ o ∈ s.planner.orders, o.filling = true → o.limit = 0) ∧
      (∀ c : ChannelNo, s.cfg.guards[c].enable = false) ∧ s.soleLive 101 ∧
      (∀ o ∈ s.planner.orders, (o.filling = true ∨ q.s3.owner = some o.number) ∧
        (q.s3.owner = some o.number → o.batch = 101)) ∧
      (∀ y ∈ s.train.records, ∀ o ∈ s.planner.orders, y.orderLink = some o.number → o.batch = y.batch) := by
  refine ⟨?_, ?_, by decide, by decide, by decide, by decide, by decide, ?_, by decide, by decide⟩
  · simp only [Part.samples, Part.trainLaw, Part.orderLaw, Part.windowLaw]; decide
  · simp only [Part.samples, Part.trainLaw, Part.orderLaw, Part.windowLaw]; decide
  · unfold Part.soleLive; decide

/-- SampleEventTakesVolumeAndLateStages: on the VOLUME channel at D = 20 from 30 with half of W 30, so that the
leading edge is due and the midpoint is not; DEGRADED by a RESTART_MARK; and on the marker at D = -71 from -61,
below an arming distance of 70. -/
theorem witness_SampleEventTakesVolumeAndLateStages :
    let s := watched .volume .armed 30
    let h := watchedHead .volume .armed 30
    let late := watched .marker .armed (-61)
    let x := watchedHead .marker .armed (-61)
    s.samplesWindow (readings 7) { coming 101 .armed 30 with head := some h } h ∧
      late.samplesWindow (readings 7) { coming 101 .armed (-61) with head := some x } x ∧
      holdD (30 - 10) ≠ 30 ∧ s.degraded { h with d := 20 } = false ∧ holdD (30 - 10) ≤ 30 ∧ ¬(20 : Int) ≤ 0 ∧
      s.degraded { h with d := 20, restartMark := true } = true ∧
      holdD (x.d - (late.countOf (readings 7)).arrival) < -70 ∧ late.degraded { x with d := -71 } = false ∧
      late.soleLive 101 := by
  refine ⟨watched_samplesWindow _ _ (by decide), ?_, by decide, by decide, by decide, by decide, by decide,
    by decide, by decide, ?_⟩
  · simp only [Part.samplesWindow, Part.samples, Part.trainLaw, Part.distanceLaw, Part.windowLaw]
    decide
  · unfold Part.soleLive; decide

/-- SampleEventEndsOrdersAndDecidesCuts: an order that fills with its outlet confirmed and 10 dal of delivery,
without a limit and with one of 43 that its tally reaches from 33; at the ORIGIN a current batch of 500 dal that
reaches it from 490, with an entry waiting, none, and a made and latched HOLD_LAUNCH channel. -/
theorem witness_SampleEventEndsOrdersAndDecidesCuts :
    let filling (limit : Nat) : Part :=
      let s := atOutletOne (withOrders [{ order 4 100 true with limit := limit }] 5
        (withTrain .terminal [present 100]))
      { s with vol := { s.vol with tally := 33 }, inst := { s.inst with deliveryPending := 40 } }
    let o : Part := { launching with
      inst := { launching.inst with trunkPending := 40 }
      planner := { launching.planner with
        current := some { batch := 9, product := 2, nominated := some 500, source := some 0, launched := 490 } } }
    ((filling 43).samples ∧ (filling 43).orderLaw) ∧ (filling 43).cfg.role = .terminal ∧
      (filling 43).det.window = none ∧ (∀ r ∈ (filling 43).train.records, r.status ≠ .departed) ∧
      (filling 43).fillingOrder = some { order 4 100 true with limit := 43 } ∧
      (filling 0).fillingOrder = some (order 4 100 true) ∧
      (filling 43).outlet.current = .known (.outlet (order 4 100 true).outlet) ∧
      43 ≤ min ((filling 43).vol.tally + ((filling 43).countOf (readings 7)).delivery) 4294967295 ∧
      (∀ c : ChannelNo, (filling 0).cfg.guards[c].enable = false) ∧
      (withTrain .terminal []).fillingOrder = none ∧
      o.running = true ∧ o.inst.transferOpen = true ∧ o.cfg.role = .origin ∧ o.det.window = none ∧
      o.planner.orders = [] ∧ o.planner.incoming = none ∧
      500 ≤ min (490 + (o.countOf (readings 7)).trunk) 4294967295 ∧ o.planner.launches = cut :: [] ∧
      o.holdLaunchMade = false ∧ (station .origin).planner.launches = [] ∧
      heldLaunch.cfg.guards[(0 : ChannelNo)].action = .holdLaunch := by
  refine ⟨⟨⟨by decide, by decide, ?_, by decide⟩, ?_⟩, by decide⟩
  · unfold Part.trainLaw; decide
  · unfold Part.orderLaw; decide

/-- The station in OBSERVE with the open levels of some outlets active. -/
def observing (opened : List Outlet) : Part :=
  let s := station .terminal
  { s with
    inst := { s.inst with
      limits := Vector.ofFn (fun o => { open_ := opened.contains o, closed := false }) }
    outlet := { s.outlet with mode := some .observe } }

/-- The station at outlet 1 with its open level active, and outlet 2 STUCK_OPEN with its open level active. -/
def stuckAtTwo : Part :=
  let s := atOutletOne (station .terminal)
  { s with
    inst := { s.inst with
      limits := (s.inst.limits.set 0 { open_ := true, closed := false }).set 1 { open_ := true, closed := false } }
    outlet := { s.outlet with
      outlets := s.outlet.outlets.set 1 { command := .idle, stuckOpen := true, lastFault := .closeTimeout } } }

/-- FieldInputsAreTaken: outside RUNNING, in RUNNING, an outlet that opens unbidden, one of the route that loses its open
level, a STUCK_OPEN outlet that loses its open level and that closes, the level of an outlet not fitted, and OBSERVE. -/
theorem witness_FieldInputsAreTaken :
    (standby .terminal).running = false ∧
      (let s := atOutletOne (station .terminal)
       s.running = true ∧ s.outlet.mode = some .operate ∧ s.levelsRead 6 = true ∧
        s.inst.limits[(6 : Outlet)].get .open_ ≠ true ∧ s.outlet.change = none ∧
        s.outlet.outlets[(6 : Outlet)].command = .idle ∧ s.outlet.current ≠ .known (.outlet 6) ∧
        s.outlet.outlets[(6 : Outlet)].stuckOpen = false) ∧
      (let s := stuckAtTwo
       s.running = true ∧ s.outlet.mode = some .operate ∧ s.levelsRead 0 = true ∧ s.levelsRead 1 = true ∧
        s.inst.limits[(0 : Outlet)].get .open_ ≠ false ∧ s.outlet.outlets[(0 : Outlet)].command = .idle ∧
        s.outlet.current = .known (.outlet 0) ∧
        s.inst.limits[(1 : Outlet)].get .open_ ≠ false ∧ s.outlet.current ≠ .known (.outlet 1) ∧
        s.inst.limits[(1 : Outlet)].get .closed ≠ true ∧ s.outlet.change = none) ∧
      (station .relay).running = true ∧ (observing [3]).outlet.mode ≠ some .operate ∧
      ({ station .relay with image := { (station .relay).image with
           config := some { config .relay with outletsFitted := 0 } } } : Part).levelsRead 0 = false := by decide

/-- R121, R122: the outlet of the route takes UNCOMMANDED as it loses its open level, the route unchanged; STUCK_OPEN
stays over the loss of the open level, and goes with the closed level. -/
theorem test_stuck_open_and_lost_route :
    let lost := after (.limitLevelTaken 0 0 .open_ false) stuckAtTwo
    let leaves := after (.limitLevelTaken 0 1 .open_ false) stuckAtTwo
    let shut := after (.limitLevelTaken 0 1 .closed true) stuckAtTwo
    (lost.outlet.outlets[(0 : Outlet)].lastFault, lost.outlet.current, lost.port.alarmSet .valveFault) =
        (.uncommanded, .known (.outlet 0), true) ∧
      leaves.outlet.outlets[(1 : Outlet)].stuckOpen = true ∧
      shut.outlet.outlets[(1 : Outlet)].stuckOpen = false := by decide

/-- RouteChangeMakesBeforeBreak: the start toward CLOSED, and the open level of a change from CLOSED. -/
theorem witness_RouteChange_closed :
    (let p := atOutletOne (station .terminal)
     p.outlet.mode = some .operate ∧ p.outlet.conflictHold = false ∧ p.outlet.change = none ∧
      p.outlet.override = [] ∧ p.outlet.current = .known (.outlet 0) ∧
      p.outlet.target ≠ some .closed ∧ p.closedLevel 0 = false) ∧
    (let s : Part := { station .terminal with
       outlet := { (station .terminal).outlet with
         change := some { source := .known .closed, target := .outlet 1, phase := .opening, expiry := 9 } } }
     s.running = true ∧ s.outlet.mode = some .operate ∧ s.levelsRead 1 = true ∧
      s.inst.limits[(1 : Outlet)].open_ = false ∧ s.outlet.pending = none ∧
      s.outlet.change.map Change.source = some (.known .closed)) := by decide

/-- RouteChangeMakesBeforeBreak: the start, the open level and the closed level of a change. -/
theorem witness_RouteChangeMakesBeforeBreak :
    (let p := atOutletOne (station .terminal)
     (0 : Outlet) ≠ 1 ∧ p.outlet.mode = some .operate ∧ p.outlet.conflictHold = false ∧
      p.outlet.change = none ∧ p.outlet.override = [] ∧ p.outlet.current = .known (.outlet 0) ∧
      p.outlet.target ≠ some (.outlet 1) ∧ p.openLevel 1 = false ∧ p.planner.incoming = none) ∧
    (let s := changing .opening (station .terminal)
     s.running = true ∧ s.outlet.mode = some .operate ∧ s.levelsRead 1 = true ∧
      s.inst.limits[(1 : Outlet)].open_ = false ∧ s.closedLevel 0 = false ∧
      s.outlet.change = some { source := .known (.outlet 0), target := .outlet 1, phase := .opening,
                               expiry := 99 }) ∧
    (let s := changing .closing (station .terminal)
     s.levelsRead 0 = true ∧ s.inst.limits[(0 : Outlet)].closed = false ∧
      s.outlet.outlets[(0 : Outlet)].command = .closing ∧
      (∀ o : Outlet, o ≠ 0 → s.outlet.outlets[o].command ≠ .closing) ∧ s.outlet.pending = none ∧
      s.outlet.change = some { source := .known (.outlet 0), target := .outlet 1, phase := .closing,
                               expiry := 99 }) := by decide

/-- RouteChangeMakesBeforeBreak: levels already active at the command, of the target and of the outlet left; a change in
flight with a target that is its own, and with another. -/
theorem witness_RouteChange_levels :
    (let s := atOutletOne (station .terminal)
     let p : Part := { s with inst := { s.inst with
       limits := (s.inst.limits.set 1 { open_ := true, closed := false }).set 0 { open_ := true, closed := true } } }
     p.outlet.target ≠ some (.outlet 1) ∧ p.openLevel 1 = true ∧ p.closedLevel 0 = true ∧
      s.closedLevel 0 = false ∧ p.outlet.target ≠ some .closed ∧ p.planner.incoming = none) ∧
    (let p := changing .opening (station .terminal)
     p.outlet.mode = some .operate ∧ p.outlet.conflictHold = false ∧ p.outlet.override = [] ∧
      p.outlet.change.map Change.target = some (.outlet 1) ∧ p.outlet.target ≠ some (.outlet 2) ∧
      Route.outlet 2 ≠ .outlet 1) := by decide

/-- RouteChangeMakesBeforeBreak: channel 3 joining an empty override and channel 5 in it, and leaving the one; a route
that its make begins from outlet 1. -/
theorem witness_RouteChange_override :
    let p := atOutletOne (station .terminal)
    let q : Part := { p with outlet := { p.outlet with override := [(4, .closed), (6, .outlet 6)] } }
    (∀ x ∈ p.outlet.override, (2 : ChannelNo) < x.1) ∧ (∀ x ∈ q.outlet.override, (2 : ChannelNo) < x.1) ∧
      q.outlet.override = (4, .closed) :: [(6, .outlet 6)] ∧ (4 : ChannelNo) < 5 ∧
      (∀ y ∈ ([(6, .outlet 6)] : List (ChannelNo × Route)), y.1 ≠ 4) ∧ p.outlet.planned = some (.outlet 0) ∧
      p.outlet.target ≠ some .closed ∧ p.closedLevel 0 = false ∧ p.openLevel 6 = false ∧
      p.outlet.change = none ∧ p.outlet.current = .known (.outlet 0) ∧ p.planner.incoming = none := by decide

/-- The station with a conflict hold, its route UNKNOWN and its target outlet 2. -/
def conflicting (reported : Bool) (target : Route) (s : Part) : Part :=
  { s with outlet :=
      { s.outlet with
        current := .unknown, target := some target, planned := some target, conflictHold := true
        reported := reported } }

/-- RouteChangeMakesBeforeBreak: a hold that has not been reported, and one that has, toward an outlet and toward CLOSED;
the open level of its clearing change; outlets to clear and none; and FORCE STAGE under a hold. -/
theorem witness_RouteChange_hold :
    let p := conflicting true (.outlet 1) (station .terminal)
    let open_ : Part := { p with outlet :=
      { p.outlet with
        conflictHold := false, reported := false
        change := some { source := .unknown, target := .outlet 1, phase := .opening, expiry := 9 } } }
    let m := conflicting true .closed (mixing .armed 40)
    (conflicting false .closed (station .terminal)).outlet.reported = false ∧
      p.outlet.conflictHold = true ∧ p.outlet.reported = true ∧ p.outlet.current = .unknown ∧
      p.planner.incoming = none ∧ p.outlet.target = some (.outlet 1) ∧ p.openLevel 1 = false ∧
      p.cfg.fitted 0 = true ∧ p.closedLevel 0 = false ∧
      (∀ o : Outlet, (station .relay).openLevel o = false) ∧
      (let q := conflicting true .closed (station .terminal)
       let shut : Part := { q with inst := { q.inst with limits := Vector.replicate 7 { open_ := false, closed := true } } }
       shut.outlet.conflictHold = true ∧ shut.outlet.reported = true ∧ shut.outlet.target = some .closed ∧
        ∀ o : Outlet, shut.closedLevel o = true) ∧
      open_.running = true ∧ open_.levelsRead 1 = true ∧ open_.inst.limits[(1 : Outlet)].open_ = false ∧
      open_.outlet.pending = none ∧
      m.outlet.conflictHold = true ∧ m.windowHead = some (coming 101 .armed 40, headAt .armed 40) ∧
      stageOf? (1 : Octet).toNat = some .leading ∧ (headAt .armed 40).next = some .leading := by decide

/-- RouteChangeMakesBeforeBreak: OBSERVE with no outlet open, one and two. -/
theorem witness_RouteChange_observe :
    (observing []).running = true ∧ (observing []).outlet.mode = some .observe ∧
      (observing []).outlet.override = [] ∧ (observing []).outletLaw ∧
      (observing []).inst.transferOpen = true ∧ (∀ o : Outlet, (observing []).openLevel o = false) ∧
      (∀ x : Outlet, (observing [3]).openLevel x = true ↔ x = 3) ∧
      (observing [3, 6]).openLevel 3 = true ∧ (observing [3, 6]).openLevel 6 = true := by
  refine ⟨by decide, by decide, by decide, ⟨?_, by decide⟩, by decide⟩
  show ∀ o : Outlet, (observing []).outlet.outlets[o].command = .idle
  decide

/-- R125: OBSERVE takes the route that outlet 4 shows at a sample event, and none from two. -/
theorem test_observe_follows :
    (after (.sampleEvent 0 (readings 7)) (observing [3])).outlet.current = .known (.outlet 3) ∧
      (after (.sampleEvent 0 (readings 7)) (observing [3, 6])).outlet.current = .unknown := by decide

/-- R124: with no order held FORCE STAGE hands CLOSED, and its clearing change closes all that is not closed. -/
theorem test_hold_ends_with_clearing_change :
    let t := after (.forceStage 0 101 1) (conflicting true (.outlet 1) (mixing .armed 40))
    t.outlet.conflictHold = false ∧ t.outlet.outlets[1].command = .closing ∧
      t.outlet.change.map Change.target = some .closed ∧
      t.outlet.change.map Change.source = some .unknown := by decide

/-- TravelTimeoutEndsChange: no change, one that opens, one that closes, and one with outlet 3 pending, one bit
time before the expiry at 99 and at it. -/
theorem witness_TravelTimeoutEndsChange :
    let s := changing .opening (station .terminal)
    let p : Part := { s with outlet := { s.outlet with pending := some (.outlet 2) } }
    p.running = true ∧ p.now + 98 < 99 ∧ 99 ≤ p.now + 99 ∧
      p.outlet.pending = some (.outlet 2) ∧ p.planner.incoming = none ∧
      CurrentRoute.known (.outlet 0) ≠ .known (.outlet 2) ∧ p.openLevel 2 = false ∧
      s.outlet.pending = none ∧ ChangePhase.closing ≠ .opening ∧
    (station .terminal).outlet.change = none ∧
      (changing .opening (station .terminal)).outlet.change.map Change.phase = some .opening ∧
      (changing .closing (station .terminal)).outlet.change.map Change.phase = some .closing ∧
      (changing .closing (station .terminal)).outlet.outlets[(0 : Outlet)].command = .closing := by decide

/-- LineFrameChecked: a HOLD frame of station 5 to all that is read, one with station 9 as its source, one to
station 3 and one to station 9, which no HOLD goes to; a frame of nine octets; 24 notices waiting. -/
theorem witness_LineFrameChecked :
    let good : List Octet := [0x03, 0x05, 0x00, 0x00, 0x00, 0x01, 0xF4, 0x02, 0x00, 0x64, 0x9A, 0x95]
    let toThree : List Octet := [0x03, 0x05, 0x03, 0x00, 0x00, 0x01, 0xF4, 0x02, 0x00, 0x64, 0x52, 0xE0]
    let toNine : List Octet := [0x03, 0x05, 0x09, 0x00, 0x00, 0x01, 0xF4, 0x02, 0x00, 0x64, 0xC3, 0x9C]
    let own : List Octet := [0x03, 0x09, 0x00, 0x00, 0x00, 0x01, 0xF4, 0x02, 0x00, 0x64, 0x2F, 0x85]
    (station .terminal).running = true ∧ (station .terminal).transmitting = false ∧
      (sending (.hold 1) 0 (station .terminal)).transmitting = true ∧
      ¬(good.length < 10 ∨ checkGood good = false) ∧ (good.take 9).length < 10 ∧
      readNotice good = some { source := 5, chainage := 500, body := .hold 100 } ∧
      field toThree 2 1 ≠ 0 ∧ field toThree 2 1 ≠ (station .terminal).cfg.station ∧
      checkGood toThree = true ∧ checkGood own = true ∧ field own 1 1 = (station .terminal).cfg.station ∧
      checkGood toNine = true ∧ field toNine 2 1 = (station .terminal).cfg.station ∧
      readNotice toNine = none ∧ (station .terminal).bus.inbound.length < 24 ∧
      24 ≤ (List.replicate 24 ({ source := 5, chainage := 500, body := .hold 1 } : Received)).length := by
  decide

/-- LineFrameChecked: a count of 17 that comes to the high watermark of 18, one that does not, and one above low with a
HOLD sent; and a HOLD taken that leaves 6, the low watermark, and 7. -/
theorem witness_LineFrameChecked_watermarks :
    let n : Received := { source := 5, chainage := 500, body := .hold 1 }
    let s := hears (.hold 1) (busy (station .terminal))
    let with_ (k : Nat) (sent : Bool) : Part :=
      { s with bus := { s.bus with inbound := n :: List.replicate k n, holdSent := sent } }
    (with_ 16 false).cfg.highWater ≤ (with_ 16 false).bus.inbound.length + 1 ∧
      (with_ 15 false).bus.inbound.length + 1 < (with_ 15 false).cfg.highWater ∧
      (with_ 6 true).cfg.lowWater < (with_ 6 true).bus.inbound.length + 1 ∧
      (with_ 6 true).bus.holdSent = true ∧ (with_ 6 true).bus.inbound = n :: List.replicate 6 n ∧
      (with_ 6 true).knows n five ∧ (List.replicate 6 n).length ≤ (with_ 6 true).cfg.lowWater ∧
      (with_ 7 true).cfg.lowWater < (List.replicate 7 n).length ∧
      (List.replicate 16 n).length < (with_ 16 false).cfg.highWater ∧
      s.bus.buffer.isSome = true ∧ s.bus.outbound.length < 32 := by
  unfold Part.knows
  decide

/-- R151: the notice that brings the count to 18 sends a HOLD of 200 slots. -/
theorem test_high_watermark_sends_hold :
    let s := busy (station .terminal)
    let full : Part := { s with bus := { s.bus with
      inbound := List.replicate 17 { source := 5, chainage := 500, body := .hold 1 } } }
    let t := after (.lineFrameReceived 0
      [0x03, 0x05, 0x00, 0x00, 0x00, 0x01, 0xF4, 0x02, 0x00, 0x64, 0x9A, 0x95]) full
    t.bus.holdSent = true ∧ t.bus.outbound.map Queued.notice = [.hold 200] := by decide

/-- FullOutboundQueue: a full queue that ends in a class 2 notice, a TRAIN REQUEST, and one of class 1 alone; a
STATUS is class 3. -/
theorem witness_FullOutboundQueue :
    let launch : Notice := .launch 1 1 0 0 5 5 0
    let q (n : Notice) : Queued := { notice := n, joined := 0 }
    let queue (n : Notice) : List Queued := List.replicate 31 (q launch) ++ [q n]
    32 ≤ (queue (.trainRequest 5 1)).length ∧ launch.cls = 1 ∧ launch.cls < 3 ∧
      (Notice.status .terminal 1 10).cls = 3 ∧ 1 < (Notice.status .terminal 1 10).cls ∧
      (q (.status .terminal 1 10)).ofClass 3 = true ∧ (q (.trainRequest 5 1)).ofClass 2 = true ∧
      (∀ x ∈ queue (.trainRequest 5 1), x.ofClass 3 = false) ∧
      (∀ x ∈ queue launch, x.ofClass 3 = false ∧ x.ofClass 2 = false) ∧
      (busy (station .terminal)).bus.buffer.isSome = true ∧
      (let s := station .terminal
       let p : Part := { s with bus := { s.bus with
         peerHold := some { expiry := 50, holder := 5 }
         outbound := List.replicate 32 (q (.trainRequest 5 1)) } }
       p.bus.buffer = none ∧ p.bus.peerHold.isSome = true ∧ 32 ≤ p.bus.outbound.length ∧
        (∀ x ∈ p.bus.outbound, x.ofClass 1 = false) ∧ p.bus.outbound.any (Queued.ofClass 2) = true) := by decide

/-- TransmitStartFillsFrame: a notice that waits with no carrier known, one bit time before the end of the gap after a
carrier and at it, and an empty buffer. -/
theorem witness_TransmitStartFillsFrame :
    (busy (station .terminal)).bus.carrierEnd = none ∧
      (let s := (busy (station .terminal)).carrierUntil 10
       s.bus.carrierEnd = some 10 ∧ s.now + 41 < 10 + 32 ∧ 10 + 32 ≤ s.now + 42) ∧
    (busy (station .terminal)).running = true ∧
      (busy (station .terminal)).bus.buffer = some waiting ∧ waiting.phase = .waiting 0 ∧
      (station .terminal).bus.buffer = none := by decide

/-- FrameSentEmptiesBuffer and CollisionBacksOff: a TRAIN REQUEST on the medium whose sync waits for it, and a
class 1 notice at its eleventh collision. -/
theorem witness_FrameSent_and_Collision :
    let s := sending (.trainRequest 5 1) 0 (station .terminal)
    let t : Part := { s with peer := { s.peer with phase := .waitingSent } }
    let u := sending (.launch 1 1 0 0 5 5 0) 11 (station .terminal)
    t.running = true ∧ t.bus.buffer.map TxBuffer.notice = some (.trainRequest 5 1) ∧
      t.bus.buffer.map TxBuffer.phase = some (.sending [1, 2]) ∧ t.bus.generator = some 1 ∧
      (Notice.trainRequest 5 1).isRequest = true ∧ t.peer.phase = .waitingSent ∧
      (Notice.trainRequest 5 1).cls ≠ 1 ∧ t.bus.outbound = [] ∧ ¬(128 < 128) ∧ 128 < 129 ∧
      u.bus.buffer.map TxBuffer.collisions = some 11 ∧ 12 ≤ 11 + 1 ∧
      (Notice.launch 1 1 0 0 5 5 0).cls = 1 := by decide

/-- BackoffAndHoldEnd: one bit time before each end, and at it. -/
theorem witness_BackoffAndHoldEnd :
    let s : Part := { station .terminal with
      bus := { (station .terminal).bus with
        buffer := some { waiting with phase := .backoff 1696 }
        peerHold := some { expiry := 50, holder := 5 } } }
    s.running = true ∧ s.bus.buffer = some { waiting with phase := .backoff 1696 } ∧
      s.bus.peerHold = some { expiry := 50, holder := 5 } ∧ s.bus.buffer.isSome = true ∧
      s.now + 49 < 50 ∧ 50 ≤ s.now + 50 ∧ s.now + 1695 < 1696 ∧ 1696 ≤ s.now + 1696 ∧
      (station .terminal).bus.buffer = none := by decide

/-- LaunchNoticeInserts: a LAUNCH from station 5 that its entry knows, at an ORIGIN, for a known batch, refused,
with the train full, and into an empty train at D = 800 with an arming distance of 65. -/
theorem witness_LaunchNoticeInserts :
    let body : Body := .launch 101 3 100 2 0 50 200
    let n : Received := { source := 5, chainage := 500, body := body }
    let s := hears body (station .terminal)
    let known := hears body (withTrain .terminal [coming 101 .distant 900])
    let refused := hears body { station .terminal with train := { records := [], horizon := some 101 } }
    let full := hears body (withTrain .terminal (List.replicate 64 (present 100)))
    s.running = true ∧ s.bus.inbound = n :: [] ∧ s.knows n five ∧
      (hears body (station .origin)).cfg.role = .origin ∧ s.cfg.role ≠ .origin ∧
      known.admission 101 = .known ∧ refused.admission 101 = .refused ∧ full.admission 101 = .full ∧
      s.admission 101 = .room ∧ s.train.records = [] ++ [] ∧ s.trainLaw ∧ s.windowLaw ∧
      ((min 1000000 (50 + 0) / 2 + min 1000000 (20 + (holdD 800).toNat * 33 / 65536) + 20 : Nat) : Int) <
        holdD 800 := by
  unfold Part.knows Part.trainLaw Part.windowLaw
  decide

/-- LaunchNoticeInserts: behind a record with no head and in front of the window at D = 700. -/
theorem witness_LaunchNoticeInserts_front :
    let p := hears (.launch 101 3 100 2 0 50 200) (withTrain .terminal [present 100, coming 102 .distant 700])
    p.admission 101 = .room ∧ p.trainLaw ∧ p.windowLaw ∧
      p.train.records = [present 100] ++ [coming 102 .distant 700] ∧
      (∀ x ∈ [present 100], serialBefore x.batch 101 = true ∧ x.headLive = false) ∧
      (∀ x ∈ [coming 102 .distant 700], serialBefore 101 x.batch = true) ∧ p.det.window = some 102 ∧
      (withTrain .end_ []).cfg.role = .end_ ∧ ((withTrain .end_ []).planFor 101).s0.owner = none := by
  unfold Part.trainLaw Part.windowLaw
  decide

/-- LaunchNoticeInserts: behind the window at D = 700, where the clamp does not move the new head. -/
theorem witness_LaunchNoticeInserts_behind :
    let p := hears (.launch 101 3 100 2 0 50 200) (withTrain .terminal [coming 100 .distant 700])
    p.admission 101 = .room ∧ p.trainLaw ∧ p.windowLaw ∧ p.train.records = [coming 100 .distant 700] ++ [] ∧
      p.windowHead = some (coming 100 .distant 700, headAt .distant 700) ∧
      serialBefore 100 101 = true ∧ (headAt .distant 700).d ≤ holdD 800 := by
  unfold Part.trainLaw Part.windowLaw
  decide

/-- PassageReanchors: from station 5, for a CLEARED head, for a record with none, in the mix, and from own
chainage; and into an empty train. -/
theorem witness_PassageReanchors :
    let body : Body := .passage 101 3 2 30 64 .analyser .analyser .analyser false false false
    let n : Received := { source := 5, chainage := 500, body := body }
    let s := hears body (withTrain .terminal [coming 101 .inMix 9])
    let c := hears body (withTrain .terminal [coming 101 .cleared 0])
    let beside : Part :=
      { s with image := { s.image with config := some { config .terminal with chainage := 500 } } }
    beside.running = true ∧ beside.knows n five ∧ beside.cfg.chainage ≤ n.chainage ∧ s.running = true ∧ s.bus.inbound = n :: [] ∧ s.knows n five ∧ n.chainage < s.cfg.chainage ∧
      s.train.records = [coming 101 .inMix 9] ∧ s.det.window = some 101 ∧
      (headAt .inMix 9).state = .inMix ∧ s.planner.incoming = none ∧
      findBatch 101 c.train.records = some (coming 101 .cleared 0) ∧
      (headAt .cleared 0).state = .cleared ∧
      findBatch 101 (hears body (withTrain .terminal [present 101])).train.records = some (present 101) ∧
      (present 101).head = none ∧
      (let far := hears body (withTrain .terminal [coming 101 .distant 900])
       far.train.records = [coming 101 .distant 900] ∧ far.det.window = some 101 ∧
        (headAt .distant 900).state = .distant) ∧
      (let empty := hears body (station .terminal)
       empty.admission 101 = .room ∧ empty.train.records = [] ++ [] ∧ empty.planner.incoming = none ∧
        empty.trainLaw ∧ empty.windowLaw) ∧
      ((min 1000000 (64 + 500 * 0 / 65536) / 2 + min 1000000 (20 + 470 * 33 / 65536) + 20 : Nat) : Int) <
        holdD ((1000 : Int) - 500 - 30) := by
  unfold Part.knows Part.trainLaw Part.windowLaw
  decide

/-- PassageReanchors: for a head between an older window at D = 100 and a newer head. -/
theorem witness_PassageReanchors_between :
    let p := hears (.passage 101 3 2 30 64 .analyser .analyser .analyser false false false)
      (withTrain .terminal [coming 100 .distant 100, coming 101 .distant 300, coming 102 .distant 400])
    p.train.records = [coming 100 .distant 100] ++ coming 101 .distant 300 :: [coming 102 .distant 400] ∧
      p.planner.incoming = none ∧ p.trainLaw ∧ p.windowLaw ∧ (headAt .distant 300).state ≠ .cleared ∧
      p.windowHead = some (coming 100 .distant 100, headAt .distant 100) ∧
      (headAt .distant 100).d ≤ holdD ((1000 : Int) - 500 - 30) ∧
      (headAt .distant 300).restartMark = false := by
  unfold Part.trainLaw Part.windowLaw
  decide

/-- PassageReanchors: a batch older than the settled limit, which R6 refuses, and one that finds 64 records. -/
theorem witness_PassageReanchors_dropped :
    (withTrain .terminal [present 100]).admission 99 = .refused ∧
      (let records := (List.range 64).map (fun k => coming (BitVec.ofNat 16 (101 + k)) .distant 900)
       (withTrain .terminal records).admission 200 = .full) := by decide

/-- PassageReanchors: a window in its mix on the VOLUME channel and DISTANT within half of W, on an analyser, and
DEGRADED by its own mark, beside a newer head with a RESTART_MARK. -/
theorem witness_PassageReanchors_mark :
    let window (st : HeadState) (ch : Channel) (d : Int) (mark : Bool) : HeadInterface :=
      { headAt st d with channel := some ch, restartMark := mark }
    let marked : HeadInterface := { headAt .distant 300 with restartMark := true }
    let p (g : HeadInterface) : Part := hears
      (.passage 102 3 2 30 64 .analyser .analyser .analyser false false false)
      (withTrain .terminal [{ coming 101 .distant 0 with head := some g }, { coming 102 .distant 300 with head := some marked }])
    let g := window .inMix .volume (-5) false
    (p g).windowHead = some ({ coming 101 .distant 0 with head := some g }, g) ∧ (p g).trainLaw ∧ (p g).windowLaw ∧
      (p g).planner.incoming = none ∧ (p g).planner.orders = [] ∧ (p g).degraded g = false ∧ g.d ≤ 0 ∧
      -((g.w / 2 : Nat) : Int) < g.d ∧ g.d ≤ holdD ((1000 : Int) - 500 - 30) ∧ marked.restartMark = true ∧
      (let near := window .distant .volume 30 false
       (p near).degraded near = false ∧ near.d ≤ ((near.w / 2 : Nat) : Int) ∧ ¬near.d ≤ 0) ∧
      (window .pastMid .density 5 false).channel ≠ some .volume ∧
      (p (window .inMix .volume 5 true)).degraded (window .inMix .volume 5 true) = true := by
  unfold Part.trainLaw Part.windowLaw
  decide

/-- HoldNoticeHolds: 0 slots with a hold of the same holder in force, 4,001 slots with none. -/
theorem witness_HoldNoticeHolds :
    let n (slots : Nat) : Received := { source := 5, chainage := 500, body := .hold slots }
    let s := hears (.hold 4001) (station .terminal)
    let t := hears (.hold 0) { station .terminal with
      bus := { (station .terminal).bus with peerHold := some { expiry := 50, holder := 5 } } }
    s.running = true ∧ s.bus.inbound = n 4001 :: [] ∧ s.bus.peerHold = none ∧
      t.running = true ∧ t.bus.inbound = n 0 :: [] ∧
      t.bus.peerHold = some { expiry := 50, holder := (n 0).source } := by decide

/-- A window of batch 101 at D, upstream of station 5 where D is above 500. -/
def beyondFive (ch : Channel) (st : HeadState) (d : Int) : Part :=
  withTrain .terminal [present 100, { coming 101 st d with head := some (watchedHead ch st d) }]

/-- HoldNoticeHolds: a SILENT peer, one with another chainage, a new one; the window on the VOLUME channel within half of
W, upstream of the peer's chainage of 990 and DEGRADED until its silence ends. -/
theorem witness_HoldNoticeHolds_handedOn :
    let s := beyondFive .volume .armed 20
    let silent : PeerEntry := { five with chainage := 990, silent := true }
    let p : Part := { s with peer := { s.peer with table := [silent] } }
    let head := watchedHead .volume .armed 20
    findPeer 5 p.peer.table = some silent ∧ silent.silent = true ∧ silent.chainage ≠ 500 ∧
      findPeer 6 p.peer.table = none ∧ p.degraded head = true ∧ s.degraded head = false ∧
      p.windowAlone { coming 101 .armed 20 with head := some head } head ∧
      head.d ≤ ((head.w / 2 : Nat) : Int) ∧ ¬head.d ≤ 0 := by
  unfold Part.windowAlone Part.trainLaw Part.windowLaw Part.distanceLaw
  decide

/-- HoldNoticeHolds and PeerMonitorTimersExpire: a window on an analyser below −A, the only live head. -/
theorem witness_handedOn_overdue :
    let s := beyondFive .density .armed (-100)
    let low := watchedHead .density .armed (-100)
    s.windowAlone { coming 101 .armed (-100) with head := some low } low ∧
      low.d < -((low.w / 2 + low.u + s.cfg.margin : Nat) : Int) ∧ s.degraded low = false ∧ s.soleLive 101 := by
  unfold Part.windowAlone Part.trainLaw Part.windowLaw Part.distanceLaw Part.soleLive
  decide

/-- R85, R67, R155: the end of the silence of station 5, between the window and this station, lets the suspended leading
edge be taken; a change of its chainage sets CHAINAGE_CHANGED. -/
theorem test_silence_ends :
    let s := hears (.hold 0) (beyondFive .volume .armed 20)
    let from990 : List Received := [{ source := 5, chainage := 990, body := .hold 0 }]
    let p (was : Nat) : Part :=
      { s with
        peer := { s.peer with table := [{ five with chainage := was, silent := true }] }
        bus := { s.bus with inbound := from990 } }
    let t := after (.holdNoticeTaken 0) (p 990)
    t.windowState = some .inMix ∧ t.port.alarmSet .chainageChanged = false ∧
      (after (.holdNoticeTaken 0) (p 980)).port.alarmSet .chainageChanged = true := by decide

/-- PassageReanchors: a single window below −A on an analyser, its RESTART_MARK set and OVERDUE set before. -/
theorem witness_PassageReanchors_overdue :
    let h : HeadInterface := { headAt .armed (-100) with overdue := true, restartMark := true }
    let r : BatchRecord := { coming 101 .armed (-100) with head := some h }
    let p := hears (.passage 101 3 2 600 60 .analyser .analyser .analyser false false false)
      (withTrain .terminal [r])
    p.train.records = [r] ∧ p.det.window = some 101 ∧ h.restartMark = true ∧ p.windowLaw ∧
      p.planner.orders = [] ∧ h.channel = some .density ∧
      holdD ((1000 : Int) - 500 - 600) < -((60 / 2 + 20 + 20 : Nat) : Int) ∧
      h.d < -((h.w / 2 + h.u + p.cfg.margin : Nat) : Int) := by
  unfold Part.windowLaw
  decide

/-- StatusNoticeUpdatesPeer: a peer with no counter yet. -/
theorem witness_StatusNoticeUpdatesPeer_baseline :
    let flags : StatusFlags :=
      { densityReady := true, markerReady := false, anyDegraded := false, holdSent := false }
    let fresh : PeerEntry := { five with delivered := none }
    let n : Received := { source := 5, chainage := 500, body := .status .terminal 1 10 100 0 none flags }
    let s : Part := { hears n.body (station .terminal) with
      peer := { (station .terminal).peer with table := [fresh] } }
    s.running = true ∧ s.bus.inbound = n :: [] ∧ s.knows n fresh ∧ fresh.delivered = none := by
  unfold Part.knows
  decide

/-- StatusNoticeUpdatesPeer: a delta of 30 with the window in its mix on the density channel, and with another
start count a rebaseline, the head one dal upstream of the peer. -/
theorem witness_StatusNoticeUpdatesPeer :
    let flags : StatusFlags :=
      { densityReady := true, markerReady := false, anyDegraded := false, holdSent := false }
    let body : Body := .status .terminal 1 10 100 0 none flags
    let n : Received := { source := 5, chainage := 500, body := body }
    let s := hears body (withTrain .terminal [coming 101 .inMix 700])
    s.running = true ∧ s.bus.inbound = n :: [] ∧ s.knows n five ∧
      s.train.records = [coming 101 .inMix 700] ∧ s.det.window = some 101 ∧
      (headAt .inMix 700).channel = some .density ∧ s.planner.incoming = none ∧
      five.delivered = some 70 ∧ five.startCount = some 1 ∧
      ((100 : Counter) - 70).toNat < 2 ^ 31 ∧ (s.cfg.chainage : Int) - 501 < 500 ∧
      five.startCount ≠ some 2 ∧ s.windowHead = some (coming 101 .inMix 700, headAt .inMix 700) := by
  unfold Part.knows
  decide

/-- StatusNoticeUpdatesPeer: a delta of 30 over a train with a head downstream of the peer and two
upstream of it, and of a peer at own chainage. -/
theorem witness_StatusNoticeUpdatesPeer_train :
    let s := withTrain .terminal
      [present 99, coming 101 .distant 400, coming 102 .distant 501, coming 103 .distant 700]
    s.trainLaw ∧ s.windowLaw ∧ five.delivered = some 70 ∧ five.startCount = some 1 ∧
      ((100 : Counter) - 70).toNat < 2 ^ 31 ∧ 500 < s.cfg.chainage ∧
      ¬((s.cfg.chainage : Int) - 400 < 500) ∧ (s.cfg.chainage : Int) - 501 < 500 ∧
      ({ s with image := { s.image with config := some { config .terminal with chainage := 500 } } } : Part).cfg.chainage ≤
        500 := by
  unfold Part.trainLaw Part.windowLaw
  decide

/-- R53, R63: a delta of 30 lowers the two heads upstream of the peer, and the clamp brings the head downstream of it to
the D of the newer one that it passes. -/
theorem test_delta_over_a_train :
    let flags : StatusFlags :=
      { densityReady := true, markerReady := false, anyDegraded := false, holdSent := false }
    let t := after (.statusNoticeTaken 0) (hears (.status .terminal 1 10 100 0 none flags)
      (withTrain .terminal
        [present 99, coming 101 .distant 490, coming 102 .distant 510, coming 103 .distant 700]))
    t.train.records.map (fun r => r.head.map (fun h => (h.d, h.clamped))) =
      [none, some (480, true), some (480, false), some (670, false)] := by decide

/-- TrainRequestAnswered: room for one segment, and none. -/
theorem witness_TrainRequestAnswered :
    let n : Received := { source := 5, chainage := 500, body := .trainRequest 6 }
    let s := hears (.trainRequest 6) (busy (station .terminal))
    s.running = true ∧ s.bus.inbound = [n] ∧ s.knows n five ∧ s.bus.buffer.isSome = true ∧
      s.bus.holdSent = false ∧ 0 < s.cfg.highWater ∧ 1 ≤ 32 - s.bus.outbound.length ∧
      32 - (List.replicate 32 ({ notice := .hold 1, joined := 0 } : Queued)).length < 1 := by
  unfold Part.knows
  decide

/-- An entry of a report. -/
def reported : ReportEntry :=
  { batch := 101, product := 3, leading := 2, d := 40, w := 60, u := 20, nominated := 0
    state := .head .distant }

/-- TrainReportSegmentTaken: no sync, and one whose request has not left; a sync with station 5 and a report of
its tag, and of another; a segment that is not FIRST with no partial report, with another total, and with the one
that goes on; a FIRST of 65; an empty one of 1; one entry too many; one of 64 with LAST; and one of 1 complete. -/
theorem witness_TrainReportSegmentTaken :
    let body : Body := .report true true 9 0 0 []
    let n : Received := { source := 5, chainage := 500, body := body }
    let s := hears body (station .terminal)
    let t : Part := { s with peer := { s.peer with phase := .awaiting 90, syncStation := some 5 } }
    s.running = true ∧ s.bus.inbound = n :: [] ∧ s.knows n five ∧ s.peer.phase = .idle ∧
      t.knows n five ∧ t.peer.phase ≠ .waitingSent ∧ t.peer.phase = .awaiting 90 ∧
      t.peer.syncStation = some n.source ∧ (9 = t.cfg.station ∧ (0 : BitVec 16) = t.peer.tag) ∧
      ¬(9 = t.cfg.station ∧ (1 : BitVec 16) = t.peer.tag) ∧
      ({ s with peer := { s.peer with phase := .waitingSent } } : Part).peer.phase = .waitingSent ∧
      s.bus.outbound.length < 32 ∧ t.peer.partialTotal = none ∧
      ({ t with peer := { t.peer with partialTotal := some 2 } } : Part).peer.partialTotal ≠ some 1 ∧
      ({ t with peer := { t.peer with partialTotal := some 2, buffer := [reported] } } : Part).peer.buffer.length +
        [reported].length = 2 ∧
      64 < 65 ∧ 0 < 1 ∧ 1 < [reported].length + [reported].length ∧ [reported] ≠ [] ∧
      0 + [reported].length ≠ 64 ∧ 0 + [reported].length = 1 := by
  unfold Part.knows
  decide

/-- TrainReportSegmentTaken: a report of one entry, vacant, at an ORIGIN, known, refused, with the train full, and with
room. -/
theorem witness_TrainReportSegmentTaken_entry :
    let body : Body := .report true true 9 0 1 [reported]
    let n : Received := { source := 5, chainage := 500, body := body }
    let asking (s : Part) : Part :=
      { hears body s with peer := { (hears body s).peer with phase := .awaiting 90, syncStation := some 5 } }
    let s := asking (station .terminal)
    s.running = true ∧ s.bus.inbound = n :: [] ∧ s.knows n five ∧ 9 = s.cfg.station ∧
      (0 : BitVec 16) = s.peer.tag ∧ s.peer.partialTotal = none ∧ ¬1 < [reported].length ∧
      [] ++ [reported].map (fun y => { y with d := holdD (y.d + (1000 : Int) - 500) }) =
        [{ reported with d := 540 }] ∧
      ({ reported with state := .gone }).state = .gone ∧ reported.state ≠ .gone ∧
      (asking (station .origin)).cfg.role = .origin ∧ s.cfg.role ≠ .origin ∧
      (asking (withTrain .terminal [coming 101 .distant 900])).admission 101 = .known ∧
      (asking { station .terminal with train := { records := [], horizon := some 101 } }).admission 101 =
        .refused ∧
      (asking (withTrain .terminal (List.replicate 64 (present 100)))).admission 101 = .full ∧
      s.admission 101 = .room ∧ s.trainLaw ∧ s.windowLaw ∧ s.train.records = [] ++ [] := by
  unfold Part.knows Part.trainLaw Part.windowLaw
  decide

/-- R10, R163: an entry of D = 40 at chainage 500 is inserted at D = 540. -/
theorem test_report_entry_inserted :
    let s := hears (.report true true 9 0 1 [reported]) (station .terminal)
    let t := after (.trainReportSegmentTaken 0)
      { s with peer := { s.peer with phase := .awaiting 90, syncStation := some 5 } }
    t.train.records.map (fun r => (r.batch, r.head.map HeadInterface.d)) = [(101, some 540)] ∧
      t.peer.lastOutcome = .merged 1 0 0 0 := by decide

/-- SyncFromBeginsSync: station 0, a sync already there, and stations 1 and 48. -/
theorem witness_SyncFromBeginsSync :
    let s := busy (station .terminal)
    let t : Part := { s with peer := { s.peer with phase := .waitingSent } }
    s.running = true ∧ ¬(1 ≤ (0 : Octet).toNat) ∧ s.cfg.listens (1 : Octet).toNat = true ∧
      s.cfg.listens (48 : Octet).toNat = true ∧ (48 : Octet).toNat ≠ s.cfg.station ∧
      s.peer.phase = .idle ∧ t.peer.phase ≠ .idle ∧ s.bus.buffer.isSome = true ∧
      s.bus.outbound.length < 32 := by decide

/-- PeerMonitorTimersExpire: a STATUS due, with a STATUS queued and without one, and one bit time before. -/
theorem witness_PeerMonitorTimersExpire_status :
    let s := busy { station .terminal with peer := { (station .terminal).peer with nextStatus := some 40 } }
    let x : Queued := { notice := .status .terminal 1 10, joined := 0 }
    let t : Part := { s with bus := { s.bus with outbound := [] ++ x :: [] } }
    s.running = true ∧ s.peer.nextStatus = some 40 ∧ s.now + 39 < 40 ∧ 40 ≤ s.now + 40 ∧
      s.bus.buffer.isSome = true ∧
      (∀ y ∈ s.bus.outbound, y.ofClass 3 = false) ∧ s.bus.outbound.length < 32 ∧
      t.bus.outbound = [] ++ x :: [] ∧ x.ofClass 3 = true := by decide

/-- PeerMonitorTimersExpire: a silence expiry and a sync timer, at their moments and one bit time before, and
timers that do not run. -/
theorem witness_PeerMonitorTimersExpire :
    let s := hears (.hold 1) (station .terminal)
    let t : Part := { s with peer := { s.peer with phase := .receiving 90 } }
    s.running = true ∧ findPeer 5 s.peer.table = some five ∧ five.expiry = some 900000 ∧
      s.now + 899999 < 900000 ∧ 900000 ≤ s.now + 900000 ∧ ({ five with expiry := none }).expiry = none ∧
      t.peer.phase = .receiving 90 ∧ t.now + 89 < 90 ∧ 90 ≤ t.now + 90 ∧ s.peer.phase = .idle := by decide

/-- PeerMonitorTimersExpire: a peer that falls SILENT beyond a window on the VOLUME channel, and one below −A. -/
theorem witness_PeerMonitorTimersExpire_handedOn :
    let s := beyondFive .volume .armed 20
    let p : Part := { s with peer := { s.peer with table := [{ five with chainage := 990 }] } }
    let head := watchedHead .volume .armed 20
    findPeer 5 p.peer.table = some { five with chainage := 990 } ∧ five.expiry = some 900000 ∧
      p.windowAlone { coming 101 .armed 20 with head := some head } head := by
  unfold Part.windowAlone Part.trainLaw Part.windowLaw Part.distanceLaw
  decide

/-- CommandsKeepOtherBlocks. -/
theorem witness_CommandsKeepOtherBlocks :
    Block.train ∉ (Instr.takeRecord 0).mayChange ∧
      ∃ t, exec (.takeRecord 0) (lone (station .terminal)) = .next t :=
  ⟨by decide, _, rfl⟩

/-- EventsWaitForRunning. -/
theorem witness_EventsWaitForRunning :
    (standby .terminal).running = false ∧ (Instr.meterPulse 0 .trunk).isEvent = true := by decide

/-- The laws kept by every step: a station in a mix with an order that fills, with a sample event in front of
its queue, obeys them all and steps. -/
theorem witness_laws_kept :
    let p := withOrders [order 4 100 true] 5 (mixing .inMix 9)
    p.queueLaw ∧ p.trainLaw ∧ p.distanceLaw ∧ p.windowLaw ∧ p.orderLaw ∧ p.outletLaw ∧ p.volumeLaw ∧
      ∃ t, step { part := p, pending := [.sampleEvent 0 (readings 7)] } = .next t := by
  refine ⟨?_, ?_, ?_, ?_, ?_, ?_, ?_, _, rfl⟩
  · unfold Part.queueLaw; decide
  · unfold Part.trainLaw; decide
  · unfold Part.distanceLaw; decide
  · unfold Part.windowLaw; decide
  · unfold Part.orderLaw; decide
  · refine ⟨?_, by decide, by decide⟩
    show ∀ o : Outlet, (station .terminal).outlet.outlets[o].command = .idle
    decide
  · unfold Part.volumeLaw; decide

/-- RequestFramesReadBack: STORE IMAGE with 294 octets. -/
theorem witness_RequestFramesReadBack :
    (Instr.storeImage 0 true false 0 (List.replicate 294 0)).wellFormed = true ∧
      encodeRequest (.storeImage 0 true false 0 (List.replicate 294 0)) =
        some (0x10, flags [true, false] ++ be2 0 ++ be2 294 ++ List.replicate 294 0) := by
  refine ⟨by decide, ?_⟩
  simp [encodeRequest]

/-- LineFramesReadBack: station 9 heard by station 48, and the ends of the fields' ranges. -/
theorem witness_LineFramesReadBack :
    let s := station .terminal
    let peer : Config := { config .end_ with station := 48, listening := 0x7FFFFFFFFFFF }
    1 ≤ s.cfg.station ∧ s.cfg.station ≤ 48 ∧ s.cfg.chainage ≤ 40000000 ∧ s.cfg.station ≠ peer.station ∧
      peer.listens s.cfg.station = true ∧ (15 : Product) ≠ 0 ∧ (4294967295 : Nat) < 2 ^ 32 ∧
      (65535 : Nat) < 65536 ∧ 1 ≤ peer.station ∧ peer.station < 256 ∧ (255 : Nat) < 256 := by decide

/-- LineFramesReadBack: a report of a record with a head at the ends of its ranges, and of a batch that has retired. -/
theorem witness_LineFramesReadBack_report :
    let r := coming 101 .cleared (-2000000000)
    let s := withTrain .terminal [r]
    ([101, 100] : List BatchNo).length ≤ 3 ∧ findBatch 101 s.train.records = some r ∧ r.product ≠ 0 ∧
      r.nominated.getD 0 < 2 ^ 32 ∧ r.head = some (headAt .cleared (-2000000000)) ∧
      -(2 ^ 31 : Int) ≤ (headAt .cleared (-2000000000)).d ∧ (headAt .cleared (-2000000000)).d < 2 ^ 31 ∧
      (headAt .cleared 0).w < 2 ^ 32 ∧ (headAt .cleared 0).u < 2 ^ 32 ∧
      findBatch 100 s.train.records = none := by decide

/-- R160, 12.2: a report of batch 101 at D = −5 and of batch 100, which has retired, as another station reads it. -/
theorem test_report_reads_back :
    let s := withTrain .terminal [coming 101 .armed (-5)]
    let peer : Config := { config .end_ with station := 7, listening := 0x7FFFFFFFFFFF }
    judgeFrame peer (s.frameOf (.report 7 true true 7 3 2 [101, 100])) =
      .accepted
        { source := 9, chainage := 1000
          body := .report true true 7 3 2
            [{ batch := 101, product := 3, leading := 2, d := -5, w := 60, u := 20, nominated := 0, state := .head .armed },
             { batch := 100, product := 0, leading := 0, d := 0, w := 0, u := 0, nominated := 0, state := .gone }] } := by
  decide

end Sys2Proof.Tests
end

section
/-! SUPPORT. The reset state and the reads: what either reset leaves, that the reset state obeys every law, and
the requests that only answer (R175, R19, R113, R173, R166). -/

open Sys2Proof

namespace Sys2Proof.Machine

/-! ## Requests that are served, and the reset state -/

/-- The reset state has no change in flight, every outlet IDLE and no override. -/
theorem reset_outletLaw : State.reset.part.outletLaw := by
  refine ⟨?_, nofun, nofun, fun _ => rfl, fun _ => ?_⟩
  · show ∀ o : Outlet, State.reset.part.outlet.outlets[o].command = .idle
    decide
  · decide

/-- An empty train has no window. -/
theorem Part.windowLaw_of_empty {s : Part} (empty : s.train.records = []) (window : s.det.window = none) :
    s.windowLaw := by
  simp [Part.windowLaw, empty, window, oldestLive]

/-- A request that R167 serves is served. -/
theorem Part.request_served {code : Octet} {states : List PartState} {roles : List Role}
    {serve : Part → Part} {s : Part} (idle : s.image.state ≠ .programming)
    (state : s.image.state ∈ states) (role : s.cfg.role ∈ roles) :
    s.request code states roles serve = serve s := by
  simp [Part.request, Part.portCheck, idle, state, role]

theorem Part.running_iff (s : Part) : s.running = true ↔ s.image.state = .running := by
  simp [Part.running]

theorem role_mem_allRoles (r : Role) : r ∈ allRoles := by
  cases r <;> simp [allRoles]

/-- In RUNNING a request for some roles is served at a station that has one of them. -/
theorem Part.request_running {code : Octet} {roles : List Role} {serve : Part → Part} {s : Part}
    (run : s.running = true) (role : s.cfg.role ∈ roles) :
    s.request code [.running] roles serve = serve s := by
  have state := s.running_iff.mp run
  exact Part.request_served (by simp [state]) (by simp [state]) role

@[simp] theorem Part.onlyAnswers_respond (s : Part) (code : Octet) (result : Result)
    (payload : List Octet) : s.onlyAnswers (s.respond code result payload) := rfl

@[simp] theorem Part.answered_respond (s : Part) (code : Octet) (result : Result)
    (payload : List Octet) : (s.respond code result payload).answered code result payload := rfl

/-- In RUNNING a request for some roles serves its part of the state, at a station that has one of them. -/
theorem State.run_request {code : Octet} {roles : List Role} {serve : Part → Part} {s : State}
    (dt : Nat) (run : s.part.running = true) (role : s.part.cfg.role ∈ roles) :
    s.run dt (Part.request code [.running] roles serve) =
      .next { s with part := serve (s.part.elapse dt) } := by
  rw [State.run, Part.request_running (s := s.part.elapse dt) run role]

end Sys2Proof.Machine

open Sys2Proof.Machine

/-- Settles O3: both resets put every volatile block at its value after reset, and keep only the clock,
the port's and the image store's share. -/
theorem resetTakesResetValues : Obligations.ResetTakesResetValues := by
  intro c s reset
  cases c with
  | powerOnReset dt => exact ⟨_, rfl, rfl, rfl, rfl, rfl, rfl, rfl, rfl, rfl, rfl⟩
  | resetLineReset dt => exact ⟨_, rfl, rfl, rfl, rfl, rfl, rfl, rfl, rfl, rfl, rfl⟩
  | _ => cases reset

/-- Settles O58: the blocks of the reset state are empty, so each law but the outlets' holds of it at
once. -/
theorem lawsHoldAtReset : Obligations.LawsHoldAtReset := by
  have queue : State.reset.part.queueLaw :=
    ⟨Nat.zero_le _, Nat.zero_le _, Nat.zero_le _, Nat.zero_le _, fun _ => rfl⟩
  have train : State.reset.part.trainLaw :=
    ⟨Nat.zero_le _, .nil, fun _ => rfl, fun _ => ⟨rfl, rfl⟩⟩
  have window : State.reset.part.windowLaw := Part.windowLaw_of_empty rfl rfl
  have order : State.reset.part.orderLaw := ⟨Nat.zero_le _, .nil, nofun, Nat.zero_le _⟩
  have volume : State.reset.part.volumeLaw :=
    ⟨by decide, by decide, by decide, by decide, Nat.zero_le _⟩
  exact ⟨queue, train, .nil, window, order, reset_outletLaw, volume, rfl⟩

/-- Settles O6: each read serves its answer and nothing else, TAKE RECORD takes the head of the record
queue, and a frame that is no request only answers or is only counted. -/
theorem readsAndOtherFramesAnswered : Obligations.ReadsAndOtherFramesAnswered := by
  intro s dt
  refine ⟨⟨_, rfl, rfl, rfl⟩, fun run => ⟨fun index => ?_, ?_, ?_⟩, fun code => ⟨_, rfl, rfl, rfl⟩,
    ⟨_, rfl, rfl, fun b => by cases b <;> simp [Block.same, Part.countDiscarded]⟩⟩
  · refine ⟨_, State.run_request dt run (role_mem_allRoles _), ?_, ?_, ?_⟩
    · unfold Part.serveReadTrain
      split <;> rfl
    · intro r found
      simp [Part.serveReadTrain, found]
    · intro beyond
      simp [Part.serveReadTrain, List.getElem?_eq_none beyond]
  · refine ⟨_, State.run_request dt run (role_mem_allRoles _), rfl, rfl⟩
  · refine ⟨_, State.run_request dt run (role_mem_allRoles _), rfl, rfl, rfl, rfl,
      ?_, ?_, ?_⟩
    · intro empty
      simp [Part.serveTakeRecord, Part.answered, takePayload, empty, be1]
    · intro r rest queue
      simp [Part.serveTakeRecord, Part.answered, takePayload, queue]
    · intro b other
      cases b with
      | records => exact absurd rfl other
      | _ => simp [Block.same, Part.serveTakeRecord]
end

section
/-! SUPPORT. The train as a list: the order that R5 asks for, the bare records that a plan or an order does not
touch, and the live heads that the window law is about, each with what the train store's functions do to it. -/

open Sys2Proof

namespace Sys2Proof.Machine

/-! ## The order of the train (R5, R6) -/

/-- At most 64 batch numbers, each before all that follow it (R5). -/
def inOrder (batches : List BatchNo) : Prop :=
  batches.length ≤ 64 ∧ batches.Pairwise (fun a b => serialBefore a b = true)

/-- The batch numbers of the train, oldest first. -/
def Part.batches (s : Part) : List BatchNo := s.train.records.map BatchRecord.batch

/-- The train is in order (R5). -/
def Part.ordered (s : Part) : Prop := inOrder s.batches

/-- No launch is queued and none waits (R108, R110). -/
def Part.noLaunch (s : Part) : Prop := s.planner.launches = [] ∧ s.planner.incoming = none

/-- The train law in the terms of this file. -/
theorem Part.trainLaw_iff (s : Part) :
    s.trainLaw ↔ s.ordered ∧ (s.running = false → s.train.records = []) ∧
      (s.running = false ∨ s.cfg.role ≠ .origin → s.noLaunch) := by
  simp [Part.trainLaw, Part.ordered, inOrder, Part.batches, Part.noLaunch, List.pairwise_map, and_assoc]

theorem Part.batches_length (s : Part) : s.batches.length = s.train.records.length := by
  simp [Part.batches]

theorem serialBefore_irrefl (a : BatchNo) : serialBefore a a = false := by
  simp [serialBefore]

/-- No two numbers come each before the other: their differences add up to 65,536 (5.4). -/
theorem serialBefore_asymm {a b : BatchNo} (h : serialBefore a b = true) : serialBefore b a = false := by
  simp only [serialBefore, decide_eq_true_eq, decide_eq_false_iff_not] at h ⊢
  bv_omega

theorem serialBefore_ne {a b : BatchNo} (h : serialBefore a b = true) : a ≠ b := by
  rintro rfl
  simp [serialBefore_irrefl] at h

theorem inOrder_nil : inOrder [] := ⟨Nat.zero_le _, .nil⟩

theorem inOrder.sublist {l m : List BatchNo} (h : inOrder m) (sub : l.Sublist m) : inOrder l :=
  ⟨sub.length_le.trans h.1, h.2.sublist sub⟩

theorem inOrder.nodup {l : List BatchNo} (h : inOrder l) : l.Nodup :=
  h.2.imp serialBefore_ne

/-- A number between two runs of numbers in order, where there is room. -/
theorem inOrder_insert {older newer : List BatchNo} {b : BatchNo} (h : inOrder (older ++ newer))
    (room : (older ++ newer).length < 64) (below : ∀ a ∈ older, serialBefore a b = true)
    (above : ∀ a ∈ newer, serialBefore b a = true) : inOrder (older ++ b :: newer) := by
  obtain ⟨-, sorted⟩ := h
  rw [List.pairwise_append] at sorted
  obtain ⟨sortedOlder, sortedNewer, across⟩ := sorted
  refine ⟨by simp at room ⊢; omega, ?_⟩
  rw [List.pairwise_append, List.pairwise_cons]
  refine ⟨sortedOlder, ⟨above, sortedNewer⟩, fun a ha c hc => ?_⟩
  rcases List.mem_cons.mp hc with rfl | hc
  · exact below a ha
  · exact across a ha c hc

/-- In a train in order, a batch number names one record. -/
theorem Part.ordered.record_unique {s : Part} (h : s.ordered) {r x : BatchRecord}
    (hr : r ∈ s.train.records) (hx : x ∈ s.train.records) (same : r.batch = x.batch) : r = x :=
  List.inj_on_of_nodup_map (inOrder.nodup h) hr hx same

/-! ## Lookups -/

theorem findBatch_mem {b : BatchNo} {recs : List BatchRecord} {r : BatchRecord}
    (h : findBatch b recs = some r) : r ∈ recs ∧ r.batch = b :=
  ⟨List.mem_of_find?_eq_some h, by simpa using List.find?_some h⟩

/-- In a train in order, the record of a batch is found. -/
theorem findBatch_of_mem {recs : List BatchRecord} (distinct : (recs.map BatchRecord.batch).Nodup)
    {r : BatchRecord} (mem : r ∈ recs) : findBatch r.batch recs = some r := by
  cases found : findBatch r.batch recs with
  | none =>
    have := List.find?_eq_none.mp found r mem
    simp at this
  | some x =>
    obtain ⟨hx, same⟩ := findBatch_mem found
    rw [List.inj_on_of_nodup_map distinct hx mem same]

theorem knownBatch_iff {b : BatchNo} {recs : List BatchRecord} :
    knownBatch b recs = true ↔ b ∈ recs.map BatchRecord.batch := by
  simp [knownBatch, findBatch, List.find?_isSome]

theorem olderThan_append_newerThan (b : BatchNo) (recs : List BatchRecord) :
    olderThan b recs ++ newerThan b recs = recs := List.takeWhile_append_dropWhile

theorem before_of_mem_olderThan {b : BatchNo} {recs : List BatchRecord} {r : BatchRecord}
    (h : r ∈ olderThan b recs) : serialBefore r.batch b = true := by
  have := List.mem_takeWhile_imp (p := fun x : BatchRecord => serialBefore x.batch b) h
  exact this

/-- What R6 says of a number that may have a record: its place divides the train, and it comes after every
settled record's (R6). -/
theorem before_of_mem_newerThan {t : TrainStore} {b : BatchNo} (h : admitted t b = true) {r : BatchRecord}
    (mem : r ∈ newerThan b t.records) : serialBefore b r.batch = true := by
  simp only [admitted, Bool.and_eq_true, List.all_eq_true] at h
  exact h.1.2 r mem

/-- The place of an inserted record, where the train is divided at it. -/
theorem olderThan_of_divided {b : BatchNo} {older newer : List BatchRecord}
    (below : ∀ x ∈ older, serialBefore x.batch b = true) (above : ∀ x ∈ newer, serialBefore b x.batch = true) :
    olderThan b (older ++ newer) = older ∧ newerThan b (older ++ newer) = newer := by
  have stop : ∀ x ∈ newer, serialBefore x.batch b = false := fun x hx => serialBefore_asymm (above x hx)
  constructor
  · rw [olderThan, List.takeWhile_append_of_pos below]
    cases newer with
    | nil => simp
    | cons x rest => simp [stop x (List.mem_cons_self ..)]
  · rw [newerThan, List.dropWhile_append_of_pos below]
    cases newer with
    | nil => simp
    | cons x rest => simp [stop x (List.mem_cons_self ..)]

/-! ## Batch numbers through the train store's functions -/

/-- Records changed one by one keep their batch numbers where the change does. -/
theorem map_batch_map {f : BatchRecord → BatchRecord} (h : ∀ r, (f r).batch = r.batch)
    (recs : List BatchRecord) : (recs.map f).map BatchRecord.batch = recs.map BatchRecord.batch := by
  simp [h]

@[simp] theorem lowerTo_batch (d : Int) (r : BatchRecord) : (lowerTo d r).batch = r.batch := rfl
@[simp] theorem raiseTo_batch (d : Int) (r : BatchRecord) : (raiseTo d r).batch = r.batch := rfl

theorem updateBatch_batches {b : BatchNo} {f : BatchRecord → BatchRecord} (h : ∀ r, (f r).batch = r.batch)
    (recs : List BatchRecord) :
    (updateBatch b f recs).map BatchRecord.batch = recs.map BatchRecord.batch :=
  map_batch_map (fun r => by split <;> simp [h]) recs

theorem anchoredClamp_batches (b : BatchNo) (d : Int) (recs : List BatchRecord) :
    (anchoredClamp b d recs).map BatchRecord.batch = recs.map BatchRecord.batch := by
  induction recs with
  | nil => rfl
  | cons r rest ih =>
    simp only [anchoredClamp]
    split
    · simp
    · simp [ih]

theorem flowClamp_batches (recs : List BatchRecord) :
    (flowClamp recs).map BatchRecord.batch = recs.map BatchRecord.batch := by
  induction recs with
  | nil => rfl
  | cons r rest ih =>
    simp only [flowClamp]
    split <;> simp [ih]

theorem armTrain_batches (c : Config) (recs : List BatchRecord) :
    (armTrain c recs).map BatchRecord.batch = recs.map BatchRecord.batch := by
  simp [armTrain]

theorem makePresent_batches (b : BatchNo) (recs : List BatchRecord) :
    (makePresent b recs).map BatchRecord.batch = recs.map BatchRecord.batch := by
  induction recs with
  | nil => rfl
  | cons r rest ih =>
    cases rest with
    | nil => simp only [makePresent]; split <;> rfl
    | cons n rest =>
      simp only [makePresent]
      split
      · rfl
      · split <;> simpa using ih

theorem splitRetired_append (keep : Nat) (recs : List BatchRecord) :
    (splitRetired keep recs).1 ++ (splitRetired keep recs).2 = recs := by
  induction recs with
  | nil => rfl
  | cons r rest ih =>
    cases rest with
    | nil => rfl
    | cons n rest =>
      simp only [splitRetired]
      split
      · simpa using ih
      · rfl

/-- Every record that retires is DEPARTED (R15). -/
theorem departed_of_mem_splitRetired {keep : Nat} {recs : List BatchRecord} {r : BatchRecord}
    (h : r ∈ (splitRetired keep recs).1) : r.status = .departed := by
  induction recs with
  | nil => simp [splitRetired] at h
  | cons x rest ih =>
    cases rest with
    | nil => simp [splitRetired] at h
    | cons n rest =>
      simp only [splitRetired] at h
      split at h
      · rename_i leaves
        rcases List.mem_cons.mp h with rfl | h
        · simp only [retires, Bool.and_eq_true, decide_eq_true_eq] at leaves
          exact leaves.1
        · exact ih h
      · simp at h

/-- What the retirement test leaves holds no record to retire (R15). -/
theorem splitRetired_idem (keep : Nat) (recs : List BatchRecord) :
    (splitRetired keep (splitRetired keep recs).2).1 = [] := by
  induction recs with
  | nil => rfl
  | cons r rest ih =>
    cases rest with
    | nil => rfl
    | cons n rest =>
      by_cases leaves : retires keep r n = true
      · simpa [splitRetired, leaves] using ih
      · simp [splitRetired, leaves]

theorem inOrder_splitRetired {keep : Nat} {recs : List BatchRecord}
    (h : inOrder (recs.map BatchRecord.batch)) :
    inOrder ((splitRetired keep recs).2.map BatchRecord.batch) := by
  refine h.sublist (List.Sublist.map _ ?_)
  conv_rhs => rw [← splitRetired_append keep recs]
  exact List.sublist_append_right _ _

/-- An insertion that R6 and R14 allow keeps the train in order. -/
theorem inOrder_insertRecord {t : TrainStore} {r : BatchRecord}
    (h : inOrder (t.records.map BatchRecord.batch)) (room : t.records.length < 64)
    (allowed : admitted t r.batch = true) : inOrder ((insertRecord r t.records).map BatchRecord.batch) := by
  rw [insertRecord, List.map_append, List.map_cons]
  have whole := olderThan_append_newerThan r.batch t.records
  refine inOrder_insert ?_ ?_ ?_ ?_
  · rwa [← List.map_append, whole]
  · rw [← List.map_append, whole, List.length_map]; exact room
  · simp only [List.mem_map, forall_exists_index, and_imp, forall_apply_eq_imp_iff₂]
    exact fun x hx => before_of_mem_olderThan hx
  · simp only [List.mem_map, forall_exists_index, and_imp, forall_apply_eq_imp_iff₂]
    exact fun x hx => before_of_mem_newerThan allowed hx

/-! ## Bare records -/

/-- A head interface without what the detector's choice and the cut planner give it. -/
def HeadInterface.bare (h : HeadInterface) : HeadInterface := { h with channel := none, plan := none }

/-- A record without its order link and its head's channel and plan. -/
def BatchRecord.bare (r : BatchRecord) : BatchRecord :=
  { r with orderLink := none, head := r.head.map HeadInterface.bare }

@[simp] theorem BatchRecord.bare_batch (r : BatchRecord) : r.bare.batch = r.batch := rfl

/-- A change of one batch's record keeps the bare records where it keeps that one's. -/
theorem updateBatch_bare {b : BatchNo} {f : BatchRecord → BatchRecord} (h : ∀ r, (f r).bare = r.bare)
    (recs : List BatchRecord) :
    (updateBatch b f recs).map BatchRecord.bare = recs.map BatchRecord.bare := by
  simp only [updateBatch, List.map_map]
  refine List.map_congr_left (fun r _ => ?_)
  simp only [Function.comp_apply]
  split
  · exact h r
  · rfl

/-- What a record's bare form tells is equal wherever the bare records are. -/
theorem map_eq_of_bare {α : Type} {f : BatchRecord → α} (h : ∀ r, f r = f r.bare)
    {recs other : List BatchRecord} (same : recs.map BatchRecord.bare = other.map BatchRecord.bare) :
    recs.map f = other.map f := by
  have key : ∀ l : List BatchRecord, l.map f = (l.map BatchRecord.bare).map f := fun l => by
    rw [List.map_map]
    exact List.map_congr_left (fun r _ => h r)
  rw [key, key other, same]

/-! ## Live heads (R73) -/

/-- What the window law reads of a live head: its batch, its record's status, whether it is in its mix, and
whether a PAST_MID one has its midpoint error. -/
structure LiveHead where
  batch : BatchNo
  status : BatchStatus
  mixing : Bool
  midKept : Bool

/-- The live head of a record, if it has one. -/
def BatchRecord.live (r : BatchRecord) : Option LiveHead :=
  if r.headLive then some ⟨r.batch, r.status, r.mixing, r.midKept⟩ else none

/-- The live heads of a train, oldest first. -/
def liveHeads (recs : List BatchRecord) : List LiveHead := recs.filterMap BatchRecord.live

/-- The window law in terms of the live heads. -/
def lawOf (window : Option BatchNo) (heads : List LiveHead) : Prop :=
  window = heads.head?.map LiveHead.batch ∧
    ∀ k ∈ heads, k.status = .approaching ∧ (k.mixing = true → window = some k.batch) ∧ k.midKept = true

theorem BatchRecord.live_eq_some {r : BatchRecord} {k : LiveHead} :
    r.live = some k ↔ r.headLive = true ∧ k = ⟨r.batch, r.status, r.mixing, r.midKept⟩ := by
  unfold BatchRecord.live
  split
  · simp [*, eq_comm]
  · simp [*]

theorem mem_liveHeads {recs : List BatchRecord} {k : LiveHead} :
    k ∈ liveHeads recs ↔ ∃ r ∈ recs, r.headLive = true ∧ k = ⟨r.batch, r.status, r.mixing, r.midKept⟩ := by
  simp [liveHeads, BatchRecord.live_eq_some]

/-- A head in its mix is live. -/
theorem BatchRecord.live_of_mixing {r : BatchRecord} (h : r.mixing = true) : r.headLive = true := by
  unfold BatchRecord.mixing at h
  unfold BatchRecord.headLive
  cases hr : r.head with
  | none => simp [hr] at h
  | some x => cases hx : x.state <;> simp_all

/-- A head that is not live keeps no midpoint error waiting. -/
theorem BatchRecord.midKept_of_not_live {r : BatchRecord} (h : r.headLive = false) : r.midKept = true := by
  unfold BatchRecord.headLive at h
  unfold BatchRecord.midKept
  cases hr : r.head with
  | none => rfl
  | some x => cases hx : x.state <;> simp_all

theorem oldestLive_eq (recs : List BatchRecord) :
    oldestLive recs = (liveHeads recs).head?.map LiveHead.batch := by
  induction recs with
  | nil => rfl
  | cons r rest ih =>
    unfold oldestLive liveHeads at ih ⊢
    cases hr : r.headLive with
    | true => simp [hr, BatchRecord.live]
    | false => simpa [hr, BatchRecord.live] using ih

theorem Part.windowLaw_iff (s : Part) : s.windowLaw ↔ lawOf s.det.window (liveHeads s.train.records) := by
  unfold Part.windowLaw lawOf
  rw [oldestLive_eq]
  refine and_congr_right (fun _ => ⟨fun ⟨near, mix, mid⟩ k hk => ?_, fun h => ⟨?_, ?_, ?_⟩⟩)
  · obtain ⟨r, hr, live, rfl⟩ := mem_liveHeads.mp hk
    exact ⟨near r hr live, mix r hr, mid r hr⟩
  · exact fun r hr live => (h _ (mem_liveHeads.mpr ⟨r, hr, live, rfl⟩)).1
  · exact fun r hr mixing =>
      (h _ (mem_liveHeads.mpr ⟨r, hr, BatchRecord.live_of_mixing mixing, rfl⟩)).2.1 mixing
  · intro r hr
    cases live : r.headLive with
    | true => exact (h _ (mem_liveHeads.mpr ⟨r, hr, live, rfl⟩)).2.2
    | false => exact BatchRecord.midKept_of_not_live live

/-! ### What leaves the live heads as they are -/

theorem BatchRecord.live_bare (r : BatchRecord) : r.live = r.bare.live := by
  cases h : r.head <;>
    simp [BatchRecord.live, BatchRecord.headLive, BatchRecord.mixing, BatchRecord.midKept,
      BatchRecord.bare, HeadInterface.bare, h]

theorem liveHeads_eq_of_bare {recs other : List BatchRecord}
    (same : recs.map BatchRecord.bare = other.map BatchRecord.bare) : liveHeads recs = liveHeads other := by
  have key : ∀ l : List BatchRecord, liveHeads l = (l.map BatchRecord.live).filterMap id := fun l => by
    simp [liveHeads, List.filterMap_map]
  rw [key, key other, map_eq_of_bare BatchRecord.live_bare same]

theorem liveHeads_map {f : BatchRecord → BatchRecord} {recs : List BatchRecord}
    (h : ∀ r ∈ recs, (f r).live = r.live) : liveHeads (recs.map f) = liveHeads recs := by
  rw [liveHeads, List.filterMap_map]
  exact List.filterMap_congr h

theorem liveHeads_append (l m : List BatchRecord) : liveHeads (l ++ m) = liveHeads l ++ liveHeads m :=
  List.filterMap_append ..

theorem liveHeads_eq_nil {recs : List BatchRecord} (h : ∀ r ∈ recs, r.headLive = false) :
    liveHeads recs = [] := by
  simp only [liveHeads, List.filterMap_eq_nil_iff]
  intro r hr
  simp [BatchRecord.live, h r hr]

/-- Two head states that the window law does not tell apart. -/
def sameLife (h g : HeadInterface) : Prop :=
  (g.state = .cleared ↔ h.state = .cleared) ∧ (g.state = .inMix ↔ h.state = .inMix) ∧
    (g.state = .pastMid ↔ h.state = .pastMid) ∧ g.midError.isSome = h.midError.isSome

theorem live_of_sameLife {r : BatchRecord} {f : HeadInterface → HeadInterface}
    (h : ∀ x, sameLife x (f x)) : ({ r with head := r.head.map f } : BatchRecord).live = r.live := by
  cases hr : r.head with
  | none => simp [BatchRecord.live, BatchRecord.headLive, hr]
  | some x =>
    obtain ⟨cleared, inMix, pastMid, mid⟩ := h x
    simp [BatchRecord.live, BatchRecord.headLive, BatchRecord.mixing, BatchRecord.midKept, hr, cleared,
      inMix, pastMid, mid]

theorem lowerTo_live (d : Int) (r : BatchRecord) : (lowerTo d r).live = r.live :=
  live_of_sameLife (fun x => by split <;> simp [sameLife, clampHead])

theorem raiseTo_live (d : Int) (r : BatchRecord) : (raiseTo d r).live = r.live :=
  live_of_sameLife (fun x => by split <;> simp [sameLife, clampHead])

theorem anchoredClamp_live (b : BatchNo) (d : Int) (recs : List BatchRecord) :
    liveHeads (anchoredClamp b d recs) = liveHeads recs := by
  induction recs with
  | nil => rfl
  | cons r rest ih =>
    simp only [anchoredClamp]
    split
    · have := liveHeads_map (f := raiseTo d) (recs := rest) (fun x _ => raiseTo_live d x)
      simp only [liveHeads] at this ⊢
      simp [List.filterMap_cons, this]
    · simp only [liveHeads] at ih ⊢
      simp [List.filterMap_cons, lowerTo_live, ih]

theorem flowClamp_live (recs : List BatchRecord) : liveHeads (flowClamp recs) = liveHeads recs := by
  induction recs with
  | nil => rfl
  | cons r rest ih =>
    simp only [liveHeads] at ih
    simp only [flowClamp, liveHeads]
    split <;> simp [List.filterMap_cons, lowerTo_live, ih]

theorem armTrain_live (c : Config) (recs : List BatchRecord) :
    liveHeads (armTrain c recs) = liveHeads recs :=
  liveHeads_map (fun r _ => live_of_sameLife (fun x => by
    cases hx : x.state <;> simp [sameLife, armHead, armedState, hx] <;> split <;> simp))

/-- Statuses of R4 do not reach the live heads: the batch that becomes PRESENT has none, and the next older
record has none where it is PRESENT. -/
theorem makePresent_live {b : BatchNo} {recs : List BatchRecord}
    (near : ∀ k ∈ liveHeads recs, k.status = .approaching ∧ k.batch ≠ b) :
    liveHeads (makePresent b recs) = liveHeads recs := by
  have dead : ∀ r : BatchRecord, r.headLive = false → ∀ st,
      ({ r with status := st } : BatchRecord).live = r.live := by
    intro r h st
    simp_all [BatchRecord.live, BatchRecord.headLive]
  have notLive : ∀ r ∈ recs, r.batch = b ∨ r.status = .present → r.headLive = false := by
    intro r hr why
    by_contra live
    obtain ⟨status, other⟩ := near _ (mem_liveHeads.mpr ⟨r, hr, by simpa using live, rfl⟩)
    rcases why with rfl | why <;> simp_all
  clear near
  induction recs with
  | nil => rfl
  | cons r rest ih =>
    have step := ih (fun x hx => notLive x (List.mem_cons_of_mem _ hx))
    have first := notLive r (List.mem_cons_self ..)
    cases rest with
    | nil =>
      simp only [makePresent]
      split
      · rename_i hb
        simp only [liveHeads, List.filterMap_cons, dead r (first (.inl hb))]
      · rfl
    | cons n rest =>
      simp only [liveHeads] at step
      simp only [makePresent, liveHeads]
      split
      · rename_i hb
        simp [List.filterMap_cons, dead r (first (.inl hb))]
      · split
        · rename_i hp
          rw [List.filterMap_cons, step, dead r (first (.inr hp.2)), ← List.filterMap_cons]
        · rw [List.filterMap_cons, step, ← List.filterMap_cons]

/-- The records that R15 retires are DEPARTED, so none of them has a live head. -/
theorem splitRetired_live {keep : Nat} {recs : List BatchRecord}
    (near : ∀ k ∈ liveHeads recs, k.status = .approaching) :
    liveHeads (splitRetired keep recs).2 = liveHeads recs := by
  have gone : liveHeads (splitRetired keep recs).1 = [] := by
    refine liveHeads_eq_nil (fun r hr => ?_)
    by_contra live
    have mem : r ∈ recs := by
      rw [← splitRetired_append keep recs]
      exact List.mem_append_left _ hr
    have := near _ (mem_liveHeads.mpr ⟨r, mem, by simpa using live, rfl⟩)
    rw [departed_of_mem_splitRetired hr] at this
    cases this
  conv_rhs => rw [← splitRetired_append keep recs, liveHeads_append, gone, List.nil_append]

/-- A record without a live head changes none by its insertion. -/
theorem insertRecord_live {r : BatchRecord} (h : r.headLive = false) (recs : List BatchRecord) :
    liveHeads (insertRecord r recs) = liveHeads recs := by
  conv_rhs => rw [← olderThan_append_newerThan r.batch recs, liveHeads_append]
  rw [insertRecord, liveHeads_append]
  simp [liveHeads, BatchRecord.live, h]

end Sys2Proof.Machine
end

section
/-! SUPPORT. What the cut planner's operations and the route changes do to the train: a plan or an order leaves the
bare records, a route change reaches the outlet controller only or brings the waiting launch cut into effect once,
and both leave the order of the train, its live heads and the window. -/

open Sys2Proof

namespace Sys2Proof.Machine

/-! ## Cut records are kept while there is room (R173) -/

/-- The records of `a` are all in `b` while `b` has room, and `b` holds no fewer. -/
def recordsKept (a b : List CutRecord) : Prop := a.length ≤ b.length ∧ (b.length < 32 → ∀ x ∈ a, x ∈ b)

theorem recordsKept.refl (a : List CutRecord) : recordsKept a a := ⟨le_rfl, fun _ _ h => h⟩

theorem recordsKept.trans {a b c : List CutRecord} (h : recordsKept a b) (k : recordsKept b c) :
    recordsKept a c :=
  ⟨h.1.trans k.1, fun room x hx => k.2 room x (h.2 (k.1.trans_lt room) x hx)⟩

theorem Part.writeRecord_kept (b : RecordBody) (s : Part) :
    recordsKept s.port.records (s.writeRecord b).port.records := by
  by_cases full : 32 ≤ s.port.records.length
  · have length : (s.writeRecord b).port.records.length = s.port.records.length := by
      simp [Part.writeRecord, full]
      omega
    exact ⟨length.ge, fun room => absurd full (by omega)⟩
  · refine ⟨by simp [Part.writeRecord, full], fun _ x hx => ?_⟩
    simp [Part.writeRecord, full, hx]

/-! ## Plans and orders -/

/-- `t` agrees with `s` in all that cut plans and orders cannot reach: of the train the bare records, the whole
detector, the launches, the outlet controller, the line, the peers and the image. Cut records are added. -/
structure PlanFrame (s t : Part) : Prop where
  bare : t.train.records.map BatchRecord.bare = s.train.records.map BatchRecord.bare
  horizon : t.train.horizon = s.train.horizon
  det : t.det = s.det
  launches : t.planner.launches = s.planner.launches
  current : t.planner.current = s.planner.current
  incoming : t.planner.incoming = s.planner.incoming
  outlet : t.outlet = s.outlet
  bus : t.bus = s.bus
  peer : t.peer = s.peer
  image : t.image = s.image
  records : recordsKept s.port.records t.port.records

theorem PlanFrame.refl (s : Part) : PlanFrame s s :=
  ⟨rfl, rfl, rfl, rfl, rfl, rfl, rfl, rfl, rfl, rfl, .refl _⟩

theorem PlanFrame.trans {s t u : Part} (h : PlanFrame s t) (k : PlanFrame t u) : PlanFrame s u :=
  ⟨k.bare.trans h.bare, k.horizon.trans h.horizon, k.det.trans h.det, k.launches.trans h.launches,
    k.current.trans h.current, k.incoming.trans h.incoming, k.outlet.trans h.outlet, k.bus.trans h.bus,
    k.peer.trans h.peer, k.image.trans h.image, h.records.trans k.records⟩

theorem PlanFrame.foldl {α : Type} (f : Part → α → Part) (h : ∀ s a, PlanFrame s (f s a)) (l : List α)
    (s : Part) : PlanFrame s (l.foldl f s) := by
  induction l generalizing s with
  | nil => exact .refl s
  | cons a l ih => exact (h s a).trans (ih _)

theorem Part.raise_plan (a : Alarm) (s : Part) : PlanFrame s (s.raise a) :=
  ⟨rfl, rfl, rfl, rfl, rfl, rfl, rfl, rfl, rfl, rfl, .refl _⟩

theorem Part.raiseIf_plan (c : Bool) (a : Alarm) (s : Part) : PlanFrame s (s.raiseIf c a) := by
  cases c
  · exact .refl s
  · exact s.raise_plan a

theorem Part.writeRecord_plan (b : RecordBody) (s : Part) : PlanFrame s (s.writeRecord b) :=
  ⟨rfl, rfl, rfl, rfl, rfl, rfl, rfl, rfl, rfl, rfl, s.writeRecord_kept b⟩

theorem Part.modPlanner_plan (f : Planner → Planner) (s : Part)
    (launches : (f s.planner).launches = s.planner.launches)
    (current : (f s.planner).current = s.planner.current)
    (incoming : (f s.planner).incoming = s.planner.incoming) : PlanFrame s (s.modPlanner f) :=
  ⟨rfl, rfl, rfl, launches, current, incoming, rfl, rfl, rfl, rfl, .refl _⟩

theorem Part.modBatch_plan (b : BatchNo) {f : BatchRecord → BatchRecord} (s : Part)
    (h : ∀ r, (f r).bare = r.bare) : PlanFrame s (s.modBatch b f) :=
  ⟨updateBatch_bare h _, rfl, rfl, rfl, rfl, rfl, rfl, rfl, rfl, rfl, .refl _⟩

theorem Part.modHead_plan (b : BatchNo) {f : HeadInterface → HeadInterface} (s : Part)
    (h : ∀ x, (f x).bare = x.bare) : PlanFrame s (s.modHead b f) :=
  s.modBatch_plan b (fun r => by
    cases hr : r.head <;> simp [BatchRecord.bare, hr, h])

theorem Part.setPlanned_plan (r : Route) (s : Part) : PlanFrame s (s.setPlanned r) :=
  s.modPlanner_plan _ rfl rfl rfl

theorem Part.setPlan_plan (p : Option CutPlan) (s : Part) : PlanFrame s (s.setPlan p) := by
  unfold Part.setPlan
  split
  · exact s.modHead_plan _ (fun _ => rfl)
  · exact .refl s

theorem Part.takeRoute_plan (clean : Bool) (g : Segment) (s : Part) : PlanFrame s (s.takeRoute clean g) :=
  (s.setPlanned_plan _).trans (Part.raiseIf_plan _ _ _)

theorem Part.recompute_plan (s : Part) : PlanFrame s s.recompute := by
  unfold Part.recompute
  split
  · exact .refl s
  · split
    · exact .refl s
    · split
      · exact .refl s
      · simp only
        split
        · exact .refl s
        · split
          · exact (s.setPlan_plan _).trans (Part.takeRoute_plan _ _ _)
          · exact s.setPlan_plan _

theorem Part.enterPlan_plan (s : Part) : PlanFrame s s.enterPlan := by
  unfold Part.enterPlan
  split
  · split
    · exact (s.setPlan_plan _).trans (Part.takeRoute_plan _ _ _)
    · exact .refl s
  · exact .refl s

theorem Part.stripPlan_plan (n : Nat) (s : Part) : PlanFrame s (s.stripPlan n) := by
  unfold Part.stripPlan
  split
  · split
    · exact s.setPlan_plan _
    · exact .refl s
  · exact .refl s

/-- An order that ends reaches its DELIVERY record, its link, the orders and the plan (R99). -/
theorem Part.endOrder_plan (o : Order) (reason : EndReason) (s : Part) :
    PlanFrame s (s.endOrder o reason) := by
  have removed := ((s.writeRecord_plan (.delivery o.number o.batch o.outlet
    (if o.filling then s.vol.tally else 0) reason)).trans
    (Part.modBatch_plan o.batch (f := fun r => { r with orderLink := none }) _ (fun _ => rfl))).trans
    (Part.modPlanner_plan (fun p =>
      { p with orders := p.orders.filter (fun e => decide (e.number ≠ o.number)) }) _ rfl rfl rfl)
  unfold Part.endOrder
  simp only
  split
  · exact removed.trans (Part.recompute_plan _)
  · exact ((removed.trans (Part.takeRoute_plan _ _ _)).trans (Part.stripPlan_plan _ _)).trans
      (Part.recompute_plan _)
  · exact (removed.trans (Part.stripPlan_plan _ _)).trans (Part.recompute_plan _)

theorem Part.endFilling_plan (keep : Option Nat) (reason : EndReason) (s : Part) :
    PlanFrame s (s.endFilling keep reason) := by
  unfold Part.endFilling
  split
  · split
    · exact .refl s
    · exact s.endOrder_plan _ _
  · exact .refl s

theorem Part.turnFilling_plan (n : Nat) (s : Part) : PlanFrame s (s.turnFilling n) :=
  ⟨rfl, rfl, rfl, rfl, rfl, rfl, rfl, rfl, rfl, rfl, .refl _⟩

theorem Part.takeSegment_plan (clean : Bool) (g : Segment) (s : Part) :
    PlanFrame s (s.takeSegment clean g) := by
  have ended := s.endFilling_plan g.owner .done
  unfold Part.takeSegment
  simp only
  split
  · split
    · exact ended.trans (Part.takeRoute_plan _ _ _)
    · exact (ended.trans (Part.turnFilling_plan _ _)).trans (Part.takeRoute_plan _ _ _)
  · exact ended.trans (Part.takeRoute_plan _ _ _)

theorem Part.planStep_plan (last : Stage) (s : Part) : PlanFrame s (s.planStep last) := by
  unfold Part.planStep
  split
  · exact .refl s
  · exact (s.setPlan_plan _).trans (Part.takeSegment_plan _ _ _)

theorem Part.planWithdrawal_plan (s : Part) : PlanFrame s s.planWithdrawal := by
  unfold Part.planWithdrawal
  split
  · exact (s.setPlan_plan _).trans (Part.takeRoute_plan _ _ _)
  · exact .refl s

theorem Part.lateStart_plan (o : Order) (s : Part) : PlanFrame s (s.lateStart o) :=
  (((s.endFilling_plan _ _).trans (Part.turnFilling_plan _ _)).trans (Part.setPlanned_plan _ _)).trans
    (Part.recompute_plan _)

theorem Part.lateStartFor_plan (b : BatchNo) (s : Part) : PlanFrame s (s.lateStartFor b) := by
  unfold Part.lateStartFor
  split
  · split
    · exact .refl s
    · exact s.lateStart_plan _
  · exact .refl s

theorem Part.endRetired_plan (r : BatchRecord) (s : Part) : PlanFrame s (s.endRetired r) := by
  unfold Part.endRetired
  split
  · exact s.endOrder_plan _ _
  · exact .refl s

/-! ## Frames of the train -/

/-- `t` has its train in order where `s` has, a launch only where `s` has one, and the image store of `s`. -/
structure OrderFrame (s t : Part) : Prop where
  ordered : s.ordered → t.ordered
  launches : s.noLaunch → t.noLaunch
  image : t.image = s.image

/-- An order frame in which the live heads stay, where they are of batches APPROACHING (R4). -/
structure TrainFrame (s t : Part) : Prop extends OrderFrame s t where
  live : (∀ k ∈ liveHeads s.train.records, k.status = .approaching) →
    liveHeads t.train.records = liveHeads s.train.records

/-- A train frame in which the window stays too. -/
structure LiveFrame (s t : Part) : Prop extends TrainFrame s t where
  window : t.det.window = s.det.window

theorem OrderFrame.refl (s : Part) : OrderFrame s s := ⟨id, id, rfl⟩

theorem OrderFrame.trans {s t u : Part} (h : OrderFrame s t) (k : OrderFrame t u) : OrderFrame s u :=
  ⟨k.ordered ∘ h.ordered, k.launches ∘ h.launches, k.image.trans h.image⟩

theorem TrainFrame.refl (s : Part) : TrainFrame s s := ⟨.refl s, fun _ => rfl⟩

theorem TrainFrame.trans {s t u : Part} (h : TrainFrame s t) (k : TrainFrame t u) : TrainFrame s u :=
  ⟨h.toOrderFrame.trans k.toOrderFrame, fun near =>
    (k.live (by rw [h.live near]; exact near)).trans (h.live near)⟩

theorem LiveFrame.refl (s : Part) : LiveFrame s s := ⟨.refl s, rfl⟩

theorem LiveFrame.trans {s t u : Part} (h : LiveFrame s t) (k : LiveFrame t u) : LiveFrame s u :=
  ⟨h.toTrainFrame.trans k.toTrainFrame, k.window.trans h.window⟩

/-- An operation that keeps the batch numbers, the live heads, the launches, the image and the window. -/
theorem LiveFrame.of_eq {s t : Part} (batches : t.batches = s.batches)
    (live : liveHeads t.train.records = liveHeads s.train.records)
    (launches : t.planner.launches = s.planner.launches) (incoming : t.planner.incoming = s.planner.incoming)
    (image : t.image = s.image) (window : t.det.window = s.det.window) : LiveFrame s t :=
  ⟨⟨⟨fun h => by rwa [Part.ordered, batches], fun h => by rwa [Part.noLaunch, launches, incoming], image⟩,
    fun _ => live⟩, window⟩

theorem PlanFrame.batches {s t : Part} (h : PlanFrame s t) : t.batches = s.batches :=
  map_eq_of_bare BatchRecord.bare_batch h.bare

theorem PlanFrame.live {s t : Part} (h : PlanFrame s t) : LiveFrame s t :=
  .of_eq h.batches (liveHeads_eq_of_bare h.bare) h.launches h.incoming h.image (by rw [h.det])

theorem OutletFrame.live {s t : Part} (h : OutletFrame s t) : LiveFrame s t :=
  .of_eq (by rw [Part.batches, h.train]; rfl) (by rw [h.train]) (by rw [h.planner]) (by rw [h.planner])
    h.image (by rw [h.det])

theorem LineFrame.live {s t : Part} (h : LineFrame s t) : LiveFrame s t :=
  .of_eq (by rw [Part.batches, h.train]; rfl) (by rw [h.train]) (by rw [h.planner]) (by rw [h.planner])
    h.image (by rw [h.det])

/-! ### Retirement (R15, R16) -/

/-- The records that R15 retires leave, with nothing else of the train touched. -/
theorem Part.splitRetired_frame (s : Part) (horizon : Option BatchNo) :
    TrainFrame s { s with train :=
      { records := (splitRetired s.keepBehind s.train.records).2, horizon := horizon } } :=
  ⟨⟨inOrder_splitRetired, id, rfl⟩, splitRetired_live⟩

theorem Part.retire_live (s : Part) : LiveFrame s s.retire := by
  unfold Part.retire
  exact LiveFrame.trans ⟨s.splitRetired_frame _, rfl⟩
    (PlanFrame.foldl _ (fun t r => Part.endRetired_plan r t) _ _).live

theorem Part.retirePlain_live (s : Part) : LiveFrame s s.retirePlain :=
  ⟨s.splitRetired_frame _, rfl⟩

/-! ### A launch cut (R111, R12) -/

/-- The admission of R6 and R14 as room in the train for a number that it does not hold. -/
theorem Part.admission_eq_room {s : Part} {b : BatchNo} :
    s.admission b = .room ↔ b ∉ s.batches ∧ admitted s.train b = true ∧ s.train.records.length < 64 := by
  unfold Part.admission
  rw [Part.batches, ← knownBatch_iff]
  split
  · simp [*]
  · split
    · simp_all
    · split <;> simp_all

/-- The record of a launch cut, where the train store takes one (R12). -/
theorem Part.launchRecord_room {e : LaunchEntry} {s : Part} (leading : Product)
    (room : s.admission e.batch = .room) :
    s.launchRecord e leading = Part.retirePlain (s.mapTrain (fun recs =>
      makePresent e.batch (anchoredClamp e.batch 0
        (insertRecord (newRecord e.batch e.product (some e.nominated) (launchHead s.cfg leading)) recs)))) := by
  unfold Part.admission at room
  unfold Part.launchRecord
  split at room
  · cases room
  · split at room
    · cases room
    · split at room
      · cases room
      · simp_all

/-- Where it takes none, its TRAIN_FULL flag is all that can change (R13, R14). -/
theorem Part.launchRecord_noRoom {e : LaunchEntry} {s : Part} (leading : Product)
    (room : s.admission e.batch ≠ .room) :
    s.launchRecord e leading = s ∨ s.launchRecord e leading = s.raise .trainFull := by
  unfold Part.admission at room
  unfold Part.launchRecord
  split at room
  · simp_all
  · split at room
    · simp_all
    · split at room
      · simp_all
      · exact absurd rfl room

theorem Part.launchRecord_live (e : LaunchEntry) (leading : Product) (s : Part) :
    LiveFrame s (s.launchRecord e leading) := by
  by_cases room : s.admission e.batch = .room
  · rw [Part.launchRecord_room leading room]
    refine LiveFrame.trans (t := s.mapTrain _) ⟨⟨⟨fun inTrain => ?_, id, rfl⟩, fun near => ?_⟩, rfl⟩
      (Part.retirePlain_live _)
    · obtain ⟨-, allowed, space⟩ := Part.admission_eq_room.mp room
      unfold Part.ordered Part.batches
      simp only [Part.mapTrain_train, makePresent_batches, anchoredClamp_batches]
      exact inOrder_insertRecord inTrain space allowed
    · obtain ⟨unknown, -, -⟩ := Part.admission_eq_room.mp room
      have same : liveHeads (anchoredClamp e.batch 0 (insertRecord
          (newRecord e.batch e.product (some e.nominated) (launchHead s.cfg leading)) s.train.records)) =
          liveHeads s.train.records := by
        rw [anchoredClamp_live, insertRecord_live rfl]
      have others : ∀ k ∈ liveHeads s.train.records, k.status = .approaching ∧ k.batch ≠ e.batch := by
        intro k hk
        obtain ⟨r, hr, -, hkr⟩ := mem_liveHeads.mp hk
        refine ⟨near k hk, fun same => unknown ?_⟩
        rw [← same, hkr]
        exact List.mem_map_of_mem hr
      show liveHeads (makePresent _ _) = _
      rw [makePresent_live (by rwa [same]), same]
  · rcases Part.launchRecord_noRoom leading room with h | h <;> rw [h]
    · exact .refl s
    · exact (s.raise_line _).live

/-- What a launch cut hands on, before its record joins the train: the LAUNCH record and the LAUNCH notice. -/
def Part.launchNoticed (e : LaunchEntry) (s : Part) : Part :=
  (s.writeRecord (.launch e.batch e.product ((s.planner.current.map CurrentBatch.launched).getD 0)
    e.outlet)).enqueue (.launch e.batch e.product
      ((s.planner.current.map CurrentBatch.batch).getD (e.batch - 1))
      ((s.planner.current.map CurrentBatch.product).getD 0) e.nominated s.cfg.launchWidth s.vol.trunkCounter)

/-- The planner after a launch cut has taken effect (R111). -/
def Planner.took (e : LaunchEntry) (p : Planner) : Planner :=
  { p with
    current := some { batch := e.batch, product := e.product, nominated := some e.nominated,
                      source := some e.outlet, launched := 0 }
    incoming := none
    emptyShown := false }

theorem Part.launchEffect_eq (e : LaunchEntry) (s : Part) :
    s.launchEffect e = ((s.launchNoticed e).launchRecord e
      ((s.planner.current.map CurrentBatch.product).getD 0)).modPlanner (Planner.took e) := rfl

theorem Part.launchNoticed_line (e : LaunchEntry) (s : Part) :
    LineFrame (s.writeRecord (.launch e.batch e.product
      ((s.planner.current.map CurrentBatch.launched).getD 0) e.outlet)) (s.launchNoticed e) :=
  Part.enqueue_line _ _

theorem Part.launchNoticed_train (e : LaunchEntry) (s : Part) : (s.launchNoticed e).train = s.train :=
  (s.launchNoticed_line e).train

theorem Part.launchNoticed_planner (e : LaunchEntry) (s : Part) :
    (s.launchNoticed e).planner = s.planner := (s.launchNoticed_line e).planner

/-- The record of a launch cut leaves the planner. -/
theorem Part.launchRecord_planner (e : LaunchEntry) (leading : Product) (s : Part) :
    (s.launchRecord e leading).planner = s.planner := by
  by_cases room : s.admission e.batch = .room
  · rw [Part.launchRecord_room leading room]; rfl
  · rcases Part.launchRecord_noRoom leading room with h | h <;> rw [h]; rfl

theorem Part.launchEffect_planner (e : LaunchEntry) (s : Part) :
    (s.launchEffect e).planner = s.planner.took e := by
  rw [Part.launchEffect_eq]
  show Planner.took e (Part.launchRecord _ _ _).planner = _
  rw [Part.launchRecord_planner, Part.launchNoticed_planner]

theorem Part.launchEffect_live (e : LaunchEntry) (s : Part) : LiveFrame s (s.launchEffect e) := by
  have taken := (LiveFrame.trans (s.writeRecord_plan _).live (s.launchNoticed_line e).live).trans
    (Part.launchRecord_live e ((s.planner.current.map CurrentBatch.product).getD 0) _)
  rw [Part.launchEffect_eq]
  exact ⟨⟨⟨taken.ordered, fun h => ⟨(taken.launches h).1, rfl⟩, taken.image⟩, taken.live⟩, taken.window⟩

/-! ### Route changes (R117, R111) -/

/-- What a route change, or an operation that may start one, does: it reaches the outlet controller and alarm flags
only, or it also brings the launch cut that waits into effect, once. -/
def Routed (s t : Part) : Prop :=
  OutletFrame s t ∨ ∃ e m, s.planner.incoming = some e ∧ OutletFrame s m ∧ OutletFrame (m.launchEffect e) t

theorem Routed.refl (s : Part) : Routed s s := .inl (.refl s)

theorem Routed.trans {s t u : Part} (h : Routed s t) (k : Routed t u) : Routed s u := by
  rcases h with h | ⟨e, m, waits, h, took⟩
  · rcases k with k | ⟨e, m, waits, k, took⟩
    · exact .inl (h.trans k)
    · exact .inr ⟨e, m, by rw [← h.planner]; exact waits, h.trans k, took⟩
  · rcases k with k | ⟨e', m', waits', -, -⟩
    · exact .inr ⟨e, m, waits, h, took.trans k⟩
    · rw [took.planner, Part.launchEffect_planner] at waits'
      cases waits'

theorem OutletFrame.routed {s t : Part} (h : OutletFrame s t) : Routed s t := .inl h

theorem Routed.live {s t : Part} (h : Routed s t) : LiveFrame s t := by
  rcases h with h | ⟨e, m, -, h, took⟩
  · exact h.live
  · exact (h.live.trans (m.launchEffect_live e)).trans took.live

/-- The planner over a route change: as it was, or with the cut that waited taken (R111). -/
theorem Routed.planner {s t : Part} (h : Routed s t) :
    t.planner = s.planner ∨ ∃ e, s.planner.incoming = some e ∧ t.planner = s.planner.took e := by
  rcases h with h | ⟨e, m, waits, h, took⟩
  · exact .inl h.planner
  · exact .inr ⟨e, waits, by rw [took.planner, Part.launchEffect_planner, h.planner]⟩

/-- With no launch cut waiting a route change reaches the outlet controller only. -/
theorem Routed.outlet {s t : Part} (h : Routed s t) (none : s.planner.incoming = none) : OutletFrame s t := by
  rcases h with h | ⟨e, m, waits, -, -⟩
  · exact h
  · rw [none] at waits; cases waits

theorem Part.reportStart_routed (o : Outlet) (s : Part) : Routed s (s.reportStart o) := by
  unfold Part.reportStart
  split
  · rename_i e waits
    split
    · exact .inr ⟨e, s, waits, .refl s, .refl _⟩
    · exact .refl s
  · exact .refl s

/-- A change that starts (R117). -/
theorem Part.beginChange_routed (target : Route) (s : Part) : Routed s (s.beginChange target) := by
  have ready : OutletFrame s (s.modOutlet (fun k => { k with pending := none })) :=
    s.modOutlet_outlet_frame _ rfl
  cases target with
  | outlet b =>
    have opened := (ready.trans ((Part.command_outlet_frame b .opening _).trans
      (Part.inFlight_outlet_frame s.outlet.current (.outlet b) .opening _))).routed.trans
      (Part.reportStart_routed b _)
    simp only [Part.beginChange]
    split
    · exact opened.trans ((Part.command_outlet_frame b .idle _).trans
        (Part.openConfirmed_outlet_frame _ _ _)).routed
    · exact opened
  | closed =>
    simp only [Part.beginChange]
    split
    · exact (ready.trans (Part.closeFor_outlet_frame _ _ _ _)).routed
    · exact ready.routed
    · exact (ready.trans (Part.clearFor_outlet_frame _ _)).routed

theorem Part.applyPending_routed (s : Part) : Routed s s.applyPending := by
  unfold Part.applyPending
  split
  · exact .refl s
  · have cleared : OutletFrame s (s.modOutlet (fun k => { k with pending := none })) :=
      s.modOutlet_outlet_frame _ rfl
    split
    · exact cleared.routed
    · exact cleared.routed.trans (Part.beginChange_routed _ _)

/-- The route target recomputed and acted on (R116, R117, R119). -/
theorem Part.retarget_routed (s : Part) : Routed s s.retarget := by
  unfold Part.retarget
  split
  · exact (s.modOutlet_outlet_frame _ rfl).routed
  · rename_i t _
    have set : OutletFrame s (s.modOutlet (fun k => { k with target := some t })) :=
      s.modOutlet_outlet_frame _ rfl
    split
    · split
      · exact set.routed
      · split
        · split
          · have calm := set.trans (Part.modOutlet_outlet_frame (fun k => { k with pending := none }) _ rfl)
            cases t with
            | outlet o => exact calm.routed.trans (Part.reportStart_routed o _)
            | closed => exact calm.routed
          · simp only
            split
            · exact (set.trans (Part.modOutlet_outlet_frame _ _ rfl)).routed
            · exact set.routed
        · simp only
          split
          · exact set.routed.trans (Part.beginChange_routed _ _)
          · exact set.routed
    · exact (set.trans (Part.modOutlet_outlet_frame _ _ rfl)).routed

theorem Part.handRoute_routed (r : Route) (s : Part) : Routed s (s.handRoute r) :=
  (s.modOutlet_outlet_frame _ rfl).routed.trans (Part.retarget_routed _)

theorem Part.overrideMade_routed (c : ChannelNo) (r : Route) (s : Part) : Routed s (s.overrideMade c r) :=
  (s.modOutlet_outlet_frame _ rfl).routed.trans (Part.retarget_routed _)

theorem Part.overrideGone_routed (c : ChannelNo) (s : Part) : Routed s (s.overrideGone c) :=
  (s.modOutlet_outlet_frame _ rfl).routed.trans (Part.retarget_routed _)

theorem Part.holdEvent_routed (s : Part) : Routed s s.holdEvent := by
  unfold Part.holdEvent
  split
  · have ended : OutletFrame s (s.modOutlet (fun k => { k with conflictHold := false, reported := false })) :=
      s.modOutlet_outlet_frame _ rfl
    simp only
    split
    · exact ended.routed.trans (Part.beginChange_routed _ _)
    · exact ended.routed
  · exact .refl s

theorem Part.reportConflict_routed (s : Part) : Routed s s.reportConflict := by
  unfold Part.reportConflict
  split
  · have shown : OutletFrame s (s.modOutlet (fun k => { k with reported := true })) :=
      s.modOutlet_outlet_frame _ rfl
    simp only
    split
    · exact shown.routed.trans (Part.holdEvent_routed _)
    · exact shown.routed
  · exact .refl s

theorem Part.handPlanned_routed (s : Part) : Routed s s.handPlanned := by
  unfold Part.handPlanned
  split
  · exact .refl s
  · split
    · exact .refl s
    · exact s.handRoute_routed _

theorem Part.confirmOpen_routed (o : Outlet) (s : Part) : Routed s (s.confirmOpen o) := by
  unfold Part.confirmOpen
  split
  · rename_i c _
    have done := ((s.command_outlet_frame o .idle).trans
      (Part.openConfirmed_outlet_frame c.source c.target _)).routed
    simp only
    split
    · exact done.trans (Part.applyPending_routed _)
    · exact done
  · exact .refl s

theorem Part.confirmClosed_routed (o : Outlet) (s : Part) : Routed s (s.confirmClosed o) := by
  unfold Part.confirmClosed
  split
  · rename_i c _
    simp only
    split
    · exact (s.command_outlet_frame o .idle).routed
    · exact ((s.command_outlet_frame o .idle).trans (Part.completeAt_outlet_frame c.target _)).routed.trans
        (Part.applyPending_routed _)
  · exact .refl s

/-- A taken limit level at the outlet controller (R118, R121, R122). -/
theorem Part.limitEvent_routed (o : Outlet) (input : LimitInput) (active : Bool) (s : Part) :
    Routed s (s.limitEvent o input active) := by
  unfold Part.limitEvent
  split
  · cases input <;> cases active <;> simp only
    · split
      · exact (s.faultOutlet_outlet_frame _ _).routed
      · exact .refl s
    · split
      · exact s.confirmOpen_routed o
      · split
        · exact (s.faultOutlet_outlet_frame _ _).routed
        · exact .refl s
    · exact .refl s
    · split
      · exact (s.markStuck_outlet_frame _ _).routed.trans (Part.confirmClosed_routed _ _)
      · exact (s.markStuck_outlet_frame _ _).routed
  · exact .refl s

theorem Part.closeFailed_outlet_frame (o : Outlet) (s : Part) : OutletFrame s (s.closeFailed o) :=
  ((s.command_outlet_frame _ _).trans (Part.markStuck_outlet_frame _ _ _)).trans
    (Part.faultOutlet_outlet_frame _ _ _)

/-- The travel timer expired (R120, R121). -/
theorem Part.travelExpired_routed (s : Part) : Routed s s.travelExpired := by
  unfold Part.travelExpired
  split
  · exact .refl s
  · split
    · split
      · exact (((s.command_outlet_frame _ _).trans (Part.faultOutlet_outlet_frame _ _ _)).trans
          (Part.finish_outlet_frame _ _)).routed.trans (Part.applyPending_routed _)
      · exact (s.finish_outlet_frame _).routed.trans (Part.applyPending_routed _)
    · exact ((OutletFrame.foldl _ (fun t o => t.closeFailed_outlet_frame o) _ s).trans
        (Part.finish_outlet_frame _ _)).routed.trans (Part.applyPending_routed _)

theorem Part.followRoute_outlet_frame (s : Part) : OutletFrame s s.followRoute := by
  unfold Part.followRoute
  split
  · exact s.modOutlet_outlet_frame _ rfl
  · exact .refl s

end Sys2Proof.Machine
end

section
/-! SUPPORT. The train law and the window law over every operation that takes stages, moves or inserts a head
interface, or ends an order: the order of the train always stays, and the window law stays wherever the train is in
order. -/

open Sys2Proof

namespace Sys2Proof.Machine

/-! ## The law frame -/

/-- An order frame in which the window law stays, where the train is in order. -/
structure LawFrame (s t : Part) : Prop extends OrderFrame s t where
  law : s.ordered → s.windowLaw → t.windowLaw

theorem LawFrame.refl (s : Part) : LawFrame s s := ⟨.refl s, fun _ h => h⟩

theorem LawFrame.trans {s t u : Part} (h : LawFrame s t) (k : LawFrame t u) : LawFrame s u :=
  ⟨h.toOrderFrame.trans k.toOrderFrame, fun o w => k.law (h.ordered o) (h.law o w)⟩

theorem LawFrame.foldl {α : Type} (f : Part → α → Part) (h : ∀ s a, LawFrame s (f s a)) (l : List α)
    (s : Part) : LawFrame s (l.foldl f s) := by
  induction l generalizing s with
  | nil => exact .refl s
  | cons a l ih => exact (h s a).trans (ih _)

/-- No head interface that is not CLEARED is in its mix, and each is of a batch APPROACHING: the window law but for
the window, as it stands between a completion and the window entry that follows (R91, R74). -/
def Part.unmixed (s : Part) : Prop :=
  ∀ k ∈ liveHeads s.train.records, k.status = .approaching ∧ k.mixing = false ∧ k.midKept = true

theorem LiveFrame.windowLaw {s t : Part} (h : LiveFrame s t) (law : s.windowLaw) : t.windowLaw := by
  rw [Part.windowLaw_iff] at law ⊢
  rwa [h.window, h.live (fun k hk => (law.2 k hk).1)]

theorem TrainFrame.unmixed {s t : Part} (h : TrainFrame s t) (calm : s.unmixed) : t.unmixed := by
  unfold Part.unmixed
  rwa [h.live (fun k hk => (calm k hk).1)]

theorem LiveFrame.law {s t : Part} (h : LiveFrame s t) : LawFrame s t := ⟨h.toOrderFrame, fun _ => h.windowLaw⟩

/-- With no head in its mix, the window law says only which head is the window (R73). -/
theorem Part.unmixed.windowLaw {s : Part} (calm : s.unmixed)
    (window : s.det.window = oldestLive s.train.records) : s.windowLaw := by
  rw [Part.windowLaw_iff, lawOf, ← oldestLive_eq]
  refine ⟨window, fun k hk => ?_⟩
  obtain ⟨near, mixing, mid⟩ := calm k hk
  exact ⟨near, by simp [mixing], mid⟩

/-! ## The window interface changed -/

theorem Part.windowHead_eq_some {s : Part} {r : BatchRecord} {h : HeadInterface} :
    s.windowHead = some (r, h) ↔
      s.det.window = some r.batch ∧ findBatch r.batch s.train.records = some r ∧ r.head = some h := by
  unfold Part.windowHead
  constructor
  · intro eq
    split at eq
    · cases eq
    · rename_i b window
      split at eq
      · cases eq
      · rename_i x found
        obtain ⟨g, head, same⟩ := Option.map_eq_some_iff.mp eq
        cases same
        have batch := (findBatch_mem found).2
        exact ⟨batch ▸ window, batch ▸ found, head⟩
  · rintro ⟨window, found, head⟩
    simp [window, found, head]

theorem Part.modWindow_window {s : Part} {b : BatchNo} (f : HeadInterface → HeadInterface)
    (h : s.det.window = some b) : s.modWindow f = s.modHead b f := by
  simp [Part.modWindow, h]

theorem Part.modWindow_none {s : Part} (f : HeadInterface → HeadInterface) (h : s.det.window = none) :
    s.modWindow f = s := by
  simp [Part.modWindow, h]

theorem Part.modHead_records (s : Part) (b : BatchNo) (f : HeadInterface → HeadInterface) :
    (s.modHead b f).train.records = s.train.records.map
      (fun r => if r.batch = b then { r with head := r.head.map f } else r) := rfl

theorem Part.modHead_batches (s : Part) (b : BatchNo) (f : HeadInterface → HeadInterface) :
    (s.modHead b f).batches = s.batches :=
  updateBatch_batches (by intro; rfl) _

theorem Part.modHead_order (b : BatchNo) (f : HeadInterface → HeadInterface) (s : Part) :
    OrderFrame s (s.modHead b f) :=
  ⟨fun h => by rwa [Part.ordered, Part.modHead_batches], id, rfl⟩

theorem Part.modWindow_order (f : HeadInterface → HeadInterface) (s : Part) :
    OrderFrame s (s.modWindow f) := by
  cases h : s.det.window with
  | none => rw [Part.modWindow_none f h]; exact .refl s
  | some b => rw [Part.modWindow_window f h]; exact s.modHead_order b f

/-- A change of the window interface that its life does not show. -/
theorem Part.modWindow_live (f : HeadInterface → HeadInterface) (s : Part)
    (h : ∀ x, sameLife x (f x) := by intro; simp [sameLife]) : LiveFrame s (s.modWindow f) := by
  cases hw : s.det.window with
  | none => rw [Part.modWindow_none f hw]; exact .refl s
  | some b =>
    rw [Part.modWindow_window f hw]
    refine .of_eq (s.modHead_batches b f) (liveHeads_map (fun r _ => ?_)) rfl rfl rfl rfl
    split
    · exact live_of_sameLife h
    · rfl

/-- Under the window law, the records of the window's batch have live heads. -/
theorem Part.windowLaw.headLive {s : Part} (law : s.windowLaw) (inTrain : s.ordered) {r : BatchRecord}
    (mem : r ∈ s.train.records) (window : s.det.window = some r.batch) : r.headLive = true := by
  have oldest := law.1.symm.trans window
  unfold oldestLive at oldest
  obtain ⟨x, found, same⟩ := Option.map_eq_some_iff.mp oldest
  rw [← inTrain.record_unique (List.mem_of_find?_eq_some found) mem same]
  exact List.find?_some found

/-- A head interface that a law may meet at the window: not CLEARED, and with its midpoint error where it is
PAST_MID. -/
def HeadInterface.awake (h : HeadInterface) : Prop :=
  h.state ≠ .cleared ∧ (h.state = .pastMid → h.midError.isSome = true)

theorem oldestLive_map {f : BatchRecord → BatchRecord} {recs : List BatchRecord}
    (h : ∀ r ∈ recs, (f r).headLive = r.headLive ∧ (f r).batch = r.batch) :
    oldestLive (recs.map f) = oldestLive recs := by
  induction recs with
  | nil => rfl
  | cons r rest ih =>
    obtain ⟨live, batch⟩ := h r (List.mem_cons_self ..)
    have step := ih (fun x hx => h x (List.mem_cons_of_mem _ hx))
    unfold oldestLive at step ⊢
    cases hr : r.headLive <;> simp_all

theorem BatchRecord.awake_of_live {r : BatchRecord} {h : HeadInterface} (head : r.head = some h)
    (live : r.headLive = true) (mid : r.midKept = true) : h.awake := by
  simp only [BatchRecord.headLive, BatchRecord.midKept, head, decide_eq_true_eq, Bool.or_eq_true] at live mid
  exact ⟨live, fun past => mid.resolve_left (by simp [past])⟩

/-- A change of the window interface that leaves it awake keeps the window law (R81, R88). -/
theorem Part.modWindow_law {f : HeadInterface → HeadInterface} (h : ∀ x, x.awake → (f x).awake) (s : Part) :
    LawFrame s (s.modWindow f) := by
  refine ⟨s.modWindow_order f, fun inTrain law => ?_⟩
  cases hw : s.det.window with
  | none => rwa [Part.modWindow_none f hw]
  | some b =>
    rw [Part.modWindow_window f hw]
    have woken : ∀ r ∈ s.train.records, r.batch = b → ∃ x, r.head = some x ∧ (f x).awake := by
      rintro r mem rfl
      have live := law.headLive inTrain mem hw
      obtain ⟨-, -, -, mid⟩ := law
      cases head : r.head with
      | none => simp [BatchRecord.headLive, head] at live
      | some x => exact ⟨x, rfl, h x (BatchRecord.awake_of_live head live (mid r mem))⟩
    have liveStays : ∀ r ∈ s.train.records, r.batch = b → r.headLive = true ∧
        ({ r with head := r.head.map f } : BatchRecord).headLive = true ∧
        ({ r with head := r.head.map f } : BatchRecord).midKept = true := by
      intro r mem hb
      refine ⟨law.headLive inTrain mem (by rw [hw, hb]), ?_⟩
      obtain ⟨x, head, awake, mid⟩ := woken r mem hb
      simp only [BatchRecord.headLive, BatchRecord.midKept, head, Option.map_some, decide_eq_true_eq,
        Bool.or_eq_true]
      exact ⟨awake, or_iff_not_imp_left.mpr (fun past => mid (by simpa using past))⟩
    obtain ⟨oldest, near, mix, mid⟩ := law
    refine ⟨?_, ?_, ?_, ?_⟩
    · rw [Part.modHead_records, oldestLive_map (fun r mem => ?_)]
      · exact oldest
      · split
        · rename_i hb
          obtain ⟨was, is, -⟩ := liveStays r mem hb
          exact ⟨is.trans was.symm, rfl⟩
        · exact ⟨rfl, rfl⟩
    all_goals
      rw [Part.modHead_records, List.forall_mem_map]
      intro r mem
      split
    · rename_i hb
      exact fun _ => near r mem (liveStays r mem hb).1
    · exact near r mem
    · rename_i hb
      exact fun _ => by rw [← hb] at hw; exact hw
    · exact mix r mem
    · rename_i hb
      exact (liveStays r mem hb).2.2
    · exact mid r mem

/-! ## Stages (R83, R88) -/

/-- Changes of the detector but for its window. -/
theorem Part.modDet_live (f : Detector → Detector) (s : Part)
    (h : ∀ d, (f d).window = d.window := by intro; rfl) : LiveFrame s (s.modDet f) := .of_eq rfl rfl rfl rfl rfl (h _)

theorem Part.zeroCounts_live (s : Part) : LiveFrame s s.zeroCounts := s.modDet_live _

theorem HeadInterface.take_awake (m : Method) (stamp : StageRecord) (g : Stage) {h : HeadInterface}
    (awake : h.awake) : (h.take m stamp g).awake := by
  cases g with
  | leading => simp [HeadInterface.take, HeadInterface.awake]
  | midpoint => simp [HeadInterface.take, HeadInterface.awake]
  | trailing => exact awake

theorem Part.takeStage_law (m : Method) (g : Stage) (s : Part) : LawFrame s (s.takeStage m g) := by
  have marked := s.modWindow_law (fun _ => HeadInterface.take_awake m (s.stageRecord m) g)
  unfold Part.takeStage
  cases g with
  | leading => exact marked.trans (Part.modDet_live _ _).law
  | midpoint => exact marked.trans (Part.modDet_live _ _).law
  | trailing => exact marked

theorem Part.markOverdue_live (again : Bool) (h : HeadInterface) (s : Part) :
    LiveFrame s (s.markOverdue again h) :=
  (s.modWindow_live _).trans (Part.raiseIf_line _ _ _).live

theorem Part.setChannel_live (ch : Channel × Option RefSet) (s : Part) : LiveFrame s (s.setChannel ch) :=
  (s.modWindow_live _).trans (Part.modDet_live _ _)

/-! ## Window entry (R74) -/

/-- A window entry sets the window, and keeps the train. -/
theorem Part.enterWindow_frame (b : BatchNo) (s : Part) :
    TrainFrame s (s.enterWindow b) ∧ (s.enterWindow b).det.window = some b := by
  have entered : LiveFrame (s.modDet (fun d => { d with window := some b })) (s.enterWindow b) := by
    unfold Part.enterWindow
    exact (((Part.setChannel_live _ _).trans (Part.zeroCounts_live _)).trans (Part.modDet_live _ _)).trans
      ((Part.enterPlan_plan _).live.trans (Part.handPlanned_routed _).live)
  exact ⟨TrainFrame.trans (t := s.modDet (fun d => { d with window := some b })) ⟨⟨id, id, rfl⟩, fun _ => rfl⟩
    entered.toTrainFrame, entered.window⟩

theorem Part.nextWindow_frame (s : Part) :
    TrainFrame s s.nextWindow ∧ s.nextWindow.det.window = oldestLive s.train.records := by
  unfold Part.nextWindow
  split
  · rename_i b oldest
    rw [oldest]
    exact s.enterWindow_frame b
  · rename_i none
    rw [none]
    exact ⟨⟨⟨id, id, rfl⟩, fun _ => rfl⟩, rfl⟩

/-- The window moved to the oldest live head obeys the window law where no head is in its mix. -/
theorem Part.unmixed.nextWindow {s : Part} (calm : s.unmixed) : s.nextWindow.windowLaw := by
  obtain ⟨frame, window⟩ := s.nextWindow_frame
  refine (frame.unmixed calm).windowLaw (window.trans ?_)
  rw [oldestLive_eq, oldestLive_eq, frame.live (fun k hk => (calm k hk).1)]

/-! ## Completion (R91) -/

/-- From `s` to `t` the window interface, on the batch `b`, has been CLEARED: no head in its mix is left, and the
batch has no live head. -/
structure Passed (b : BatchNo) (s t : Part) : Prop extends OrderFrame s t where
  calm : s.ordered → s.windowLaw → t.unmixed ∧ ∀ k ∈ liveHeads t.train.records, k.batch ≠ b

theorem Passed.trans {b : BatchNo} {s t u : Part} (h : Passed b s t) (k : TrainFrame t u) : Passed b s u := by
  refine ⟨h.toOrderFrame.trans k.toOrderFrame, fun o w => ?_⟩
  obtain ⟨calm, others⟩ := h.calm o w
  exact ⟨k.unmixed calm, by rwa [k.live (fun x hx => (calm x hx).1)]⟩

theorem Part.modWindow_clear_passed {s : Part} {b : BatchNo} (window : s.det.window = some b)
    (degraded : Bool) : Passed b s (s.modWindow (HeadInterface.clear degraded)) := by
  refine ⟨s.modWindow_order _, fun inTrain law => ?_⟩
  have left : ∀ k ∈ liveHeads (s.modWindow (HeadInterface.clear degraded)).train.records,
      ∃ r ∈ s.train.records, r.batch ≠ b ∧ r.headLive = true ∧
        k = ⟨r.batch, r.status, r.mixing, r.midKept⟩ := by
    intro k hk
    rw [Part.modWindow_window _ window, Part.modHead_records] at hk
    obtain ⟨x, hx, live, rfl⟩ := mem_liveHeads.mp hk
    obtain ⟨r, mem, rfl⟩ := List.mem_map.mp hx
    by_cases hb : r.batch = b
    · rw [if_pos hb] at live
      cases head : r.head <;> simp [BatchRecord.headLive, head, HeadInterface.clear] at live
    · rw [if_neg hb] at live ⊢
      exact ⟨r, mem, hb, live, rfl⟩
  obtain ⟨-, near, mix, mid⟩ := law
  constructor
  · intro k hk
    obtain ⟨r, mem, hb, live, rfl⟩ := left k hk
    refine ⟨near r mem live, ?_, mid r mem⟩
    by_contra mixing
    have := mix r mem (by simpa using mixing)
    rw [window] at this
    exact hb (Option.some.inj this).symm
  · intro k hk
    obtain ⟨r, -, hb, -, rfl⟩ := left k hk
    exact hb

theorem Passed.makePresent {b : BatchNo} {s t : Part} (h : Passed b s t) :
    Passed b s (t.mapTrain (makePresent b)) := by
  refine ⟨h.toOrderFrame.trans ⟨fun o => ?_, id, rfl⟩, fun o w => ?_⟩
  · rwa [Part.ordered, Part.batches, Part.mapTrain_train, makePresent_batches]
  · obtain ⟨calm, others⟩ := h.calm o w
    have same : liveHeads (t.mapTrain (Machine.makePresent b)).train.records = liveHeads t.train.records :=
      makePresent_live (fun k hk => ⟨(calm k hk).1, others k hk⟩)
    exact ⟨by rwa [Part.unmixed, same], by rwa [same]⟩

theorem Part.reportPassage_live (s : Part) : LiveFrame s s.reportPassage := by
  unfold Part.reportPassage
  split
  · simp only
    split
    · exact (s.writeRecord_plan _).live
    · exact (s.writeRecord_plan _).live.trans (Part.enqueue_line _ _).live
  · exact .refl s

/-- The completion of the window interface keeps the laws: the window it leaves is CLEARED, and the next is
entered (R91, R74). -/
theorem Part.complete_law (s : Part) : LawFrame s s.complete := by
  unfold Part.complete
  split
  · exact .refl s
  · rename_i r h found
    obtain ⟨window, -, -⟩ := Part.windowHead_eq_some.mp found
    have cleared := Part.modWindow_clear_passed window (s.degraded h)
    have planned := cleared.trans (((Part.reportPassage_live _).trans
      (Part.planStep_plan .trailing _).live).trans (Part.setPlan_plan none _).live).toTrainFrame
    have settled := planned.makePresent.trans (((Part.lateStartFor_plan r.batch _).live.trans
      (Part.retire_live _)).trans (Part.modDet_live (fun d => { d with midStamp := none, mix := [] }) _)).toTrainFrame
    have handed := settled.trans ((Part.handPlanned_routed _).trans (Part.holdEvent_routed _)).live.toTrainFrame
    exact ⟨handed.toOrderFrame.trans (Part.nextWindow_frame _).1.toOrderFrame,
      fun o w => (handed.calm o w).1.nextWindow⟩

/-! ## Steps of stages and evaluations (R83 to R87) -/

theorem Part.takeStages_law (m : Method) (stages : List Stage) (s : Part) :
    LawFrame s (s.takeStages m stages) := by
  have marked := LawFrame.foldl (Part.takeStage m) (fun t g => t.takeStage_law m g) stages s
  have planned : ∀ (last : Stage) (t : Part), LawFrame t ((t.planStep last).handPlanned).holdEvent :=
    fun last t => ((t.planStep_plan last).live.trans
      ((Part.handPlanned_routed _).trans (Part.holdEvent_routed _)).live).law
  unfold Part.takeStages
  split
  · exact .refl s
  · simp only
    split
    · exact marked.trans (Part.complete_law _)
    · exact marked.trans (planned .leading _)
    · exact marked.trans (planned .midpoint _)

theorem Part.evaluateWith_law (fuel : Nat) (waited : Bool) (s : Part) :
    LawFrame s (s.evaluateWith fuel waited) := by
  induction fuel generalizing waited s with
  | zero => exact .refl s
  | succ n ih =>
    unfold Part.evaluateWith
    split
    · exact .refl s
    · split
      · split
        · split
          · exact (s.markOverdue_live _ _).law
          · exact .refl s
        · simp only
          split
          · exact (s.takeStages_law _ _).trans (ih _ _)
          · exact s.takeStages_law _ _
      · split
        · simp only
          split
          · exact (s.markOverdue_live _ _).law
          · exact ((s.markOverdue_live _ _).law.trans (Part.takeStages_law _ _ _)).trans (ih _ _)
        · exact .refl s

theorem Part.evaluate_law (s : Part) : LawFrame s s.evaluate := s.evaluateWith_law _ _

theorem Part.handOffReleased_law (before s : Part) : LawFrame s (Part.handOffReleased before s) :=
  s.evaluateWith_law _ _

theorem Part.readinessReport_law (s : Part) : LawFrame s s.readinessReport := by
  have chosen : ∀ ch, LawFrame s ((s.setChannel ch).zeroCounts).evaluate := fun ch =>
    ((s.setChannel_live ch).trans (Part.zeroCounts_live _)).law.trans (Part.evaluate_law _)
  unfold Part.readinessReport
  split
  · exact .refl s
  · split
    · simp only
      split
      · exact .refl s
      · exact chosen _
    · split
      · split
        · exact .refl s
        · exact chosen _
      · exact .refl s

theorem armedState_awake (c : Config) (h : HeadInterface) :
    armedState c h ≠ .cleared ∧ armedState c h ≠ .pastMid := by
  unfold armedState
  split <;> simp

theorem Part.withdraw_law (s : Part) : LawFrame s s.withdraw := by
  have back := s.modWindow_law (f := fun h =>
    { h with leadRec := none, early := false, state := armedState s.cfg h }) (fun h _ =>
    ⟨(armedState_awake s.cfg h).1, fun past => absurd past (armedState_awake s.cfg h).2⟩)
  unfold Part.withdraw
  exact back.trans (((Part.zeroCounts_live _).trans (Part.modDet_live _ _)).trans
    ((Part.planWithdrawal_plan _).live.trans
      ((Part.handPlanned_routed _).trans (Part.holdEvent_routed _)).live)).law

theorem Part.takeReadings_law (density marker : Option Int) (s : Part) :
    LawFrame s (s.takeReadings density marker) := by
  unfold Part.takeReadings
  split
  · rename_i h refs _ _
    have counted : ∀ v, LawFrame s (s.modDet (Detector.count s.cfg h.state refs v)) := fun v =>
      (s.modDet_live _).law
    simp only
    split
    · exact .refl s
    · split
      · exact (counted _).trans (Part.withdraw_law _)
      · split
        · exact ((counted _).trans (Part.takeStages_law _ _ _)).trans (Part.evaluate_law _)
        · exact (counted _).trans (Part.takeStages_law _ _ _)
  · exact .refl s

theorem Part.force_law (g : Stage) (s : Part) : LawFrame s (s.force g).1 := by
  have taken := (((s.takeStages_law .forced [g]).trans (Part.zeroCounts_live _).law).trans
    (Part.evaluate_law _)).trans (Part.holdEvent_routed _).live.law
  cases g <;> exact taken

/-! ## The cut planner's share (R105, R106, R110) -/

theorem Part.limitTest_law (s : Part) : LawFrame s s.limitTest := by
  unfold Part.limitTest
  split
  · split
    · exact ((s.endOrder_plan _ _).live.trans (Part.handPlanned_routed _).live).law
    · exact .refl s
  · exact .refl s

theorem Part.guardEnd_law (s : Part) : LawFrame s s.guardEnd := by
  unfold Part.guardEnd
  split
  · exact ((s.endOrder_plan _ _).live.trans (Part.handPlanned_routed _).live).law
  · exact .refl s

/-- A change of the cut planner that leaves no launch queued where none was. -/
theorem Part.modPlanner_live {f : Planner → Planner} {s : Part}
    (h : s.noLaunch → (s.modPlanner f).noLaunch) : LiveFrame s (s.modPlanner f) :=
  ⟨⟨⟨id, h, rfl⟩, fun _ => rfl⟩, rfl⟩

/-- A cut is decided of a queue that holds a launch (R110, R111). -/
theorem Part.decideCut_law {s : Part} {e : LaunchEntry} {rest : List LaunchEntry}
    (queued : s.planner.launches ≠ []) : LawFrame s (s.decideCut e rest) := by
  have decided : LiveFrame s (s.modPlanner (fun p =>
      { p with launches := rest, incoming := some e, planned := some (.outlet e.outlet) })) :=
    Part.modPlanner_live (fun none => absurd none.1 queued)
  have handed := decided.trans ((Part.handRoute_routed (.outlet e.outlet) _).trans
    (Part.holdEvent_routed _)).live
  unfold Part.decideCut
  simp only
  split
  · exact (handed.trans (Part.launchEffect_live _ _)).law
  · exact handed.law

theorem Part.showEmpty_plan (s : Part) : PlanFrame s s.showEmpty := by
  unfold Part.showEmpty
  split
  · exact (s.modPlanner_plan (fun p => { p with emptyShown := true }) rfl rfl rfl).trans
      (Part.raise_plan _ _)
  · exact .refl s

theorem Part.cutTest_law (s : Part) : LawFrame s s.cutTest := by
  unfold Part.cutTest
  split
  · split
    · exact s.showEmpty_plan.live.law
    · rename_i e rest queued
      split
      · exact .refl s
      · exact Part.decideCut_law (by simp [queued])
  · exact .refl s

theorem Part.plannerShare_law (trunk : Nat) (s : Part) : LawFrame s (s.plannerShare trunk) := by
  unfold Part.plannerShare
  split
  · exact LawFrame.trans (LiveFrame.law (Part.modPlanner_live id)) (Part.cutTest_law _)
  · exact s.limitTest_law

/-! ## Guards (R136, R137) -/

theorem Part.modChannel_live (c : ChannelNo) (f : GuardChannel → GuardChannel) (s : Part) :
    LiveFrame s (s.modChannel c f) := .of_eq rfl rfl rfl rfl rfl rfl

theorem Part.driveContact_live (c : ChannelNo) (s : Part) : LiveFrame s (s.driveContact c) := by
  unfold Part.driveContact
  split <;> exact .of_eq rfl rfl rfl rfl rfl rfl

theorem Part.applyAction_law (c : ChannelNo) (a : GuardAction) (s : Part) :
    LawFrame s (s.applyAction c a) := by
  unfold Part.applyAction
  split
  · exact (s.overrideMade_routed _ _).live.law
  · split
    · exact s.guardEnd_law
    · exact .refl s

theorem Part.withdrawAction_law (c : ChannelNo) (a : GuardAction) (s : Part) :
    LawFrame s (s.withdrawAction c a) := by
  unfold Part.withdrawAction
  split
  · exact (s.overrideGone_routed _).live.law
  · split
    · exact s.cutTest_law
    · exact .refl s

theorem Part.guardMake_law (c : ChannelNo) (s : Part) : LawFrame s (s.guardMake c) := by
  unfold Part.guardMake
  exact ((((s.modChannel_live c _).trans (Part.writeRecord_plan _ _).live).trans
    (Part.raise_line _ _).live).law.trans (Part.applyAction_law c _ _)).trans (Part.driveContact_live c _).law

theorem Part.guardBreak_law (event : GuardEvent) (c : ChannelNo) (s : Part) :
    LawFrame s (s.guardBreak event c) := by
  unfold Part.guardBreak
  exact (((s.modChannel_live c _).trans (Part.writeRecord_plan _ _).live).law.trans
    (Part.withdrawAction_law c _ _)).trans (Part.driveContact_live c _).law

theorem Part.evaluateChannel_law (e : Sample) (n : Counted) (taken s : Part) (c : ChannelNo) :
    LawFrame s (Part.evaluateChannel e n taken s c) := by
  unfold Part.evaluateChannel
  simp only
  split
  · split
    · rename_i v t _ _
      have seen := (s.modChannel_live c (GuardChannel.sample (s.guardConfig c) v t)).law
      split
      · exact seen.trans (Part.guardMake_law c _)
      · split
        · exact seen.trans (Part.guardBreak_law _ c _)
        · exact seen
    · exact .refl s
  · exact .refl s

theorem Part.evaluateGuards_law (e : Sample) (n : Counted) (s : Part) : LawFrame s (s.evaluateGuards e n) :=
  LawFrame.foldl _ (fun t c => Part.evaluateChannel_law e n s t c) _ s

/-! ## The sample event (R21, R51, R83) -/

/-- A change of the train, record by record, that keeps the batches and the live heads. -/
theorem Part.mapTrain_live {f : List BatchRecord → List BatchRecord} {s : Part}
    (batches : (f s.train.records).map BatchRecord.batch = s.train.records.map BatchRecord.batch)
    (live : liveHeads (f s.train.records) = liveHeads s.train.records) : LiveFrame s (s.mapTrain f) :=
  .of_eq batches live rfl rfl rfl rfl

theorem moveHead_sameLife (delta : Int) (h : HeadInterface) : sameLife h (moveHead delta h) := by
  simp [sameLife, moveHead]

theorem flowHead_sameLife (role : Role) (arrival trunk : Nat) (h : HeadInterface) :
    sameLife h (flowHead role arrival trunk h) := by
  unfold flowHead
  split
  · split
    · simp [sameLife]
    · exact moveHead_sameLife _ h
  · exact moveHead_sameLife _ h

/-- The train moved, clamped and armed keeps its batches and its live heads (R51, R63, R61). -/
theorem Part.moved_live {g : HeadInterface → HeadInterface} (h : ∀ x, sameLife x (g x)) (s : Part) :
    LiveFrame s (s.mapTrain (fun recs =>
      armTrain s.cfg (flowClamp (recs.map (fun r => { r with head := r.head.map g }))))) := by
  refine Part.mapTrain_live ?_ ?_
  · rw [armTrain_batches, flowClamp_batches]
    exact map_batch_map (by intro; rfl) _
  · rw [armTrain_live, flowClamp_live]
    exact liveHeads_map (fun r _ => live_of_sameLife h)

theorem Part.flowStep_live (arrival trunk : Nat) (s : Part) : LiveFrame s (s.flowStep arrival trunk) :=
  ((s.moved_live (flowHead_sameLife s.cfg.role arrival trunk)).trans (Part.retire_live _)).trans
    (Part.handPlanned_routed _).live

theorem Part.modBatch_live (b : BatchNo) (f : BatchRecord → BatchRecord) (s : Part)
    (batch : ∀ r, (f r).batch = r.batch := by intro; rfl) (live : ∀ r, (f r).live = r.live := by intro; rfl) :
    LiveFrame s (s.modBatch b f) := by
  refine .of_eq (updateBatch_batches batch _) (liveHeads_map (fun r _ => ?_)) rfl rfl rfl rfl
  split
  · exact live r
  · rfl

theorem Part.creditDelivered_live (n : Nat) (s : Part) : LiveFrame s (s.creditDelivered n) := by
  unfold Part.creditDelivered
  split
  · exact s.modBatch_live _ _
  · exact .refl s

theorem Part.creditMixList_live (n : Nat) (s : Part) : LiveFrame s (s.creditMixList n) := by
  unfold Part.creditMixList
  split
  · split
    · exact s.modDet_live _
    · exact .refl s
  · exact .refl s

theorem Part.countVolume_live (e : Sample) (s : Part) : LiveFrame s (s.countVolume e) := by
  have counted : LiveFrame s { s with vol := s.volumeAfter e } := .of_eq rfl rfl rfl rfl rfl rfl
  exact (counted.trans (Part.creditDelivered_live _ _)).trans (Part.creditMixList_live _ _)

theorem Part.detectorShare_law (e : Sample) (n : Counted) (readiness moved : Bool) (s : Part) :
    LawFrame s (s.detectorShare e n readiness moved) := by
  unfold Part.detectorShare
  simp only
  have reported : LawFrame s (if readiness then s.readinessReport else s) := by
    split
    · exact s.readinessReport_law
    · exact .refl s
  generalize (if readiness then s.readinessReport else s) = r at reported ⊢
  have handed : LawFrame s (if moved && decide (r.det.window = s.det.window) then r.evaluate else r) := by
    split
    · exact reported.trans r.evaluate_law
    · exact reported
  generalize (if moved && decide (r.det.window = s.det.window) then r.evaluate else r) = q at handed ⊢
  split
  · exact handed.trans (q.takeReadings_law _ _)
  · exact handed

theorem Part.modInst_live (f : Instruments → Instruments) (s : Part) : LiveFrame s (s.modInst f) :=
  .of_eq rfl rfl rfl rfl rfl rfl

theorem Part.reportLoss_line (before : Instruments) (s : Part) : LineFrame s (s.reportLoss before) := by
  unfold Part.reportLoss
  split
  · split
    · exact s.raiseIf_line _ _
    · exact .refl s
  · exact .refl s

theorem Part.countDown_live (arrival : Nat) (s : Part) : LiveFrame s (s.countDown arrival) :=
  .of_eq rfl rfl rfl rfl rfl rfl

/-- A sample event keeps the laws, block by block (R21, R41). -/
theorem Part.sampleEvent_law (set : SampleSet) (s : Part) : LawFrame s (s.sampleEvent set) := by
  unfold Part.sampleEvent
  exact ((((((((s.modInst_live _).trans (Part.reportLoss_line _ _).live).trans
    (Part.countVolume_live _ _)).trans (Part.flowStep_live _ _ _)).trans (Part.countDown_live _ _)).law.trans
    (Part.plannerShare_law _ _)).trans (Part.detectorShare_law _ _ _ _ _)).trans
    (Part.evaluateGuards_law _ _ _)).trans (Part.followRoute_outlet_frame _).live.law

theorem Part.missedSet_law (s : Part) : LawFrame s s.missedSet := by
  have counted := s.modInst_live Instruments.countMissed
  unfold Part.missedSet
  simp only
  split
  · have told := ((counted.trans (Part.modInst_live Instruments.dropReady _)).trans
      (Part.raise_line .sampleMissed _).live).trans
      (Part.reportLoss_line (s.modInst Instruments.countMissed).inst _).live
    split
    · exact told.law.trans (Part.readinessReport_law _)
    · exact told.law
  · exact (counted.trans (Part.raiseIf_line _ _ _).live).law

theorem Part.whenDue_law {f : Part → Part} (h : ∀ s, LawFrame s (f s)) (moment : Nat) (s : Part) :
    LawFrame s (s.whenDue moment f) := by
  unfold Part.whenDue
  split
  · exact h s
  · exact .refl s

theorem Part.requestDue_law (s : Part) : LawFrame s s.requestDue := by
  unfold Part.requestDue
  split
  · refine Part.whenDue_law (fun t => ?_) _ s
    split
    · exact t.missedSet_law.trans (Part.modInst_live _ _).law
    · exact (t.modInst_live _).law
  · exact .refl s

/-! ## Insertions (R6, R13) -/

/-- A head interface in its mix settles its record, so that an insertion that R6 allows comes after it. -/
theorem mem_olderThan_of_mixing {t : TrainStore} {b : BatchNo} (allowed : admitted t b = true)
    {x : BatchRecord} (mem : x ∈ t.records) (mixing : x.mixing = true) : x ∈ olderThan b t.records := by
  have whole := olderThan_append_newerThan b t.records
  rw [← whole, List.mem_append] at mem
  refine mem.resolve_right (fun after => ?_)
  have settled : x.settled = true := by
    unfold BatchRecord.mixing at mixing
    unfold BatchRecord.settled
    cases hx : x.head <;> simp_all
  obtain ⟨l, found⟩ : ∃ l, (newerThan b t.records).reverse.find? BatchRecord.settled = some l :=
    Option.isSome_iff_exists.mp (List.find?_isSome.mpr ⟨x, List.mem_reverse.mpr after, settled⟩)
  have limit : settledLimit t.records = some l.batch := by
    unfold settledLimit
    rw [← whole, List.reverse_append, List.find?_append, found]
    rfl
  have above := before_of_mem_newerThan allowed
    (List.mem_reverse.mp (List.mem_of_find?_eq_some found))
  simp only [admitted, Bool.and_eq_true, limit, absentOr] at allowed
  rw [serialBefore_asymm above] at allowed
  cases allowed.2

/-- Where a live head that waits has been inserted, either the window law holds still, the new head being newer than
the window, or no head is in its mix. -/
theorem insertRecord_lawful {s : Part} {r : BatchRecord} (law : s.windowLaw)
    (allowed : admitted s.train r.batch = true)
    (waits : r.live = some ⟨r.batch, .approaching, false, true⟩) :
    lawOf s.det.window (liveHeads (insertRecord r s.train.records)) ∨
      ∀ k ∈ liveHeads (insertRecord r s.train.records),
        k.status = .approaching ∧ k.mixing = false ∧ k.midKept = true := by
  have split : liveHeads (insertRecord r s.train.records) =
      liveHeads (olderThan r.batch s.train.records) ++
        ⟨r.batch, .approaching, false, true⟩ :: liveHeads (newerThan r.batch s.train.records) := by
    rw [insertRecord, liveHeads_append]
    simp [liveHeads, waits]
  have whole : liveHeads s.train.records = liveHeads (olderThan r.batch s.train.records) ++
      liveHeads (newerThan r.batch s.train.records) := by
    rw [← liveHeads_append, olderThan_append_newerThan]
  have mixed := fun x mem => mem_olderThan_of_mixing allowed (x := x) mem
  rw [Part.windowLaw_iff] at law
  obtain ⟨window, each⟩ := law
  have old : ∀ k ∈ liveHeads (insertRecord r s.train.records),
      k = ⟨r.batch, .approaching, false, true⟩ ∨ k ∈ liveHeads s.train.records := by
    intro k hk
    rw [split] at hk
    rw [whole]
    simp only [List.mem_append, List.mem_cons] at hk ⊢
    tauto
  cases first : liveHeads (olderThan r.batch s.train.records) with
  | nil =>
    right
    intro k hk
    rcases old k hk with rfl | mem
    · simp
    · obtain ⟨near, -, mid⟩ := each k mem
      refine ⟨near, ?_, mid⟩
      obtain ⟨x, hx, live, rfl⟩ := mem_liveHeads.mp mem
      by_contra mixing
      have := mem_liveHeads.mpr ⟨x, mixed x hx (by simpa using mixing), live, rfl⟩
      simp [first] at this
  | cons w more =>
    left
    refine ⟨?_, fun k hk => ?_⟩
    · rw [window, whole, split, first]
      rfl
    · rcases old k hk with rfl | mem
      · simp
      · exact each k mem

theorem Part.leaveWindow_live (s : Part) : LiveFrame s s.leaveWindow :=
  s.modWindow_live _

theorem Part.windowAfterInsertion_order (s : Part) : OrderFrame s s.windowAfterInsertion := by
  unfold Part.windowAfterInsertion
  split
  · exact .refl s
  · exact (s.leaveWindow_live.toOrderFrame.trans (Part.nextWindow_frame _).1.toOrderFrame).trans
      (Part.evaluate_law _).toOrderFrame

theorem Part.handOffIfMoved_law (before : Option Int) (s : Part) : LawFrame s (s.handOffIfMoved before) := by
  unfold Part.handOffIfMoved
  split
  · exact .refl s
  · exact s.evaluate_law

/-- What follows a change of the train by a notice ends in the window law, where that held with the window as it
stood, or but for the window (R70, R74). -/
theorem Part.offerNotice_law (before : Part) (own released : Bool) (s : Part) :
    OrderFrame s (Part.offerNotice before own released s) ∧
      (s.ordered → s.windowLaw ∨ s.unmixed → (Part.offerNotice before own released s).windowLaw) := by
  unfold Part.offerNotice
  split
  · rename_i same
    have here : s.windowLaw ∨ s.unmixed → s.windowLaw := fun h =>
      h.elim id (fun calm => calm.windowLaw same.symm)
    have handed : ∀ t, LawFrame s t →
        OrderFrame s t ∧ (s.ordered → s.windowLaw ∨ s.unmixed → t.windowLaw) := fun t frame =>
      ⟨frame.toOrderFrame, fun o h => frame.law o (here h)⟩
    refine handed _ ?_
    split
    · split
      · exact Part.handOffReleased_law _ _
      · exact s.handOffIfMoved_law _
    · split
      · exact Part.handOffReleased_law _ _
      · exact s.handOffIfMoved_law _
    · split
      · exact Part.handOffReleased_law _ _
      · exact .refl s
  · rename_i other
    refine ⟨s.windowAfterInsertion_order, fun o h => ?_⟩
    have calm : s.unmixed := h.resolve_left (fun law => other law.1.symm)
    unfold Part.windowAfterInsertion
    rw [if_neg other]
    have entered : s.leaveWindow.nextWindow.ordered :=
      (Part.nextWindow_frame _).1.ordered (s.leaveWindow_live.ordered o)
    exact (Part.evaluate_law _).law entered (s.leaveWindow_live.unmixed calm).nextWindow

theorem LiveFrame.lawOrCalm {s t : Part} (h : LiveFrame s t) (lawful : s.windowLaw ∨ s.unmixed) :
    t.windowLaw ∨ t.unmixed :=
  lawful.imp h.windowLaw h.unmixed

/-- An insertion that R6 and R14 allow keeps the laws (R13). -/
theorem Part.insertNew_law {r : BatchRecord} (d : Int) {s : Part} (room : s.admission r.batch = .room)
    (waits : r.live = some ⟨r.batch, .approaching, false, true⟩) : LawFrame s (s.insertNew r d) := by
  obtain ⟨-, allowed, space⟩ := Part.admission_eq_room.mp room
  let placed := s.mapTrain (fun recs => armTrain s.cfg (anchoredClamp r.batch d (insertRecord r recs)))
  have placing : OrderFrame s placed := by
    refine ⟨fun o => ?_, id, rfl⟩
    show inOrder ((armTrain _ (anchoredClamp _ _ _)).map _)
    rw [armTrain_batches, anchoredClamp_batches]
    exact inOrder_insertRecord o space allowed
  have lawful : s.windowLaw → placed.windowLaw ∨ placed.unmixed := by
    intro law
    have same : liveHeads placed.train.records = liveHeads (insertRecord r s.train.records) := by
      show liveHeads (armTrain _ (anchoredClamp _ _ _)) = _
      rw [armTrain_live, anchoredClamp_live]
    rw [Part.windowLaw_iff, Part.unmixed, same]
    exact insertRecord_lawful law allowed waits
  have retired : LiveFrame placed (placed.retire).handPlanned :=
    (Part.retire_live _).trans (Part.handPlanned_routed _).live
  obtain ⟨offered, lawfully⟩ := Part.offerNotice_law s false false (placed.retire).handPlanned
  have inTrain := placing.trans retired.toOrderFrame
  exact ⟨inTrain.trans offered, fun o law =>
    lawfully (inTrain.ordered o) (retired.lawOrCalm (lawful law))⟩

theorem Part.offerRecord_law {r : BatchRecord} (d : Int) (s : Part)
    (waits : r.live = some ⟨r.batch, .approaching, false, true⟩) : LawFrame s (s.offerRecord r d) := by
  unfold Part.offerRecord
  split
  · exact .refl s
  · exact .refl s
  · exact (s.raise_line _).live.law
  · rename_i room
    exact Part.insertNew_law d room waits

/-- A record that a notice brings waits: its head is DISTANT (R7, R9, R10). -/
theorem newRecord_waits (c : Config) (b : BatchNo) (p lead : Product) (n : Option Nat) (d : Int)
    (w source chainage : Nat) :
    (newRecord b p n (newHead c lead p d w source chainage)).live = some ⟨b, .approaching, false, true⟩ := rfl

/-! ## Notices (R150) -/

theorem Part.takeLaunch_law (source : Nat) (batch : BatchNo) (product leadProduct : Product)
    (nominated width trail : Nat) (s : Part) :
    LawFrame s (s.takeLaunch source batch product leadProduct nominated width trail) := by
  unfold Part.takeLaunch
  split
  · exact .refl s
  · split
    · exact (s.modBatch_live _ _).law
    · exact s.offerRecord_law _ (newRecord_waits ..)

theorem reanchorHead_sameLife (c : Config) (r : BatchRecord) (source chainage trail width : Nat)
    (h : HeadInterface) : sameLife h (reanchorHead c r source chainage trail width h) := by
  simp [sameLife, reanchorHead]

theorem Part.reanchor_law (source chainage : Nat) (batch : BatchNo) (trail width : Nat) (h : HeadInterface)
    (s : Part) : LawFrame s (s.reanchor source chainage batch trail width h) := by
  unfold Part.reanchor
  have moved : LiveFrame s (s.mapTrain (fun recs =>
      armTrain s.cfg (anchoredClamp batch (holdD ((s.cfg.chainage : Int) - chainage - trail))
        (updateBatch batch (fun r =>
          { r with head := r.head.map (reanchorHead s.cfg r source chainage trail width) }) recs)))) := by
    refine Part.mapTrain_live ?_ ?_
    · rw [armTrain_batches, anchoredClamp_batches, updateBatch_batches (by intro; rfl)]
    · rw [armTrain_live, anchoredClamp_live]
      refine liveHeads_map (fun r _ => ?_)
      split
      · exact live_of_sameLife (reanchorHead_sameLife s.cfg r source chainage trail width)
      · rfl
  have retired := moved.trans ((Part.retire_live _).trans (Part.handPlanned_routed _).live)
  obtain ⟨offered, lawfully⟩ := Part.offerNotice_law s (decide (s.det.window = some batch)) h.restartMark _
  exact ⟨retired.toOrderFrame.trans offered, fun o law =>
    lawfully (retired.ordered o) (.inl (retired.windowLaw law))⟩

theorem Part.takePassage_law (source chainage : Nat) (batch : BatchNo) (product leadProduct : Product)
    (trail width : Nat) (s : Part) :
    LawFrame s (s.takePassage source chainage batch product leadProduct trail width) := by
  unfold Part.takePassage
  split
  · exact (s.modStats_line _).live.law
  · split
    · split
      · split
        · exact .refl s
        · exact s.reanchor_law _ _ _ _ _ _
      · exact .refl s
    · exact s.offerRecord_law _ (newRecord_waits ..)

theorem Part.mergeEntry_law (source chainage : Nat) (e : ReportEntry) (s : Part) :
    LawFrame s (s.mergeEntry source chainage e) := by
  unfold Part.mergeEntry
  split
  · exact .refl s
  · exact s.offerRecord_law _ (newRecord_waits ..)

theorem mergeEntries_law (source chainage : Nat) (entries : List ReportEntry) (x : Part × MergeCounts) :
    LawFrame x.1 (mergeEntries source chainage entries x).1 := by
  induction entries generalizing x with
  | nil => exact .refl _
  | cons e rest ih =>
    obtain ⟨s, n⟩ := x
    unfold mergeEntries
    simp only
    refine LawFrame.trans ?_ (ih _)
    split
    · exact .refl s
    · exact s.mergeEntry_law _ _ _

theorem Part.modPeer_live (f : PeerMonitor → PeerMonitor) (s : Part) : LiveFrame s (s.modPeer f) :=
  .of_eq rfl rfl rfl rfl rfl rfl

theorem Part.mergeReport_law (source chainage : Nat) (s : Part) :
    LawFrame s (s.mergeReport source chainage) := by
  unfold Part.mergeReport
  exact LawFrame.trans (mergeEntries_law source chainage s.peer.buffer (s, _)) (Part.modPeer_live _ _).law

theorem Part.takeSegmentNotice_law (source chainage : Nat) (first last : Bool) (keyStation : Nat)
    (keyTag : BitVec 16) (declared : Nat) (entries : List ReportEntry) (s : Part) :
    LawFrame s (s.takeSegmentNotice source chainage first last keyStation keyTag declared entries) := by
  unfold Part.takeSegmentNotice
  split
  · exact (s.modPeer_live _).law
  · split
    · exact (s.modPeer_live _).law
    · split
      · exact (s.failSync_line _).live.law
      · simp only
        split
        · exact (s.failSync_line _).live.law
        · unfold Part.appendSegment
          simp only
          split
          · exact (s.modPeer_live _).law.trans (Part.mergeReport_law _ _ _)
          · exact (s.modPeer_live _).law

theorem Part.applyDelta_law (chainage delta : Nat) (s : Part) : LawFrame s (s.applyDelta chainage delta) := by
  unfold Part.applyDelta
  split
  · have moved := s.moved_live (g := fun h =>
      if upstreamOf s.cfg chainage h then moveHead (-(delta : Int)) h else h) (fun h => by
        split
        · exact moveHead_sameLife _ h
        · simp [sameLife])
    exact ((moved.trans (Part.retire_live _)).trans (Part.handPlanned_routed _).live).law.trans
      (Part.handOffIfMoved_law _ _)
  · exact .refl s

theorem Part.applyRestart_law (role : Role) (chainage : Nat) (s : Part) :
    LawFrame s (s.applyRestart role chainage) := by
  unfold Part.applyRestart
  split
  · have marked : LiveFrame s (s.mapTrain (markRestart s.cfg chainage)) :=
      Part.mapTrain_live (map_batch_map (by intro; rfl) _) (liveHeads_map (fun r _ =>
        live_of_sameLife (fun h => by split <;> simp [sameLife])))
    exact marked.law.trans (Part.handOffReleased_law _ _)
  · exact .refl s

theorem Part.takeStatus_law (source : Nat) (startCount : BitVec 16) (delivered : Counter) (rate : Nat)
    (atMeter : Option BatchNo) (flags : StatusFlags) (s : Part) :
    LawFrame s (s.takeStatus source startCount delivered rate atMeter flags) := by
  have stored : ∀ f, LawFrame s (s.modEntry source f) := fun f => (s.modPeer_live _).law
  unfold Part.takeStatus
  split
  · exact .refl s
  · simp only
    split
    · exact stored _
    · exact (stored _).trans (Part.applyDelta_law _ _ _)
    · split
      · exact ((stored _).trans (Part.raise_line _ _).live.law).trans (Part.applyRestart_law _ _ _)
      · exact (stored _).trans (Part.raise_line _ _).live.law

theorem Part.hearPeer_law (n : Received) (s : Part) : LawFrame s (s.hearPeer n) := by
  have listed := s.modPeer_live (fun p => { p with table := withPeer n.source n.chainage p.table })
  unfold Part.hearPeer
  simp only
  split
  · exact listed.law
  · rename_i e _
    have told := (listed.trans (Part.modPeer_live _ _)).trans
      (Part.raiseIf_line (decide (e.chainage ≠ n.chainage)) .chainageChanged
        (Part.modEntry n.source (PeerEntry.heard n) _)).live
    split
    · exact told.law.trans (Part.handOffReleased_law _ _)
    · exact told.law

theorem Part.arbitrate_live (s : Part) : LiveFrame s s.arbitrate := s.arbitrate_line.live

theorem Part.takeHold_live (source slots : Nat) (s : Part) : LiveFrame s (s.takeHold source slots) := by
  have held : ∀ b : Option PeerHold, LiveFrame s { s with bus := { s.bus with peerHold := b } } :=
    fun _ => .of_eq rfl rfl rfl rfl rfl rfl
  unfold Part.takeHold
  split
  · split
    · split
      · exact (held none).trans (Part.arbitrate_live _)
      · exact .refl s
    · exact .refl s
  · simp only
    split
    · exact held _
    · split
      · exact held _
      · exact .refl s

theorem Part.handleNotice_law (n : Received) (s : Part) : LawFrame s (s.handleNotice n) := by
  unfold Part.handleNotice
  split
  · exact s.takeLaunch_law ..
  · exact s.takePassage_law ..
  · exact (s.takeHold_live _ _).law
  · exact (s.answerRequest_line _ _).live.law
  · exact s.takeSegmentNotice_law ..
  · exact s.takeStatus_law ..

theorem Part.checkWatermarks_live (s : Part) : LiveFrame s s.checkWatermarks := by
  unfold Part.checkWatermarks
  simp only
  split
  · split
    · exact LiveFrame.trans (t := { s with bus := { s.bus with holdSent := false } })
        (.of_eq rfl rfl rfl rfl rfl rfl) (Part.enqueue_line _ _).live
    · exact .refl s
  · split
    · exact LiveFrame.trans (t := { s with bus := { s.bus with holdSent := true } })
        (.of_eq rfl rfl rfl rfl rfl rfl) (Part.enqueue_line _ _).live
    · exact .refl s

theorem Part.leaveInbound_live (s : Part) : LiveFrame s s.leaveInbound :=
  LiveFrame.trans (t := { s with bus := { s.bus with inbound := s.bus.inbound.tail } })
    (.of_eq rfl rfl rfl rfl rfl rfl) (Part.checkWatermarks_live _)

theorem Part.renewExpiry_live (station : Nat) (s : Part) : LiveFrame s (s.renewExpiry station) :=
  .of_eq rfl rfl rfl rfl rfl rfl

/-- A notice taken whole keeps the laws (R150). -/
theorem Part.takeNotice_law (n : Received) (s : Part) : LawFrame s (s.takeNotice n) := by
  unfold Part.takeNotice
  exact ((s.leaveInbound_live.law.trans (Part.hearPeer_law n _)).trans (Part.handleNotice_law n _)).trans
    (Part.renewExpiry_live _ _).law

theorem Part.takeOldest_law (kind : Nat) (s : Part) : LawFrame s (s.takeOldest kind) := by
  unfold Part.takeOldest
  split
  · exact .refl s
  · split
    · exact s.takeNotice_law _
    · exact .refl s

theorem Part.silenceExpired_law (station : Nat) (s : Part) : LawFrame s (s.silenceExpired station) := by
  unfold Part.silenceExpired
  split
  · exact .refl s
  · exact Part.whenDue_law (fun t => ((t.modPeer_live _).trans (Part.raise_line _ _).live).law.trans
      (Part.handOffReleased_law _ _)) _ s

end Sys2Proof.Machine
end

section
/-! SUPPORT. The train law and the window law over one step, command by command. -/

open Sys2Proof

namespace Sys2Proof.Machine

/-! ## What a command does to the laws -/

/-- `t` has the train, the detector, the planner and the image store of `s`. -/
structure SameTrain (s t : Part) : Prop where
  train : t.train = s.train
  det : t.det = s.det
  planner : t.planner = s.planner
  image : t.image = s.image

theorem SameTrain.laws {s t : Part} (h : SameTrain s t) (law : s.trainLaw) :
    t.trainLaw ∧ (s.windowLaw → t.windowLaw) := by
  unfold Part.trainLaw Part.windowLaw Part.running Part.cfg at *
  rw [h.train, h.planner, h.image, h.det]
  exact ⟨law, id⟩

/-- A law frame of a RUNNING part keeps both laws. -/
theorem LawFrame.laws {s t : Part} (h : LawFrame s t) (run : s.running = true) (law : s.trainLaw) :
    t.trainLaw ∧ (s.windowLaw → t.windowLaw) := by
  rw [Part.trainLaw_iff] at law ⊢
  obtain ⟨inTrain, -, launches⟩ := law
  have running : t.running = true := by rwa [Part.running, h.image]
  have cfg : t.cfg = s.cfg := by rw [Part.cfg, h.image]; rfl
  refine ⟨⟨h.ordered inTrain, fun stopped => ?_, fun h' => ?_⟩, h.law inTrain⟩
  · rw [running] at stopped; cases stopped
  · rw [running, cfg] at h'
    exact h.launches (launches (.inr (h'.resolve_left nofun)))

/-- An empty train with no launch and no window obeys both laws in every part state. -/
theorem laws_of_empty {s : Part} (empty : s.train.records = []) (none : s.noLaunch) :
    s.trainLaw ∧ (s.det.window = .none → s.windowLaw) := by
  refine ⟨?_, Part.windowLaw_of_empty empty⟩
  rw [Part.trainLaw_iff]
  exact ⟨by rw [Part.ordered, Part.batches, empty]; exact inOrder_nil, fun _ => empty, fun _ => none⟩

/-- Outside RUNNING the train is empty, no launch waits, and under the window law there is no window. -/
theorem Part.trainLaw.idle {s : Part} (law : s.trainLaw) (stopped : s.running = false) :
    s.train.records = [] ∧ s.noLaunch ∧ (s.windowLaw → s.det.window = none) := by
  rw [Part.trainLaw_iff] at law
  have empty := law.2.1 stopped
  refine ⟨empty, law.2.2 (.inl stopped), fun window => ?_⟩
  rw [window.1, empty]
  rfl

/-- Outside RUNNING a change that reaches neither the train, the window nor the planner keeps both laws, whatever it
does to the image store. -/
theorem laws_of_stopped {s t : Part} (law : s.trainLaw) (stopped : s.running = false)
    (train : t.train = s.train) (det : t.det = s.det) (planner : t.planner = s.planner) :
    t.trainLaw ∧ (s.windowLaw → t.windowLaw) := by
  obtain ⟨empty, none, window⟩ := law.idle stopped
  have laws := laws_of_empty (s := t) (by rw [train, empty]) (by rwa [Part.noLaunch, planner])
  exact ⟨laws.1, fun w => laws.2 (by rw [det, window w])⟩

/-! ## Requests (R167) -/

/-- A request answers alone, or is served in a part state and for a role that it names. -/
theorem Part.request_cases (code : Octet) (states : List PartState) (roles : List Role)
    (serve : Part → Part) (s : Part) :
    (∃ r, s.request code states roles serve = s.respond code r []) ∨
      (s.image.state ∈ states ∧ s.cfg.role ∈ roles ∧ s.request code states roles serve = serve s) := by
  unfold Part.request Part.portCheck
  split
  · exact .inl ⟨_, rfl⟩
  · rename_i served
    split at served
    · cases served
    · split at served
      · cases served
      · split at served
        · cases served
        · rename_i state role
          exact .inr ⟨by simpa using state, by simpa using role, rfl⟩

theorem Part.respond_same (s : Part) (code : Octet) (r : Result) (p : List Octet) :
    SameTrain s (s.respond code r p) := ⟨rfl, rfl, rfl, rfl⟩

/-- What a command makes of the part keeps both laws. -/
def KeepsLaws (s t : Part) : Prop := s.trainLaw → t.trainLaw ∧ (s.windowLaw → t.windowLaw)

theorem SameTrain.keeps {s t : Part} (h : SameTrain s t) : KeepsLaws s t := h.laws

/-- A request served in RUNNING keeps the laws where its service does. -/
theorem Part.request_keeps {code : Octet} {roles : List Role} {serve : Part → Part} {s : Part}
    (h : s.running = true → s.cfg.role ∈ roles → KeepsLaws s (serve s)) :
    KeepsLaws s (s.request code [.running] roles serve) := by
  rcases s.request_cases code [.running] roles serve with ⟨r, eq⟩ | ⟨state, role, eq⟩ <;> rw [eq]
  · exact (s.respond_same code r []).keeps
  · exact h (s.running_iff.mpr (by simpa using state)) role

/-- A request that is not served in RUNNING keeps the laws where its service does outside RUNNING. -/
theorem Part.request_keeps_idle {code : Octet} {states : List PartState} {serve : Part → Part}
    {s : Part} (idle : .running ∉ states) (h : s.running = false → KeepsLaws s (serve s)) :
    KeepsLaws s (s.request code states allRoles serve) := by
  rcases s.request_cases code states allRoles serve with ⟨r, eq⟩ | ⟨state, -, eq⟩ <;> rw [eq]
  · exact (s.respond_same code r []).keeps
  · refine h ?_
    by_contra run
    exact idle ((s.running_iff.mp (by simpa using run)) ▸ state)

theorem LawFrame.respond {s t : Part} (h : LawFrame s t) (code : Octet) (r : Result) (p : List Octet) :
    LawFrame s (t.respond code r p) := ⟨⟨h.ordered, h.launches, h.image⟩, h.law⟩

/-! ## The requests' services -/

theorem Part.acceptOrder_law (o : Order) (s : Part) : LawFrame s (s.acceptOrder o) := by
  have queued : PlanFrame s ((s.modPlanner (fun p =>
      { p with orders := insertOrder o s.planner.orders,
               nextOrder := nextNumber o.number (insertOrder o s.planner.orders) })).modBatch o.batch
      (fun r => { r with orderLink := some o.number })) :=
    (s.modPlanner_plan _ rfl rfl rfl).trans (Part.modBatch_plan o.batch _ (by intro; rfl))
  unfold Part.acceptOrder
  simp only
  split
  · exact ((queued.trans (Part.lateStart_plan o _)).live.trans
      ((Part.handPlanned_routed _).trans (Part.holdEvent_routed _)).live).law
  · exact ((queued.trans (Part.recompute_plan _)).live.trans (Part.handPlanned_routed _).live).law

theorem Part.serveQueueOrder_law (batch : BatchNo) (outlet : Octet) (limit : Nat) (head tail : Octet)
    (s : Part) : LawFrame s (s.serveQueueOrder batch outlet limit head tail) := by
  unfold Part.serveQueueOrder
  split
  · exact (LawFrame.refl s).respond _ _ _
  · split
    · exact (LawFrame.refl s).respond _ _ _
    · exact (s.acceptOrder_law _).respond _ _ _

theorem Part.serveCancelOrder_law (number : Nat) (s : Part) : LawFrame s (s.serveCancelOrder number) := by
  unfold Part.serveCancelOrder
  split
  · exact (LawFrame.refl s).respond _ _ _
  · exact ((s.endOrder_plan _ _).live.trans (Part.handPlanned_routed _).live).law.respond _ _ _

theorem Part.serveForceLaunch_law (s : Part) : LawFrame s s.serveForceLaunch := by
  unfold Part.serveForceLaunch
  split
  · exact (LawFrame.refl s).respond _ _ _
  · split
    · rename_i queued _
      exact (Part.decideCut_law (by simp [queued])).respond _ _ _
    · exact (LawFrame.refl s).respond _ _ _

theorem Part.serveForceStage_law (batch : BatchNo) (stage : Octet) (s : Part) :
    LawFrame s (s.serveForceStage batch stage) := by
  unfold Part.serveForceStage
  split
  · exact (LawFrame.refl s).respond _ _ _
  · split
    · exact (LawFrame.refl s).respond _ _ _
    · split
      · exact (LawFrame.refl s).respond _ _ _
      · split
        · exact (LawFrame.refl s).respond _ _ _
        · exact (s.force_law _).respond _ _ _

theorem Part.serveReleaseGuard_law (channel : Octet) (s : Part) :
    LawFrame s (s.serveReleaseGuard channel) := by
  unfold Part.serveReleaseGuard
  split
  · exact (LawFrame.refl s).respond _ _ _
  · split
    · exact (s.guardBreak_law _ _).respond _ _ _
    · exact (LawFrame.refl s).respond _ _ _

theorem Part.serveSyncFrom_law (station : Nat) (s : Part) : LawFrame s (s.serveSyncFrom station) := by
  unfold Part.serveSyncFrom
  split
  · exact (LawFrame.refl s).respond _ _ _
  · split
    · exact (LawFrame.refl s).respond _ _ _
    · exact ((s.modPeer_live _).trans (Part.enqueue_line _ _).live).law.respond _ _ _

/-- QUEUE LAUNCH adds a launch at an ORIGIN in RUNNING, which the train law allows there (R108, R95). -/
theorem Part.serveQueueLaunch_keeps (batch : BatchNo) (product : Octet) (volume : Nat) (outlet : Octet)
    {s : Part} (run : s.running = true) (origin : s.cfg.role = .origin) :
    KeepsLaws s (s.serveQueueLaunch batch product volume outlet) := by
  have answer : ∀ r, KeepsLaws s (s.respond 0x22 r []) := fun r => (s.respond_same _ r []).keeps
  unfold Part.serveQueueLaunch
  split
  · exact answer _
  · rename_i e _
    split
    · exact answer _
    · split
      · exact answer _
      · split
        · exact answer _
        · intro law
          have queued : (s.modPlanner (fun p => { p with launches := p.launches ++ [e] })).trainLaw := by
            rw [Part.trainLaw_iff] at law ⊢
            exact ⟨law.1, law.2.1, fun why => absurd why (by simp [run, origin])⟩
          exact ((Part.cutTest_law _).respond 0x22 .accepted []).laws run queued

theorem Part.serveReadStatus_keeps (mask : BitVec 24) (s : Part) :
    KeepsLaws s (s.serveReadStatus mask) := by
  have cleared : ∀ f : OutletController → OutletController, ∀ p : StationPort,
      SameTrain s { s with port := p, outlet := f s.outlet } := fun _ _ => ⟨rfl, rfl, rfl, rfl⟩
  unfold Part.serveReadStatus
  simp only
  have faults : SameTrain s (if mask.getLsbD (Alarm.bit .valveFault) then
      Part.clearFaults { s.respond 0x02 .accepted s.statusPayload with
        port := (s.respond 0x02 .accepted s.statusPayload).port.clear mask }
      else { s.respond 0x02 .accepted s.statusPayload with
        port := (s.respond 0x02 .accepted s.statusPayload).port.clear mask }) := by
    split <;> exact ⟨rfl, rfl, rfl, rfl⟩
  generalize (if mask.getLsbD (Alarm.bit .valveFault) then
      Part.clearFaults { s.respond 0x02 .accepted s.statusPayload with
        port := (s.respond 0x02 .accepted s.statusPayload).port.clear mask }
      else _) = t at faults ⊢
  split
  · rename_i shown
    have run : s.running = true := (Bool.and_eq_true_iff.mp shown).1
    intro law
    obtain ⟨trainLaw, windowLaw⟩ := faults.laws law
    have reported := (Part.reportConflict_routed t).live.law.laws (by rwa [Part.running, faults.image]) trainLaw
    exact ⟨reported.1, reported.2 ∘ windowLaw⟩
  · exact faults.keeps

/-! ## START (R172) -/

/-- The train that START gives a part: empty, or the present batch's record (R11). -/
def startTrain (present : Option (BatchNo × Product)) (recs : List BatchRecord) : List BatchRecord :=
  match present with
  | some (b, p) => recs ++ [presentRecord b p]
  | none => recs

theorem Part.learnRoute_same (m : Mode) (s : Part) : SameTrain s (s.learnRoute m) := by
  unfold Part.learnRoute Part.raiseIf
  simp only
  split <;> exact ⟨rfl, rfl, rfl, rfl⟩

/-- The part after the first half of START: the route learned, the train stored, the current batch and the planned
route set (R172). -/
def Part.startPlan (m : Mode) (present : Option (BatchNo × Product)) (s : Part) : Part :=
  let stored := (((s.modInst Instruments.atStart).openRequest s.now).learnRoute m).mapTrain (startTrain present)
  let current := stored.modPlanner (fun k =>
    { k with current := startCurrent s.cfg.role stored.outlet.current present })
  current.setPlanned (startRoute s.cfg.role current.outlet.current)

theorem Part.startPlan_train (m : Mode) (present : Option (BatchNo × Product)) (s : Part) :
    (s.startPlan m present).train.records = startTrain present s.train.records ∧
      (s.startPlan m present).det = s.det ∧ (s.startPlan m present).image = s.image ∧
      (s.startPlan m present).planner.launches = s.planner.launches ∧
      (s.startPlan m present).planner.incoming = s.planner.incoming := by
  have learned := Part.learnRoute_same m ((s.modInst Instruments.atStart).openRequest s.now)
  have launches := congrArg Planner.launches learned.planner
  have incoming := congrArg Planner.incoming learned.planner
  refine ⟨?_, learned.det, learned.image, launches, incoming⟩
  exact congrArg (fun t => startTrain present (TrainStore.records t)) learned.train

/-- What is left of START after the planned route does not reach the train, the detector, the launches and the image
store where no launch cut waits. -/
theorem Part.startBlocks_same (m : Mode) (present : Option (BatchNo × Product)) {s : Part}
    (none : s.planner.incoming = none) : SameTrain (s.startPlan m present) (s.startBlocks m present) := by
  have idle : (s.startPlan m present).planner.incoming = .none :=
    (s.startPlan_train m present).2.2.2.2.trans none
  have handed := Part.handPlanned_outlet_frame _ idle
  have line := fun n t => Part.enqueue_line n t
  exact ⟨(line _ _).train.trans handed.train, (line _ _).det.trans handed.det,
    (line _ _).planner.trans handed.planner, (line _ _).image.trans handed.image⟩

/-- The laws of a train that holds at most a present batch. -/
theorem laws_of_startTrain {t : Part} {present : Option (BatchNo × Product)}
    (records : t.train.records = startTrain present []) (none : t.noLaunch) (run : t.running = true) :
    t.trainLaw ∧ (t.det.window = .none → t.windowLaw) := by
  cases present with
  | none => exact laws_of_empty records none
  | some b =>
    have ordered : t.ordered := by
      rw [Part.ordered, Part.batches, records]
      exact ⟨by simp [startTrain], by simp [startTrain]⟩
    refine ⟨(Part.trainLaw_iff t).mpr ⟨ordered, ?_, fun _ => none⟩, fun window => ?_⟩
    · exact fun stopped => absurd run (by simp [stopped])
    · rw [Part.windowLaw_iff, records, window]
      exact ⟨rfl, nofun⟩

/-- START gives a part whose train was empty at most the present batch's record, and no window (R11, R172). -/
theorem Part.serveStart_keeps (mode presence : Octet) (batch : BatchNo) (product : Octet) {s : Part}
    (stopped : s.running = false) : KeepsLaws s (s.serveStart mode presence batch product) := by
  unfold Part.serveStart
  split
  · rename_i m present _ _
    intro law
    obtain ⟨empty, none, window⟩ := law.idle stopped
    have plan := Part.startPlan_train (modeTaken s.cfg m) present
      (s.modImage (fun i => { i with startCount := i.startCount + 1, state := .running }))
    have same : SameTrain _ (Part.startBlocks (modeTaken s.cfg m) present
      (s.modImage (fun i => { i with startCount := i.startCount + 1, state := .running }))) :=
      Part.startBlocks_same _ _ none.2
    obtain ⟨records, det, image, launches, incoming⟩ := plan
    have laws := laws_of_startTrain (records.trans (congrArg _ empty))
      ⟨launches.trans none.1, incoming.trans none.2⟩ (by rw [Part.running, image]; rfl)
    have started := same.laws laws.1
    exact ⟨started.1, fun w => started.2 (laws.2 (by rw [det]; exact window w))⟩
  · exact (s.respond_same _ _ _).keeps

/-! ## The other commands outside RUNNING -/

theorem Part.serveStoreImage_train (first last : Bool) (offset : Nat) (octets : List Octet) (s : Part) :
    (s.serveStoreImage first last offset octets).train = s.train ∧
      (s.serveStoreImage first last offset octets).det = s.det ∧
      (s.serveStoreImage first last offset octets).planner = s.planner := by
  unfold Part.serveStoreImage
  split
  · exact ⟨rfl, rfl, rfl⟩
  · exact ⟨rfl, rfl, rfl⟩
  · cases last <;> exact ⟨rfl, rfl, rfl⟩

/-- The end of PROGRAMMING finds the part outside RUNNING (R171). -/
theorem Part.programmingEnds_keeps (good : Bool) (s : Part) : KeepsLaws s (s.programmingEnds good) := by
  unfold Part.programmingEnds
  split
  · rename_i programming
    have line := Part.raiseIf_line (!good) .storeFailed (s.modImage (ImageStore.endProgramming good))
    exact fun law => laws_of_stopped law (by simp [Part.running, programming]) line.train line.det line.planner
  · exact fun law => ⟨law, id⟩

/-- Either reset empties the train, the planner and the detector (R18, R95, R94). -/
theorem Part.resetBy_keeps (cause : ResetCause) (s : Part) : KeepsLaws s (s.resetBy cause) := fun _ =>
  have laws := laws_of_empty (s := s.resetBy cause) rfl ⟨rfl, rfl⟩
  ⟨laws.1, fun _ => laws.2 rfl⟩

/-! ## Events of the line bus and the peer monitor's timers -/

theorem SameTrain.refl (s : Part) : SameTrain s s := ⟨rfl, rfl, rfl, rfl⟩

theorem SameTrain.trans {s t u : Part} (h : SameTrain s t) (k : SameTrain t u) : SameTrain s u :=
  ⟨k.train.trans h.train, k.det.trans h.det, k.planner.trans h.planner, k.image.trans h.image⟩

theorem LineFrame.same {s t : Part} (h : LineFrame s t) : SameTrain s t :=
  ⟨h.train, h.det, h.planner, h.image⟩

theorem Part.setBus_same (s : Part) (b : LineBus) : SameTrain s { s with bus := b } := ⟨rfl, rfl, rfl, rfl⟩

theorem Part.whenDue_same {f : Part → Part} (h : ∀ s, SameTrain s (f s)) (moment : Nat) (s : Part) :
    SameTrain s (s.whenDue moment f) := by
  unfold Part.whenDue
  split
  · exact h s
  · exact .refl s

theorem Part.checkWatermarks_same (s : Part) : SameTrain s s.checkWatermarks := by
  unfold Part.checkWatermarks
  simp only
  split <;> split
  · exact (s.setBus_same _).trans (Part.enqueue_line _ _).same
  · exact .refl s
  · exact (s.setBus_same _).trans (Part.enqueue_line _ _).same
  · exact .refl s

theorem Part.transmitStart_same (s : Part) : SameTrain s s.transmitStart := by
  unfold Part.transmitStart
  split
  · split
    · split
      · refine SameTrain.trans ?_ (Part.setBus_same _ _)
        split
        · exact (s.modStats_line _).same
        · exact .refl s
      · exact .refl s
    · exact .refl s
  · exact .refl s

theorem Part.requestLeft_same (s : Part) : SameTrain s s.requestLeft := by
  unfold Part.requestLeft
  split
  · exact ⟨rfl, rfl, rfl, rfl⟩
  · exact .refl s

theorem Part.frameCompletes_same (s : Part) : SameTrain s s.frameCompletes := by
  unfold Part.frameCompletes
  split
  · split
    · refine SameTrain.trans ?_ (((Part.setBus_same _ _).trans (Part.arbitrate_line _).same))
      have sent : SameTrain s ((s.modStats (fun st => { st with framesSent := hold16 (st.framesSent + 1) })).setBuffer
          none) := (s.modStats_line _).same.trans (Part.setBus_same _ _)
      split
      · exact sent.trans (Part.requestLeft_same _)
      · exact sent
    · exact .refl s
  · exact .refl s

theorem Part.giveUp_same (b : TxBuffer) (s : Part) : SameTrain s (s.giveUp b) := by
  unfold Part.giveUp
  split
  · exact s.setBus_same _
  · exact ((s.setBus_same _).trans (Part.reportDiscarded_line _ _).same).trans (Part.arbitrate_line _).same

theorem Part.collide_same (bits : Nat) (s : Part) : SameTrain s (s.collide bits) := by
  unfold Part.collide
  split
  · split
    · have counted := ((s.setBus_same _).trans
        (Part.modStats_line (fun st => { st with collisions := hold16 (st.collisions + 1) })
          (s.carrierUntil (s.now + jamBits))).same)
      simp only
      split
      · exact (counted.trans (Part.modStats_line _ _).same).trans (Part.giveUp_same _ _)
      · split
        · exact counted.trans (Part.setBus_same _ _)
        · exact (counted.trans (Part.modStats_line _ _).same).trans (Part.giveUp_same _ _)
    · exact .refl s
  · exact .refl s

theorem Part.backoffEnds_same (s : Part) : SameTrain s s.backoffEnds := by
  unfold Part.backoffEnds
  split
  · split
    · exact Part.whenDue_same (fun t => t.setBus_same _) _ s
    · exact .refl s
  · exact .refl s

theorem Part.hearFrame_same (frame : List Octet) (s : Part) : SameTrain s (s.hearFrame frame) := by
  have received := (Part.modStats_line (fun st => { st with framesReceived := hold16 (st.framesReceived + 1) }) s).same
  unfold Part.hearFrame
  split
  · exact (s.modStats_line _).same
  · exact received.trans (Part.raise_line _ _).same
  · exact received.trans (Part.modStats_line _ _).same
  · exact received.trans (Part.modStats_line _ _).same
  · split
    · exact (received.trans (Part.modStats_line _ _).same).trans (Part.raise_line _ _).same
    · exact (received.trans (Part.setBus_same _ _)).trans (Part.checkWatermarks_same _)

theorem Part.frameHeard_same (frame : List Octet) (s : Part) : SameTrain s (s.frameHeard frame) := by
  unfold Part.frameHeard
  split
  · exact (s.setBus_same _).trans (Part.hearFrame_same _ _)
  · exact .refl s

theorem Part.holdDue_same (s : Part) : SameTrain s s.holdDue := by
  unfold Part.holdDue
  split
  · exact Part.whenDue_same (fun t => (t.setBus_same _).trans (Part.arbitrate_line _).same) _ s
  · exact .refl s

theorem Part.statusDue_same (s : Part) : SameTrain s s.statusDue := by
  have sent : ∀ (f : PeerMonitor → PeerMonitor) (t : Part),
      SameTrain t ((t.modPeer f).enqueue t.statusNotice) := fun f t =>
    (⟨rfl, rfl, rfl, rfl⟩ : SameTrain t (t.modPeer f)).trans (Part.enqueue_line _ _).same
  unfold Part.statusDue
  split
  · exact .refl s
  · exact Part.whenDue_same (fun t => sent _ t) _ s

theorem Part.syncExpired_same (s : Part) : SameTrain s s.syncExpired := by
  unfold Part.syncExpired
  split
  · exact Part.whenDue_same (fun t => (t.failSync_line _).same) _ s
  · exact .refl s

/-! ## Every command keeps both laws -/

theorem Part.whileRunning_keeps {f : Part → Part} {s : Part}
    (h : s.running = true → KeepsLaws s (f s)) : KeepsLaws s (s.whileRunning f) := by
  unfold Part.whileRunning
  split
  · rename_i run
    exact h run
  · exact fun law => ⟨law, id⟩

theorem LawFrame.keeps {s t : Part} (h : LawFrame s t) (run : s.running = true) : KeepsLaws s t := h.laws run

theorem Part.travelDue_law (s : Part) : LawFrame s s.travelDue := by
  unfold Part.travelDue
  split
  · exact Part.whenDue_law (fun t => t.travelExpired_routed.live.law) _ s
  · exact .refl s

theorem Part.transferCompletes_law (set : SampleSet) (s : Part) : LawFrame s (s.transferCompletes set) := by
  unfold Part.transferCompletes
  split
  · exact s.sampleEvent_law set
  · exact .refl s

theorem Part.limitTaken_keeps (o : Outlet) (input : LimitInput) (active : Bool) (s : Part) :
    KeepsLaws s (s.limitTaken o input active) := by
  have stored : SameTrain s (s.modInst (Instruments.setLimit o input active)) := ⟨rfl, rfl, rfl, rfl⟩
  unfold Part.limitTaken
  split
  · exact fun law => ⟨law, id⟩
  · simp only
    split
    · rename_i followed
      exact (((s.modInst_live _).trans (Part.limitEvent_routed o input active _).live).law).keeps
        (Bool.and_eq_true_iff.mp followed).1
    · exact stored.keeps

/-- Each command keeps the laws of the part that it finds. -/
theorem exec_keeps (c : Instr) (s : State) :
    ∃ t, exec c s = .next t ∧ KeepsLaws s.part t.part := by
  have law : ∀ {s : Part} {f : Part → Part}, (∀ s, LawFrame s (f s)) → KeepsLaws s (s.whileRunning f) :=
    fun h => Part.whileRunning_keeps (fun run => (h _).keeps run)
  have same : ∀ {s : Part} {f : Part → Part}, (∀ s, SameTrain s (f s)) → KeepsLaws s (s.whileRunning f) :=
    fun h => Part.whileRunning_keeps (fun _ => (h _).keeps)
  cases c with
  | powerOnReset dt => exact ⟨_, rfl, Part.resetBy_keeps .powerOn (s.part.elapse dt)⟩
  | resetLineReset dt => exact ⟨_, rfl, Part.resetBy_keeps .resetLine (s.part.elapse dt)⟩
  | identify dt => exact ⟨_, rfl, SameTrain.keeps ⟨rfl, rfl, rfl, rfl⟩⟩
  | readStatus dt mask => exact ⟨_, rfl, Part.serveReadStatus_keeps mask (s.part.elapse dt)⟩
  | storeImage dt first last offset octets =>
    obtain ⟨train, det, planner⟩ :=
      Part.serveStoreImage_train first last offset.toNat octets (s.part.elapse dt)
    exact ⟨_, rfl, Part.request_keeps_idle (s := s.part.elapse dt) (by decide) fun stopped law =>
      laws_of_stopped law stopped train det planner⟩
  | programmingComplete dt good => exact ⟨_, rfl, Part.programmingEnds_keeps good (s.part.elapse dt)⟩
  | reloadImage dt =>
    exact ⟨_, rfl, Part.request_keeps_idle (s := s.part.elapse dt) (by decide) fun stopped law =>
      laws_of_stopped law stopped rfl rfl rfl⟩
  | start dt mode presence batch product =>
    exact ⟨_, rfl, Part.request_keeps_idle (s := s.part.elapse dt) (by decide)
      (Part.serveStart_keeps mode presence batch product)⟩
  | queueOrder dt batch outlet limit head tail =>
    exact ⟨_, rfl, Part.request_keeps (s := s.part.elapse dt) fun run _ =>
      (Part.serveQueueOrder_law batch outlet limit.toNat head tail _).keeps run⟩
  | cancelOrder dt number =>
    exact ⟨_, rfl, Part.request_keeps (s := s.part.elapse dt) fun run _ =>
      (Part.serveCancelOrder_law number.toNat _).keeps run⟩
  | queueLaunch dt batch product volume outlet =>
    exact ⟨_, rfl, Part.request_keeps (s := s.part.elapse dt) fun run origin =>
      Part.serveQueueLaunch_keeps batch product volume.toNat outlet run (by simpa using origin)⟩
  | forceLaunch dt =>
    exact ⟨_, rfl, Part.request_keeps (s := s.part.elapse dt) fun run _ =>
      (Part.serveForceLaunch_law _).keeps run⟩
  | forceStage dt batch stage =>
    exact ⟨_, rfl, Part.request_keeps (s := s.part.elapse dt) fun run _ =>
      (Part.serveForceStage_law batch stage _).keeps run⟩
  | releaseGuard dt channel =>
    exact ⟨_, rfl, Part.request_keeps (s := s.part.elapse dt) fun run _ =>
      (Part.serveReleaseGuard_law channel _).keeps run⟩
  | syncFrom dt station =>
    exact ⟨_, rfl, Part.request_keeps (s := s.part.elapse dt) fun run _ =>
      (Part.serveSyncFrom_law station.toNat _).keeps run⟩
  | readTrain dt index =>
    refine ⟨_, rfl, Part.request_keeps (s := s.part.elapse dt) fun _ _ => ?_⟩
    unfold Part.serveReadTrain
    split <;> exact (Part.respond_same _ _ _ _).keeps
  | readOrders dt =>
    exact ⟨_, rfl, Part.request_keeps (s := s.part.elapse dt) fun _ _ => (Part.respond_same _ _ _ _).keeps⟩
  | takeRecord dt =>
    exact ⟨_, rfl, Part.request_keeps (s := s.part.elapse dt) fun _ _ =>
      SameTrain.keeps ⟨rfl, rfl, rfl, rfl⟩⟩
  | unknownRequestCode dt code => exact ⟨_, rfl, SameTrain.keeps ⟨rfl, rfl, rfl, rfl⟩⟩
  | portFrameDiscarded dt => exact ⟨_, rfl, SameTrain.keeps ⟨rfl, rfl, rfl, rfl⟩⟩
  | sampleRequestDue dt => exact ⟨_, rfl, law (s := s.part.elapse dt) Part.requestDue_law⟩
  | sampleEvent dt set => exact ⟨_, rfl, law (s := s.part.elapse dt) (Part.transferCompletes_law set)⟩
  | meterPulse dt meter =>
    exact ⟨_, rfl, same (s := s.part.elapse dt) fun _ => ⟨rfl, rfl, rfl, rfl⟩⟩
  | limitLevelTaken dt outlet input active =>
    exact ⟨_, rfl, Part.limitTaken_keeps outlet input active (s.part.elapse dt)⟩
  | travelTimeout dt => exact ⟨_, rfl, law (s := s.part.elapse dt) Part.travelDue_law⟩
  | lineFrameReceived dt octets => exact ⟨_, rfl, same (s := s.part.elapse dt) (Part.frameHeard_same octets)⟩
  | launchNoticeTaken dt => exact ⟨_, rfl, law (s := s.part.elapse dt) (Part.takeOldest_law 1)⟩
  | passageNoticeTaken dt => exact ⟨_, rfl, law (s := s.part.elapse dt) (Part.takeOldest_law 2)⟩
  | holdNoticeTaken dt => exact ⟨_, rfl, law (s := s.part.elapse dt) (Part.takeOldest_law 3)⟩
  | trainRequestTaken dt => exact ⟨_, rfl, law (s := s.part.elapse dt) (Part.takeOldest_law 4)⟩
  | trainReportSegmentTaken dt => exact ⟨_, rfl, law (s := s.part.elapse dt) (Part.takeOldest_law 5)⟩
  | statusNoticeTaken dt => exact ⟨_, rfl, law (s := s.part.elapse dt) (Part.takeOldest_law 6)⟩
  | frameTransmitStart dt => exact ⟨_, rfl, same (s := s.part.elapse dt) Part.transmitStart_same⟩
  | frameSent dt => exact ⟨_, rfl, same (s := s.part.elapse dt) Part.frameCompletes_same⟩
  | collision dt bits => exact ⟨_, rfl, same (s := s.part.elapse dt) (Part.collide_same bits)⟩
  | backoffEnd dt => exact ⟨_, rfl, same (s := s.part.elapse dt) Part.backoffEnds_same⟩
  | peerHoldExpiry dt => exact ⟨_, rfl, same (s := s.part.elapse dt) Part.holdDue_same⟩
  | statusIntervalDue dt => exact ⟨_, rfl, same (s := s.part.elapse dt) Part.statusDue_same⟩
  | peerSilenceExpiry dt station =>
    exact ⟨_, rfl, law (s := s.part.elapse dt) (Part.silenceExpired_law station)⟩
  | syncTimeout dt => exact ⟨_, rfl, same (s := s.part.elapse dt) Part.syncExpired_same⟩

/-- A step keeps the laws: with a command waiting it is that command's, and the block idles otherwise. -/
theorem step_keeps {s t : State} (h : step s = .next t) : KeepsLaws s.part t.part := by
  unfold step at h
  split at h
  · cases h
    exact fun law => ⟨law, id⟩
  · rename_i c rest _
    obtain ⟨u, next, keeps⟩ := exec_keeps c { s with pending := rest }
    rw [next] at h
    cases h
    exact keeps

end Sys2Proof.Machine

open Sys2Proof.Machine

/-- Settles O52: every command keeps the train in order. -/
theorem trainLawKept : Obligations.TrainLawKept := fun _ _ law next => (step_keeps next law).1

/-- Settles O54: every command keeps the window at the oldest live head. -/
theorem windowLawKept : Obligations.WindowLawKept := fun _ _ law window next =>
  (step_keeps next law).2 window
end

section
/-! SUPPORT. FORCE LAUNCH (R112): what a launch cut that takes effect leaves, and what the outlet controller does with
the route that a decided cut hands to it. -/

open Sys2Proof

namespace Sys2Proof.Machine

/-! ## The record of a launch cut in the train (R12) -/

theorem findBatch_insertRecord {r : BatchRecord} {recs : List BatchRecord}
    (unknown : knownBatch r.batch recs = false) : findBatch r.batch (insertRecord r recs) = some r := by
  have absent : ∀ x ∈ recs, x.batch ≠ r.batch := by
    simpa [knownBatch, findBatch] using unknown
  have older : ∀ x ∈ olderThan r.batch recs, x.batch ≠ r.batch := fun x hx =>
    absent x (List.takeWhile_subset _ hx)
  unfold findBatch insertRecord
  rw [List.find?_append, List.find?_eq_none.mpr (by simpa using older)]
  simp

theorem findBatch_anchoredClamp (b : BatchNo) (d : Int) (recs : List BatchRecord) :
    findBatch b (anchoredClamp b d recs) = findBatch b recs := by
  unfold findBatch
  induction recs with
  | nil => rfl
  | cons r rest ih =>
    unfold anchoredClamp
    split
    · rename_i same
      simp [same]
    · rename_i other
      simp [other, ih]

theorem findBatch_makePresent (b : BatchNo) (recs : List BatchRecord) :
    findBatch b (makePresent b recs) = (findBatch b recs).map (fun r => { r with status := .present }) := by
  unfold findBatch
  induction recs using makePresent.induct b with
  | case1 => rfl
  | case2 r same => simp [makePresent, same]
  | case3 r other => simp [makePresent, other]
  | case4 r n rest same => simp [makePresent, same]
  | case5 r n rest other next ih => simp [makePresent, other, next, ih]
  | case6 r n rest other next ih => simp [makePresent, other, next, ih]

/-- A record that is not DEPARTED does not retire (R15). -/
theorem findBatch_splitRetired {b : BatchNo} {keep : Nat} {recs : List BatchRecord} {r : BatchRecord}
    (found : findBatch b recs = some r) (stays : r.status ≠ .departed) :
    findBatch b (splitRetired keep recs).2 = some r := by
  have whole := splitRetired_append keep recs
  have gone : findBatch b (splitRetired keep recs).1 = none := by
    unfold findBatch at found ⊢
    rw [← whole, List.find?_append] at found
    cases first : (splitRetired keep recs).1.find? (fun r => decide (r.batch = b)) with
    | none => rfl
    | some x =>
      rw [first] at found
      cases found
      exact absurd (departed_of_mem_splitRetired (List.mem_of_find?_eq_some first)) stays
  unfold findBatch at found gone ⊢
  rw [← whole, List.find?_append, gone] at found
  exact found

/-! ## A cut that takes effect (R111) -/

theorem Part.launchEffect_outlet (e : LaunchEntry) (s : Part) : (s.launchEffect e).outlet = s.outlet := by
  have noticed := (s.launchNoticed_line e).outlet
  rw [Part.launchEffect_eq]
  show (Part.launchRecord _ _ _).outlet = _
  by_cases room : (s.launchNoticed e).admission e.batch = .room
  · rw [Part.launchRecord_room _ room]; exact noticed
  · rcases Part.launchRecord_noRoom ((s.planner.current.map CurrentBatch.product).getD 0) room with h | h <;>
      rw [h] <;> exact noticed

/-- A launch cut's record leaves the port's records and the line (R12). -/
theorem Part.launchRecord_records (e : LaunchEntry) (leading : Product) (s : Part) :
    (s.launchRecord e leading).port.records = s.port.records ∧ (s.launchRecord e leading).bus = s.bus := by
  by_cases room : s.admission e.batch = .room
  · rw [Part.launchRecord_room leading room]; exact ⟨rfl, rfl⟩
  · rcases Part.launchRecord_noRoom leading room with h | h <;> rw [h] <;> exact ⟨rfl, rfl⟩

theorem Part.writeRecord_last (body : RecordBody) (s : Part) :
    (s.writeRecord body).port.records.getLast? =
      some { seq := s.port.seq, stamp := s.vol.arrivalCounter, body := body } := by
  simp [Part.writeRecord]

/-- A notice of class 1 or 2 joins an outbound queue with room, behind a buffer that is taken (R141). -/
theorem Part.enqueue_outbound {n : Notice} {s : Part} (cls : n.cls ≠ 3) (taken : s.bus.buffer.isSome = true)
    (room : s.bus.outbound.length < 32) :
    (s.enqueue n).bus.outbound = s.bus.outbound ++ [{ notice := n, joined := s.now }] := by
  obtain ⟨b, buffer⟩ := Option.isSome_iff_exists.mp taken
  simp [Part.enqueue, cls, room, Part.joinOutbound, Part.arbitrate, buffer, maxOutbound]

theorem Part.launchEffect_took (e : LaunchEntry) (s : Part) : s.launchTook e (s.launchEffect e) := by
  have planner := s.launchEffect_planner e
  have line := s.launchNoticed_line e
  set leading := (s.planner.current.map CurrentBatch.product).getD 0 with hl
  obtain ⟨records, bus⟩ := Part.launchRecord_records e leading (s.launchNoticed e)
  refine ⟨by rw [planner]; rfl, by rw [planner]; rfl, by rw [planner]; rfl, ?_, fun taken room => ?_,
    fun room => ?_⟩
  · exact (congrArg List.getLast? (records.trans line.records)).trans (s.writeRecord_last _)
  · exact (congrArg LineBus.outbound bus).trans (Part.enqueue_outbound (by simp [Notice.cls]) taken room)
  · have noticed : (s.launchNoticed e).admission e.batch = .room := by
      rw [← room]
      unfold Part.admission
      rw [s.launchNoticed_train e]
    have unknown : knownBatch e.batch s.train.records = false := by
      by_contra known
      exact (Part.admission_eq_room.mp room).1 (knownBatch_iff.mp (by simpa using known))
    have cfg : (s.launchNoticed e).cfg = s.cfg := by
      rw [Part.cfg, line.image]; rfl
    have train : (s.launchEffect e).train = ((s.launchNoticed e).launchRecord e leading).train := rfl
    rw [train, Part.launchRecord_room leading noticed]
    refine findBatch_splitRetired ?_ (by simp)
    show findBatch e.batch (makePresent e.batch (anchoredClamp e.batch 0
      (insertRecord (newRecord e.batch e.product (some e.nominated) (launchHead _ leading)) _))) = _
    rw [findBatch_makePresent, findBatch_anchoredClamp, s.launchNoticed_train e, cfg]
    have found := findBatch_insertRecord
      (r := newRecord e.batch e.product (some e.nominated) (launchHead s.cfg leading)) unknown
    exact congrArg _ found

/-- A cut that takes effect amid the outlet controller's work, in a part whose planner has decided it, is the cut of
the part before. -/
theorem Part.launchTook_of_frame {s m : Part} {e : LaunchEntry} {f : Planner → Planner}
    (current : (f s.planner).current = s.planner.current) (before : OutletFrame (s.modPlanner f) m) :
    s.launchTook e (m.launchEffect e) := by
  have took := m.launchEffect_took e
  have planner : m.planner.current = s.planner.current := (congrArg Planner.current before.planner).trans current
  have admission : m.admission e.batch = s.admission e.batch := by
    unfold Part.admission
    rw [before.train]
    rfl
  have cfg : m.cfg = s.cfg := by
    rw [Part.cfg, before.image]; rfl
  have bus : m.bus = s.bus := before.bus
  have vol : m.vol = s.vol := before.vol
  have now : m.now = s.now := before.now
  have seq : m.port.seq = s.port.seq := before.seq
  unfold Part.launchTook at took ⊢
  rwa [planner, admission, cfg, bus, vol, now, seq] at took

/-! ## What the outlet controller does with a route handed to it (R116, R117, R119) -/

section
variable {s : Part} {r : Route} (hold : s.outlet.conflictHold = false)
include hold

theorem Part.holdEvent_of_noHold : s.holdEvent = s := by
  simp [Part.holdEvent, hold]

theorem Part.handRoute_there (mode : s.outlet.mode = some .operate) (change : s.outlet.change = none)
    (override : s.outlet.override = []) (there : s.outlet.current = .known r) :
    s.handRoute r = s.modOutlet (fun k => { k with planned := some r, target := some r }) := by
  simp [Part.handRoute, Part.retarget, OutletController.wantedTarget, Part.modOutlet, mode, change, override,
    there, hold]

theorem Part.handRoute_begins (mode : s.outlet.mode = some .operate) (change : s.outlet.change = none)
    (override : s.outlet.override = []) (elsewhere : s.outlet.current ≠ .known r)
    (changed : s.outlet.target ≠ some r) :
    s.handRoute r =
      (s.modOutlet (fun k => { k with planned := some r, target := some r })).beginChange r := by
  simp [Part.handRoute, Part.retarget, OutletController.wantedTarget, Part.modOutlet, mode, change, override,
    elsewhere, changed, hold]

theorem Part.handRoute_pends {c : Change} (mode : s.outlet.mode = some .operate)
    (change : s.outlet.change = some c) (other : c.target ≠ r) (override : s.outlet.override = [])
    (changed : s.outlet.target ≠ some r) :
    s.handRoute r =
      s.modOutlet (fun k => { k with planned := some r, target := some r, pending := some r }) := by
  simp [Part.handRoute, Part.retarget, OutletController.wantedTarget, Part.modOutlet, mode, change, override,
    Ne.symm other, changed, hold]

theorem Part.handRoute_guarded {x : ChannelNo × Route} {more : List (ChannelNo × Route)}
    (mode : s.outlet.mode = some .operate) (change : s.outlet.change = none)
    (override : s.outlet.override = x :: more) (target : s.outlet.target = some x.2) :
    s.handRoute r = s.modOutlet (fun k => { k with planned := some r, target := some x.2 }) := by
  simp [Part.handRoute, Part.retarget, OutletController.wantedTarget, Part.modOutlet, mode, change, override,
    target, hold]

end

/-- In OBSERVE a route that is handed moves no outlet (R125). -/
theorem Part.handRoute_observe {s : Part} (r : Route) (mode : s.outlet.mode = some .observe) :
    ∃ t, s.handRoute r =
      s.modOutlet (fun k => { k with planned := some r, target := some t, wanted := some t }) := by
  cases override : s.outlet.override with
  | nil =>
    exact ⟨r, by simp [Part.handRoute, Part.retarget, OutletController.wantedTarget, Part.modOutlet, mode, override]⟩
  | cons x more =>
    exact ⟨x.2, by
      simp [Part.handRoute, Part.retarget, OutletController.wantedTarget, Part.modOutlet, mode, override]⟩

/-- The part after the first half of a change toward an outlet: the outlet is commanded open and the travel timer
runs (R117). -/
def Part.opening (o : Outlet) (s : Part) : Part :=
  ((s.modOutlet (fun k => { k with pending := none })).command o .opening).inFlight s.outlet.current
    (.outlet o) .opening

theorem Part.opening_frame (o : Outlet) (s : Part) : OutletFrame s (s.opening o) :=
  (s.modOutlet_outlet_frame _ rfl).trans ((Part.command_outlet_frame _ _ _).trans
    (Part.inFlight_outlet_frame _ _ _ _))

/-- A change that starts toward the source of a cut that waits brings it into effect, while the outlet's open level is
not active (R117, R111). -/
theorem Part.beginChange_takes {e : LaunchEntry} {s : Part} (waits : s.planner.incoming = some e)
    (shut : s.openLevel e.outlet = false) :
    s.beginChange (.outlet e.outlet) = (s.opening e.outlet).launchEffect e := by
  have took : (s.opening e.outlet).reportStart e.outlet = (s.opening e.outlet).launchEffect e := by
    have waits' : (s.opening e.outlet).planner.incoming = some e := waits
    simp [Part.reportStart, waits']
  have level : ((s.opening e.outlet).launchEffect e).openLevel e.outlet = false := by
    have route := (s.opening e.outlet).launchEffect_route e
    rw [← shut, Part.openLevel, Part.levelsRead, Part.cfg, route.image, route.inst]
    rfl
  unfold Part.opening at took level
  simp only [Part.beginChange, took, level]
  rfl

/-! ## The cut that FORCE LAUNCH decides (R110, R111) -/

/-- The part with a cut decided, before its route is handed (R110). -/
def Part.decided (e : LaunchEntry) (rest : List LaunchEntry) (s : Part) : Part :=
  s.modPlanner (fun p => { p with launches := rest, incoming := some e, planned := some (.outlet e.outlet) })

theorem Part.decideCut_eq (e : LaunchEntry) (rest : List LaunchEntry) (s : Part) :
    s.decideCut e rest =
      if s.cutAtOnce e.outlet &&
          (((s.decided e rest).handRoute (.outlet e.outlet)).holdEvent).planner.incoming.isSome then
        (((s.decided e rest).handRoute (.outlet e.outlet)).holdEvent).launchEffect e
      else ((s.decided e rest).handRoute (.outlet e.outlet)).holdEvent := rfl

/-- A decided cut waits in the planner, or has become the current batch (R110, R111). -/
theorem Part.decideCut_planner (e : LaunchEntry) (rest : List LaunchEntry) (s : Part) :
    (s.decideCut e rest).planner = (s.decided e rest).planner ∨
      (s.decideCut e rest).planner = (s.decided e rest).planner.took e := by
  have handed := ((s.decided e rest).handRoute_routed (.outlet e.outlet)).trans (Part.holdEvent_routed _)
  have cases : ((s.decided e rest).handRoute (.outlet e.outlet)).holdEvent.planner = (s.decided e rest).planner ∨
      ((s.decided e rest).handRoute (.outlet e.outlet)).holdEvent.planner =
        (s.decided e rest).planner.took e := by
    rcases handed.planner with same | ⟨e', waits, took⟩
    · exact .inl same
    · cases waits
      exact .inr took
  rw [Part.decideCut_eq]
  generalize ((s.decided e rest).handRoute (.outlet e.outlet)).holdEvent = h at cases
  split
  · rename_i atOnce
    rw [Part.launchEffect_planner]
    rcases cases with same | took
    · exact .inr (congrArg _ same)
    · simp [took, Planner.took] at atOnce
  · exact cases

/-- A decided cut that takes effect at once does so after its route is handed (R111). -/
theorem Part.decideCut_atOnce {e : LaunchEntry} {s : Part} (rest : List LaunchEntry)
    {f : OutletController → OutletController} (atOnce : s.cutAtOnce e.outlet = true)
    (handed : (s.decided e rest).handRoute (.outlet e.outlet) = (s.decided e rest).modOutlet f)
    (hold : (f s.outlet).conflictHold = false) :
    s.decideCut e rest = ((s.decided e rest).modOutlet f).launchEffect e := by
  have quiet : ((s.decided e rest).modOutlet f).holdEvent = (s.decided e rest).modOutlet f :=
    Part.holdEvent_of_noHold hold
  rw [Part.decideCut_eq, handed, quiet, atOnce]
  rfl

/-- In OBSERVE, or with the route there and no change in flight, a decided cut takes effect at once (R111). -/
theorem Part.decideCut_takes {e : LaunchEntry} {s : Part} (rest : List LaunchEntry)
    (hold : s.outlet.conflictHold = false)
    (why : s.outlet.mode = some .observe ∨
      (s.outlet.mode = some .operate ∧ s.outlet.current = .known (.outlet e.outlet) ∧
        s.outlet.change = none ∧ s.outlet.override = [])) :
    ∃ m, OutletFrame (s.decided e rest) m ∧ s.decideCut e rest = m.launchEffect e := by
  rcases why with mode | ⟨mode, there, change, override⟩
  · obtain ⟨r, handed⟩ := Part.handRoute_observe (s := s.decided e rest) (.outlet e.outlet) mode
    exact ⟨_, Part.modOutlet_outlet_frame _ _ rfl,
      Part.decideCut_atOnce rest (by simp [Part.cutAtOnce, mode]) handed hold⟩
  · have handed := Part.handRoute_there (s := s.decided e rest) hold mode change override there
    exact ⟨_, Part.modOutlet_outlet_frame _ _ rfl,
      Part.decideCut_atOnce rest (by simp [Part.cutAtOnce, there, change]) handed hold⟩

/-- A decided cut whose route only reaches the outlet controller's targets waits (R111). -/
theorem Part.decideCut_waits {e : LaunchEntry} {s : Part} (rest : List LaunchEntry)
    {f : OutletController → OutletController} (waits : s.cutAtOnce e.outlet = false)
    (handed : (s.decided e rest).handRoute (.outlet e.outlet) = (s.decided e rest).modOutlet f)
    (hold : (f s.outlet).conflictHold = false) :
    s.decideCut e rest = (s.decided e rest).modOutlet f := by
  have quiet : ((s.decided e rest).modOutlet f).holdEvent = (s.decided e rest).modOutlet f :=
    Part.holdEvent_of_noHold hold
  rw [Part.decideCut_eq, handed, quiet, waits]
  rfl

/-- A decided cut toward which a change starts at once takes effect with it (R111, R117). -/
theorem Part.decideCut_begins {e : LaunchEntry} {s : Part} (rest : List LaunchEntry)
    (waits : s.cutAtOnce e.outlet = false) (hold : s.outlet.conflictHold = false)
    (mode : s.outlet.mode = some .operate) (change : s.outlet.change = none)
    (override : s.outlet.override = []) (elsewhere : s.outlet.current ≠ .known (.outlet e.outlet))
    (changed : s.outlet.target ≠ some (.outlet e.outlet)) (shut : s.openLevel e.outlet = false) :
    s.decideCut e rest =
      (((s.decided e rest).modOutlet (fun k =>
        { k with planned := some (.outlet e.outlet), target := some (.outlet e.outlet) })).opening
          e.outlet).launchEffect e := by
  have handed := (Part.handRoute_begins (s := s.decided e rest) hold mode change override elsewhere
    changed).trans (Part.beginChange_takes (e := e) rfl shut)
  rw [Part.decideCut_eq, handed, waits,
    Part.holdEvent_of_noHold (by rw [Part.launchEffect_outlet]; exact hold)]
  rfl

/-- What a decided cut is in a part of which FORCE LAUNCH is served (R112). -/
theorem Part.serveForceLaunch_decides {e : LaunchEntry} {rest : List LaunchEntry} {s : Part}
    (free : s.holdLaunchMade = false) (queued : s.planner.launches = e :: rest)
    (none : s.planner.incoming = none) :
    s.serveForceLaunch = (s.decideCut e rest).respond 0x23 .accepted
      (be2 e.batch.toNat ++ flag (s.decideCut e rest).planner.incoming.isNone) := by
  simp [Part.serveForceLaunch, free, queued, none]

/-! ## A closed level that ends the change before a cut (R118, R119) -/

/-- The part after a close confirmation that completes a change toward a route, its pending target taken off to be
applied (R118, R119). -/
def Part.closeConfirmed (a : Outlet) (target : Route) (s : Part) : Part :=
  (((s.markStuck a false).command a .idle).completeAt target).modOutlet (fun k => { k with pending := none })

theorem Part.closeConfirmed_current (a : Outlet) (target : Route) (s : Part) :
    (s.closeConfirmed a target).outlet.current = .known target := by
  cases target <;> rfl

theorem Part.closeConfirmed_pending (a : Outlet) (target : Route) (s : Part) :
    (s.closeConfirmed a target).outlet.pending = none := by
  cases target <;> rfl

theorem Part.closeConfirmed_frame (a : Outlet) (target : Route) (s : Part) :
    OutletFrame s (s.closeConfirmed a target) :=
  (((Part.markStuck_outlet_frame _ _ _).trans (Part.command_outlet_frame _ _ _)).trans
    (Part.completeAt_outlet_frame _ _)).trans (Part.modOutlet_outlet_frame _ _ rfl)

/-- Which outlets close once one of them is IDLE. -/
theorem Part.command_idle_closing {a : Outlet} {s : Part}
    (alone : ∀ o : Outlet, o ≠ a → s.outlet.outlets[o].command ≠ .closing) (o : Outlet) :
    (s.command a .idle).outlet.outlets[o].command ≠ .closing := by
  by_cases same : o = a
  · subst same
    simp [Part.command, Part.modOutlet]
  · have other : (a : Nat) ≠ o := fun h => same (Fin.ext h.symm)
    simpa [Part.command, Part.modOutlet, Vector.getElem_set_ne _ _ other] using alone o same

section
variable {a : Outlet} {c : Change} {r : Route} {s : Part} (mode : s.outlet.mode = some .operate)
  (closing : s.outlet.outlets[a].command = .closing)
  (alone : ∀ o : Outlet, o ≠ a → s.outlet.outlets[o].command ≠ .closing)
  (change : s.outlet.change = some c) (phase : c.phase ≠ .opening) (pending : s.outlet.pending = some r)
  (other : c.target ≠ r)
include mode closing alone change phase pending other

/-- The closed level of the one outlet that closes ends the change, and starts that of the pending route (R118,
R119). -/
theorem Part.limitEvent_closed :
    s.limitEvent a .closed true = (s.closeConfirmed a c.target).beginChange r := by
  set unstuck := s.markStuck a false with unstuck_eq
  have change' : unstuck.outlet.change = some c := change
  have awaits : unstuck.outlet.awaitsClosed a = true := by
    have closing' : unstuck.outlet.outlets[a].command = .closing := by
      simpa [unstuck_eq, Part.markStuck, Part.modOutlet] using closing
    simp only [OutletController.awaitsClosed, change', closing']
    simp [phase]
  have alone' : ∀ o : Outlet, o ≠ a → unstuck.outlet.outlets[o].command ≠ .closing := by
    intro o ne
    have apart : (a : Nat) ≠ o := fun h => ne (Fin.ext h.symm)
    simpa [unstuck_eq, Part.markStuck, Part.modOutlet, Vector.getElem_set_ne _ _ apart] using alone o ne
  have done : allOutlets.any (fun o =>
      decide ((unstuck.command a .idle).outlet.outlets[o].command = .closing)) = false := by
    simpa using fun o _ => Part.command_idle_closing alone' o
  have kept : ((unstuck.command a .idle).completeAt c.target).outlet.pending = some r ∧
      ((unstuck.command a .idle).completeAt c.target).outlet.current = .known c.target := by
    cases c.target <;> exact ⟨pending, rfl⟩
  have ends : unstuck.confirmClosed a = (s.closeConfirmed a c.target).beginChange r := by
    simp only [Part.confirmClosed, change', done, Part.applyPending, kept.1, kept.2]
    rw [if_neg (by simp), if_neg (by simpa using Ne.symm other)]
    rfl
  rw [← ends]
  simp only [Part.limitEvent, mode, ← unstuck_eq, awaits]
  rfl

end

/-- The same, as the level is taken from the limit input (R30, R31). -/
theorem Part.limitTaken_followed {a : Outlet} {s : Part} (run : s.running = true)
    (read : s.levelsRead a = true) (shut : s.inst.limits[a].closed = false) :
    s.limitTaken a .closed true =
      (s.modInst (Instruments.setLimit a .closed true)).limitEvent a .closed true := by
  have unread : (s.inst.limits[a]).get .closed = false := shut
  have followed : ((s.modInst (Instruments.setLimit a .closed true)).running &&
      (s.modInst (Instruments.setLimit a .closed true)).levelsRead a) = true := Bool.and_eq_true_iff.mpr ⟨run, read⟩
  rw [Part.limitTaken, unread, if_neg (by decide)]
  exact if_pos followed

/-- A closed level that is taken leaves the open levels. -/
theorem Part.openLevel_setClosed (a o : Outlet) (s : Part) :
    (s.modInst (Instruments.setLimit a .closed true)).openLevel o = s.openLevel o := by
  by_cases same : o = a
  · subst same
    simp [Part.openLevel, Part.levelsRead, Part.cfg, Part.modInst, Instruments.setLimit, LimitLevels.put]
  · have apart : (a : Nat) ≠ o := fun h => same (Fin.ext h.symm)
    simp [Part.openLevel, Part.levelsRead, Part.cfg, Part.modInst, Instruments.setLimit,
      Vector.getElem_set_ne _ _ apart]

end Sys2Proof.Machine

open Sys2Proof.Machine

/-- Settles O17: by what the outlet controller does with the route of the decided cut: nothing more, and the cut waits
or takes effect at once; or a change toward it starts, and brings the cut into effect. -/
theorem forceLaunchDecidesCut : Obligations.ForceLaunchDecidesCut := by
  intro s dt run origin
  have served : ∀ {P : State → Prop}, P { s with part := (s.part.elapse dt).serveForceLaunch } →
      ∃ t, exec (.forceLaunch dt) s = .next t ∧ P t := fun h =>
    ⟨_, State.run_request dt run (by simp [origin]), h⟩
  refine ⟨fun made => served ?_, fun free none => served ?_, fun e rest free queued none => served ?_,
    fun e rest free queued none hold why => served ?_,
    fun e rest free queued none hold mode change override elsewhere changed shut => served ?_,
    fun e rest free queued none hold mode => ?_,
    fun e a c waits mode read shut closing alone change phase other pending level => ?_⟩
  · have busy : (s.part.elapse dt).serveForceLaunch = (s.part.elapse dt).respond 0x23 .busy [] := if_pos made
    simp [busy]
  · have sequence : (s.part.elapse dt).serveForceLaunch = (s.part.elapse dt).respond 0x23 .sequence [] := by
      have free' : (s.part.elapse dt).holdLaunchMade = false := free
      have none' : (s.part.elapse dt).planner.launches = [] ∨ (s.part.elapse dt).planner.incoming.isSome := none
      unfold Part.serveForceLaunch
      split
      · simp_all
      · split
        · simp_all
        · rfl
    simp [sequence]
  · rw [Part.serveForceLaunch_decides (e := e) (rest := rest) (s := s.part.elapse dt) free queued none]
    rcases (s.part.elapse dt).decideCut_planner e rest with waits | took
    · refine ⟨rfl, ?_, ?_, .inl ?_⟩ <;> exact waits ▸ rfl
    · refine ⟨rfl, ?_, ?_, .inr ⟨?_, ?_⟩⟩ <;> exact took ▸ rfl
  · rw [Part.serveForceLaunch_decides (e := e) (rest := rest) (s := s.part.elapse dt) free queued none]
    obtain ⟨m, frame, takes⟩ := Part.decideCut_takes (s := s.part.elapse dt) rest hold why
    rw [takes]
    have planner := m.launchEffect_planner e
    rw [frame.planner] at planner
    have took : (s.part.elapse dt).launchTook e (m.launchEffect e) := Part.launchTook_of_frame rfl frame
    refine ⟨?_, took, ?_, ?_⟩
    · simp [planner, Planner.took]
    · exact planner ▸ rfl
    · exact planner ▸ rfl
  · rw [Part.serveForceLaunch_decides (e := e) (rest := rest) (s := s.part.elapse dt) free queued none,
      Part.decideCut_begins (s := s.part.elapse dt) rest
        (by simp [Part.cutAtOnce, Part.elapse, mode, elsewhere]) hold mode change override elsewhere changed shut]
    set m := Part.opening e.outlet _ with hm
    have frame : OutletFrame ((s.part.elapse dt).decided e rest) m :=
      (Part.modOutlet_outlet_frame _ _ rfl).trans (Part.opening_frame _ _)
    have planner := m.launchEffect_planner e
    rw [frame.planner] at planner
    have took : (s.part.elapse dt).launchTook e (m.launchEffect e) := Part.launchTook_of_frame rfl frame
    have outlet := m.launchEffect_outlet e
    refine ⟨?_, took, ?_, ?_, ?_⟩
    · simp [planner, Planner.took]
    · exact planner ▸ rfl
    · show (m.launchEffect e).outlet.outlets[e.outlet].command = _
      rw [outlet]
      simp [hm, Part.opening, Part.inFlight, Part.command, Part.modOutlet]
    · show (m.launchEffect e).outlet.change = _
      rw [outlet]
      rfl
  · intro inFlight guarded which
    refine served ?_
    rw [Part.serveForceLaunch_decides (e := e) (rest := rest) (s := s.part.elapse dt) free queued none]
    have others : ∀ (f : OutletController → OutletController) (p : List Octet) (b : Block), b ≠ .launches →
        b ≠ .routes → b.same s.part
          (((((s.part.elapse dt).decided e rest).modOutlet f)).respond 0x23 .accepted p) := by
      intro f p b launches routes
      cases b <;> simp_all [Block.same, Part.decided, Part.modPlanner, Part.modOutlet, Part.respond, Part.elapse]
    rcases which with ⟨override, changed, c, change, other⟩ | ⟨change, elsewhere, x, more, override, differs, target⟩
    · have handed := Part.handRoute_pends (s := (s.part.elapse dt).decided e rest) (r := .outlet e.outlet)
        hold mode change other override changed
      rw [Part.decideCut_waits rest (by simp [Part.cutAtOnce, Part.elapse, mode, change]) handed hold]
      exact ⟨rfl, rfl, rfl, rfl, fun _ => rfl, others _ _⟩
    · have handed := Part.handRoute_guarded (s := (s.part.elapse dt).decided e rest) (r := .outlet e.outlet)
        hold mode change override target
      rw [Part.decideCut_waits rest (by simp [Part.cutAtOnce, Part.elapse, mode, elsewhere]) handed hold]
      refine ⟨rfl, rfl, rfl, rfl, fun flight => ?_, others _ _⟩
      obtain ⟨_, _, _, busy, _⟩ := flight
      rw [change] at busy
      cases busy
  · have event := Part.limitTaken_followed (s := s.part.elapse dt) run read shut
    set taken := (s.part.elapse dt).modInst (Instruments.setLimit a .closed true) with htaken
    have closed := Part.limitEvent_closed (s := taken) mode closing alone change phase pending other
    have frame := Part.closeConfirmed_frame a c.target taken
    have waits' : (taken.closeConfirmed a c.target).planner.incoming = some e := by
      rw [frame.planner]; exact waits
    have shut' : (taken.closeConfirmed a c.target).openLevel e.outlet = false := by
      rw [Part.openLevel, Part.levelsRead, Part.cfg, frame.image, frame.inst]
      exact (Part.openLevel_setClosed a e.outlet _).trans level
    have begins := Part.beginChange_takes waits' shut'
    set m := (taken.closeConfirmed a c.target).opening e.outlet with hm
    have outlet := m.launchEffect_outlet e
    have result : (s.part.elapse dt).limitTaken a .closed true = m.launchEffect e := by
      rw [event, closed, begins]
    have took : taken.launchTook e (m.launchEffect e) :=
      Part.launchTook_of_frame (f := id) rfl (frame.trans (Part.opening_frame _ _))
    have executed : exec (.limitLevelTaken dt a .closed true) s = .next { s with part := m.launchEffect e } := by
      rw [← result]
      rfl
    refine ⟨_, executed, took, ?_⟩
    simp only [outlet]
    refine ⟨Part.closeConfirmed_current a c.target taken, rfl, ?_, ?_⟩
    · simp [hm, Part.opening, Part.inFlight, Part.command, Part.modOutlet]
    · have expiry : (taken.closeConfirmed a c.target).travelExpiry = taken.travelExpiry := by
        rw [Part.travelExpiry, frame.now, Part.cfg, frame.image]; rfl
      have change : m.outlet.change = some
          ⟨(taken.closeConfirmed a c.target).outlet.current, .outlet e.outlet, .opening,
            (taken.closeConfirmed a c.target).travelExpiry⟩ := rfl
      rw [change, Part.closeConfirmed_current, expiry]
      rfl
end

section
/-! SUPPORT. What an event leaves of the train, but for the records that R15 retires: the records in their places, with
all that places them, over every operation that hands routes, takes stages or ends orders while no launch waits. -/

open Sys2Proof

namespace Sys2Proof.Machine

/-! ## One record -/

/-- What places a head interface: its leading product, D, CLAMPED, W, U, anchor and RESTART_MARK. -/
def HeadInterface.place (h : HeadInterface) : Product × Int × Bool × Nat × Nat × Nat × Nat × Bool :=
  (h.leading, h.d, h.clamped, h.w, h.u, h.anchorStation, h.anchorChainage, h.restartMark)

theorem BatchRecord.placing_eq (r : BatchRecord) :
    r.placing = (r.product, r.nominated, r.head.map HeadInterface.place) := rfl

theorem BatchRecord.headCleared_of {r : BatchRecord} {h : HeadInterface} (head : r.head = some h) :
    r.headCleared = decide (h.state = .cleared) := by
  simp [BatchRecord.headCleared, head]

/-- A head interface that waits is ARMED within its arming distance, and DISTANT beyond it (R61). -/
def HeadInterface.armedRight (c : Config) (h : HeadInterface) : Prop :=
  h.state = .distant ∨ h.state = .armed → (h.state = .armed ↔ h.d ≤ (armingDistance c h : Int))

/-- Every head interface of the train is DISTANT or ARMED as R61 gives, where it waits. -/
def Part.armedRight (s : Part) : Prop :=
  ∀ r ∈ s.train.records, ∀ h, r.head = some h → h.armedRight s.cfg

/-- The oldest record is not one that R15 retires. -/
def Part.settled (s : Part) : Prop :=
  ∀ x y rest, s.train.records = x :: y :: rest → retires s.keepBehind x y = false

/-- A head interface `y` stands where `x` does, and is CLEARED and waits as `x` does. -/
structure HeadInterface.Keeps (c : Config) (x y : HeadInterface) : Prop where
  place : y.place = x.place
  cleared : y.state = .cleared ↔ x.state = .cleared
  armed : x.armedRight c → y.armedRight c

/-- The record `r` stands where `m` does: all that places it, its status, and whether its head is CLEARED. -/
structure BatchRecord.Keeps (c : Config) (m r : BatchRecord) : Prop where
  batch : r.batch = m.batch
  status : r.status = m.status
  delivered : r.delivered = m.delivered
  placing : r.placing = m.placing
  cleared : r.headCleared = m.headCleared
  armed : (∀ h, m.head = some h → h.armedRight c) → ∀ h, r.head = some h → h.armedRight c

theorem BatchRecord.Keeps.refl (c : Config) (r : BatchRecord) : r.Keeps c r := ⟨rfl, rfl, rfl, rfl, rfl, id⟩

/-- A record whose head is changed, but stands as it did. -/
theorem BatchRecord.Keeps.of_head {c : Config} {f : HeadInterface → HeadInterface} {r : BatchRecord}
    (h : ∀ x, r.head = some x → x.Keeps c (f x)) : r.Keeps c { r with head := r.head.map f } := by
  refine ⟨rfl, rfl, rfl, ?_, ?_, fun right y head => ?_⟩
  · rw [BatchRecord.placing_eq, BatchRecord.placing_eq]
    cases head : r.head with
    | none => rfl
    | some x => simp [(h x head).place]
  · cases head : r.head with
    | none => simp [BatchRecord.headCleared, head]
    | some x => simp [BatchRecord.headCleared, head, (h x head).cleared]
  · obtain ⟨x, was, rfl⟩ := Option.map_eq_some_iff.mp head
    exact (h x was).armed (right x was)

/-- A record with the bare form of another stands where that does. -/
theorem BatchRecord.Keeps.of_bare {c : Config} {m r : BatchRecord} (h : r.bare = m.bare) : m.Keeps c r := by
  have key : ∀ x : BatchRecord, x.Keeps c x.bare ∧ x.bare.Keeps c x := by
    intro x
    have same : x.bare.placing = x.placing ∧ x.bare.headCleared = x.headCleared ∧
        ((∀ h, x.head = some h → h.armedRight c) ↔ ∀ h, x.bare.head = some h → h.armedRight c) := by
      cases head : x.head <;>
        simp [BatchRecord.bare, BatchRecord.placing_eq, BatchRecord.headCleared, head, HeadInterface.bare,
          HeadInterface.place, HeadInterface.armedRight, armingDistance]
    obtain ⟨placing, cleared, armed⟩ := same
    exact ⟨⟨rfl, rfl, rfl, placing, cleared, armed.mp⟩, ⟨rfl, rfl, rfl, placing.symm, cleared.symm, armed.mpr⟩⟩
  obtain ⟨toBare, -⟩ := key m
  obtain ⟨-, fromBare⟩ := key r
  rw [h] at fromBare
  exact ⟨fromBare.batch.trans toBare.batch, fromBare.status.trans toBare.status,
    fromBare.delivered.trans toBare.delivered, fromBare.placing.trans toBare.placing,
    fromBare.cleared.trans toBare.cleared, fromBare.armed ∘ toBare.armed⟩

/-- What places a record places its head. -/
theorem place_of_placing {m r : BatchRecord} (same : r.placing = m.placing) {h : HeadInterface}
    (head : r.head = some h) : ∃ g, m.head = some g ∧ h.place = g.place := by
  have heads : r.head.map HeadInterface.place = m.head.map HeadInterface.place :=
    congrArg (fun p => p.2.2) same
  rw [head] at heads
  obtain ⟨g, was, place⟩ := Option.map_eq_some_iff.mp heads.symm
  exact ⟨g, was, place.symm⟩

/-- R15 on a record and the next, in terms of where the next one's head stands. -/
theorem retires_iff {keep : Nat} {r n : BatchRecord} :
    retires keep r n = true ↔
      r.status = .departed ∧ ∃ h, n.head = some h ∧ h.state = .cleared ∧ h.d < -(keep : Int) := by
  unfold retires
  cases head : n.head <;> simp

/-- R15 reads of two records only what their places say. -/
theorem retires_congr {c : Config} {keep : Nat} {r n r' n' : BatchRecord} (hr : r.Keeps c r')
    (hn : n.Keeps c n') (h : retires keep r' n' = true) : retires keep r n = true := by
  obtain ⟨departed, h, head, cleared, below⟩ := retires_iff.mp h
  obtain ⟨g, was, place⟩ := place_of_placing hn.placing head
  have same := hn.cleared
  rw [BatchRecord.headCleared_of head, BatchRecord.headCleared_of was] at same
  have d : h.d = g.d := congrArg (fun p => p.2.1) place
  refine retires_iff.mpr ⟨hr.status ▸ departed, g, was, ?_, d ▸ below⟩
  simpa [cleared] using same.symm

/-! ## The train -/

/-- The record `r` of a train stands where `m` did, where `shown` says which interfaces have been completed on the
way. -/
structure Stays (shown : BatchNo → Prop) (m r : BatchRecord) : Prop where
  batch : r.batch = m.batch
  placing : r.placing = m.placing
  delivered : r.delivered = m.delivered
  cleared : m.headCleared = true → r.headCleared = true
  shown : r.headCleared = true → m.headCleared = true ∨ shown r.batch

/-- The train `after` stands as `before` does, but for the `k` oldest records, which R15 has retired. A record that
has become DEPARTED has had its next newer head completed on the way (R4, R91). -/
structure Retreats (shown : BatchNo → Prop) (keep k : Nat) (before after : List BatchRecord) : Prop where
  length : after.length + k = before.length
  stays : ∀ i r, after[i]? = some r → ∃ m, before[i + k]? = some m ∧ Stays shown m r ∧
    (r.status = .departed → m.status = .departed ∨ ∃ n, before[i + k + 1]? = some n ∧ n.headCleared = false)
  retired : ∀ i, i < k → ∃ r n h, before[i]? = some r ∧ before[i + 1]? = some n ∧ n.head = some h ∧
    h.d < -(keep : Int) ∧ (h.state = .cleared → r.status = .departed) ∧ (h.state ≠ .cleared → shown n.batch)

theorem Stays.trans {p q : BatchNo → Prop} (mono : ∀ b, p b → q b) {m r x : BatchRecord} (h : Stays p m r)
    (k : Stays q r x) : Stays q m x := by
  refine ⟨k.batch.trans h.batch, k.placing.trans h.placing, k.delivered.trans h.delivered,
    k.cleared ∘ h.cleared, fun cleared => ?_⟩
  rcases k.shown cleared with was | shown
  · exact (h.shown was).imp id (fun shown => by rw [k.batch]; exact mono _ shown)
  · exact .inr shown

theorem BatchRecord.Keeps.stays {c : Config} {m r : BatchRecord} (h : m.Keeps c r) (p : BatchNo → Prop) :
    Stays p m r :=
  ⟨h.batch, h.placing, h.delivered, fun was => h.cleared.trans was, fun is => .inl (h.cleared.symm.trans is)⟩

theorem Retreats.trans {p q : BatchNo → Prop} {keep i j : Nat} {a b c : List BatchRecord}
    (mono : ∀ x, p x → q x) (h : Retreats p keep i a b) (k : Retreats q keep j b c) :
    Retreats q keep (i + j) a c := by
  have at_ : ∀ n r, b[n]? = some r → ∃ m, a[n + i]? = some m ∧ Stays p m r ∧
      (r.status = .departed → m.status = .departed ∨ ∃ x, a[n + i + 1]? = some x ∧ x.headCleared = false) := h.stays
  refine ⟨by have := h.length; have := k.length; omega, fun n r found => ?_, fun n lt => ?_⟩
  · obtain ⟨m, mid, stays, departs⟩ := k.stays n r found
    obtain ⟨x, old, stays', departs'⟩ := h.stays _ m mid
    rw [show n + j + i = n + (i + j) by omega] at old departs'
    refine ⟨x, old, stays'.trans mono stays, fun departed => ?_⟩
    rcases departs departed with was | ⟨y, next, awake⟩
    · exact departs' was
    · obtain ⟨z, next', stays'', -⟩ := h.stays _ y next
      refine .inr ⟨z, by rw [← next']; congr 1; omega, ?_⟩
      by_contra cleared
      rw [stays''.cleared (by simpa using cleared)] at awake
      cases awake
  · by_cases first : n < i
    · obtain ⟨r, x, g, hr, hx, head, below, departs, shown⟩ := h.retired n first
      exact ⟨r, x, g, hr, hx, head, below, departs, mono _ ∘ shown⟩
    · obtain ⟨r, x, g, hr, hx, head, below, departs, shown⟩ := k.retired (n - i) (by omega)
      obtain ⟨r', hr', -, departs'⟩ := h.stays _ r hr
      obtain ⟨x', hx', stays, -⟩ := h.stays _ x hx
      rw [show n - i + i = n by omega] at hr' departs'
      rw [show n - i + 1 + i = n + 1 by omega] at hx'
      obtain ⟨g', head', place⟩ := place_of_placing stays.placing head
      have d : g.d = g'.d := congrArg (fun p => p.2.1) place
      have cleared := BatchRecord.headCleared_of head
      have cleared' := BatchRecord.headCleared_of head'
      refine ⟨r', x', g', hr', hx', head', d ▸ below, fun was => ?_, fun awake => ?_⟩
      · have is := stays.cleared (by simp [cleared', was])
        rcases departs' (departs (by simpa [cleared] using is)) with departed | ⟨y, hy, awake⟩
        · exact departed
        · rw [hx'] at hy
          cases hy
          simp [cleared', was] at awake
      · rw [← stays.batch]
        by_cases is : g.state = .cleared
        · rcases stays.shown (by simp [cleared, is]) with was | told
          · simp [cleared', awake] at was
          · exact mono _ told
        · exact shown is

/-! ## One event -/

/-- What the cut records show of a completed interface, while the queue has room (R91, R173). -/
def Part.shows (t : Part) (b : BatchNo) : Prop :=
  32 ≤ t.port.records.length ∨ ∃ rec ∈ t.port.records, rec.body.interfaceOf b = true

theorem Part.shows_of_kept {s t : Part} (kept : recordsKept s.port.records t.port.records) (b : BatchNo)
    (h : s.shows b) : t.shows b := by
  by_cases full : 32 ≤ t.port.records.length
  · exact .inl full
  · rcases h with was | ⟨rec, mem, shown⟩
    · exact .inl (was.trans kept.1)
    · exact .inr ⟨rec, kept.2 (by omega) rec mem, shown⟩

/-- `t` is `s` after a part of an event: the train stands as it did but for what R15 has retired, with the horizon at
the newest of that, the heads that waited as R61 gives still do, and the cut records are kept. -/
structure Shifted (s t : Part) : Prop where
  train : ∃ k, Retreats t.shows s.keepBehind k s.train.records t.train.records ∧
    t.train.horizon = if k = 0 then s.train.horizon else (s.train.records[k - 1]?).map BatchRecord.batch
  armed : s.armedRight → t.armedRight
  records : recordsKept s.port.records t.port.records

/-- The same, no record is left that R15 retires where none was, and the peers are as they were, where no request of a
sync waits to be sent. -/
structure Moved (s t : Part) : Prop extends Shifted s t where
  settled : s.settled → t.settled
  peer : s.peer.phase ≠ .waitingSent → t.peer = s.peer

/-- An order frame of a part in whose train the records stay in their places, while no launch waits. -/
structure Moves (s t : Part) : Prop extends OrderFrame s t where
  moved : s.ordered → s.noLaunch → Moved s t

theorem Part.keepBehind_of_image {s t : Part} (h : t.image = s.image) : t.keepBehind = s.keepBehind := by
  rw [Part.keepBehind, Part.cfg, h]; rfl

theorem Shifted.trans {s t u : Part} (image : t.image = s.image) (h : Shifted s t) (k : Shifted t u) :
    Shifted s u := by
  obtain ⟨i, first, early⟩ := h.train
  obtain ⟨j, second, late⟩ := k.train
  rw [Part.keepBehind_of_image image] at second
  refine ⟨⟨i + j, first.trans (Part.shows_of_kept k.records) second, ?_⟩,
    k.armed ∘ h.armed, h.records.trans k.records⟩
  rw [late]
  by_cases none : j = 0
  · simp [none, early]
  · obtain ⟨r, -, -, hr, -⟩ := second.retired (j - 1) (by omega)
    obtain ⟨m, hm, stays, -⟩ := first.stays _ r hr
    rw [if_neg none, if_neg (by omega), hr, show i + j - 1 = j - 1 + i by omega, hm]
    exact congrArg some stays.batch

theorem Moved.trans {s t u : Part} (image : t.image = s.image) (h : Moved s t) (k : Moved t u) : Moved s u :=
  ⟨h.toShifted.trans image k.toShifted, k.settled ∘ h.settled, fun idle =>
    have same := h.peer idle
    (k.peer (by rw [same]; exact idle)).trans same⟩

theorem Moves.trans {s t u : Part} (h : Moves s t) (k : Moves t u) : Moves s u :=
  ⟨h.toOrderFrame.trans k.toOrderFrame, fun o n =>
    (h.moved o n).trans h.image (k.moved (h.ordered o) (h.launches n))⟩

/-! ### In place -/

/-- The records of `b` stand where those of `a` do, one by one. -/
def InPlace (c : Config) (a b : List BatchRecord) : Prop :=
  b.length = a.length ∧ ∀ (i : Nat) (r : BatchRecord), b[i]? = some r → ∃ m, a[i]? = some m ∧ m.Keeps c r

theorem InPlace.refl (c : Config) (a : List BatchRecord) : InPlace c a a := ⟨rfl, fun _ r h => ⟨r, h, .refl c r⟩⟩

theorem InPlace.of_map {c : Config} {f : BatchRecord → BatchRecord} {a : List BatchRecord}
    (h : ∀ r ∈ a, r.Keeps c (f r)) : InPlace c a (a.map f) := by
  refine ⟨by simp, fun i r found => ?_⟩
  rw [List.getElem?_map] at found
  obtain ⟨m, was, rfl⟩ := Option.map_eq_some_iff.mp found
  exact ⟨m, was, h m (List.mem_of_getElem? was)⟩

theorem InPlace.of_bare {c : Config} {a b : List BatchRecord}
    (h : b.map BatchRecord.bare = a.map BatchRecord.bare) : InPlace c a b := by
  refine ⟨by simpa using congrArg List.length h, fun i r found => ?_⟩
  have eq := congrArg (fun l => l[i]?) h
  simp only [List.getElem?_map, found, Option.map_some] at eq
  obtain ⟨m, was, same⟩ := Option.map_eq_some_iff.mp eq.symm
  exact ⟨m, was, .of_bare same.symm⟩

/-- An operation that leaves the records in their places. -/
theorem Moves.of_inPlace {s t : Part} (order : OrderFrame s t)
    (place : s.ordered → s.noLaunch → InPlace s.cfg s.train.records t.train.records)
    (horizon : t.train.horizon = s.train.horizon) (records : recordsKept s.port.records t.port.records)
    (peer : s.peer.phase ≠ .waitingSent → t.peer = s.peer) : Moves s t := by
  refine ⟨order, fun o n => ?_⟩
  obtain ⟨length, keeps⟩ := place o n
  have cfg : t.cfg = s.cfg := by rw [Part.cfg, order.image]; rfl
  refine ⟨⟨⟨0, ⟨length, fun i r found => ?_, fun i lt => absurd lt (Nat.not_lt_zero i)⟩, horizon⟩,
    fun right r mem h head => ?_, records⟩, fun settled => ?_, peer⟩
  · obtain ⟨m, was, same⟩ := keeps i r found
    exact ⟨m, was, same.stays _, fun departed => .inl (same.status ▸ departed)⟩
  · obtain ⟨i, found⟩ := List.mem_iff_getElem?.mp mem
    obtain ⟨m, was, same⟩ := keeps i r found
    rw [cfg]
    exact same.armed (fun h => right m (List.mem_of_getElem? was) h) h head
  · intro x y rest eq
    obtain ⟨m, hm, keepsX⟩ := keeps 0 x (by simp [eq])
    obtain ⟨n, hn, keepsY⟩ := keeps 1 y (by simp [eq])
    by_contra retires
    rw [Bool.not_eq_false, Part.keepBehind_of_image order.image] at retires
    have was := retires_congr keepsX keepsY retires
    match before : s.train.records with
    | [] => simp [before] at hm
    | [_] => simp [before] at hn
    | a :: b :: more =>
      simp only [before, List.getElem?_cons_zero, List.getElem?_cons_succ, Option.some.injEq] at hm hn
      rw [← hm, ← hn, settled a b more before] at was
      cases was

theorem Moves.refl (s : Part) : Moves s s :=
  .of_inPlace (.refl s) (fun _ _ => .refl _ _) rfl (.refl _) (fun _ => rfl)

theorem Moves.foldl {α : Type} (f : Part → α → Part) (h : ∀ s a, Moves s (f s a)) (l : List α)
    (s : Part) : Moves s (l.foldl f s) := by
  induction l generalizing s with
  | nil => exact .refl s
  | cons a l ih => exact (h s a).trans (ih _)

theorem PlanFrame.moves {s t : Part} (h : PlanFrame s t) : Moves s t :=
  .of_inPlace h.live.toOrderFrame (fun _ _ => .of_bare h.bare) h.horizon h.records (fun _ => h.peer)

/-- An operation that leaves the train. -/
theorem Moves.of_train {s t : Part} (order : OrderFrame s t) (train : t.train = s.train)
    (records : recordsKept s.port.records t.port.records)
    (peer : s.peer.phase ≠ .waitingSent → t.peer = s.peer) : Moves s t :=
  .of_inPlace order (fun _ _ => by rw [train]; exact .refl _ _) (by rw [train]) records peer

theorem OutletFrame.moves {s t : Part} (h : OutletFrame s t) : Moves s t :=
  .of_train h.live.toOrderFrame h.train (by rw [h.records]; exact .refl _) (fun _ => h.peer)

/-- With no launch cut waiting, a route change reaches the outlet controller only. -/
theorem Moves.of_routed {s t : Part} (h : Routed s t) : Moves s t :=
  ⟨h.live.toOrderFrame, fun o n => (h.outlet n.2).moves.moved o n⟩

theorem Part.handPlanned_moves (s : Part) : Moves s s.handPlanned := .of_routed s.handPlanned_routed

theorem Part.holdEvent_moves (s : Part) : Moves s s.holdEvent := .of_routed s.holdEvent_routed

theorem Part.reportDiscarded_peer {n : Notice} {s : Part} (idle : s.peer.phase ≠ .waitingSent) :
    (s.reportDiscarded n).peer = s.peer := by
  unfold Part.reportDiscarded
  split
  · rename_i waits
    exact absurd waits idle
  · rfl

theorem Part.arbitrate_peer (s : Part) : s.arbitrate.peer = s.peer := by
  unfold Part.arbitrate
  split
  · rfl
  · split <;> rfl

/-- A notice handed to the outbound queue reaches the peers only where the request of a sync waits in it (R142). -/
theorem Part.enqueue_peer {n : Notice} {s : Part} (idle : s.peer.phase ≠ .waitingSent) :
    (s.enqueue n).peer = s.peer := by
  have joins : ∀ t : Part, (t.joinOutbound n).peer = t.peer := fun t => Part.arbitrate_peer _
  unfold Part.enqueue
  split
  · rfl
  · split
    · exact joins s
    · split
      · rename_i c _
        rw [joins]
        unfold Part.evict
        split
        · rfl
        · exact Part.reportDiscarded_peer idle
      · exact Part.reportDiscarded_peer idle

theorem Part.enqueue_moves (n : Notice) (s : Part) : Moves s (s.enqueue n) := by
  have line := s.enqueue_line n
  exact .of_train line.live.toOrderFrame line.train (by rw [line.records]; exact .refl _) Part.enqueue_peer

theorem Part.raise_moves (a : Alarm) (s : Part) : Moves s (s.raise a) := (s.raise_plan a).moves

theorem Part.raiseIf_moves (c : Bool) (a : Alarm) (s : Part) : Moves s (s.raiseIf c a) := (s.raiseIf_plan c a).moves

theorem Part.modDet_moves (f : Detector → Detector) (s : Part) : Moves s (s.modDet f) :=
  .of_train ⟨id, id, rfl⟩ rfl (.refl _) (fun _ => rfl)

theorem Part.modPlanner_moves {f : Planner → Planner} {s : Part}
    (launches : s.noLaunch → (s.modPlanner f).noLaunch) : Moves s (s.modPlanner f) :=
  .of_train ⟨id, launches, rfl⟩ rfl (.refl _) (fun _ => rfl)

/-- A change of the window interface in its place. -/
theorem Part.modWindow_moves {f : HeadInterface → HeadInterface} {s : Part}
    (h : ∀ r ∈ s.train.records, s.det.window = some r.batch → ∀ x, r.head = some x → x.Keeps s.cfg (f x)) :
    Moves s (s.modWindow f) := by
  cases hw : s.det.window with
  | none => rw [Part.modWindow_none f hw]; exact .refl s
  | some b =>
    rw [Part.modWindow_window f hw]
    refine .of_inPlace (s.modHead_order b f) (fun _ _ => ?_) rfl (.refl _) (fun _ => rfl)
    rw [Part.modHead_records]
    refine .of_map (fun r mem => ?_)
    split
    · rename_i same
      exact .of_head (h r mem (by rw [hw, same]))
    · exact .refl _ r

/-- A change of the window interface that reaches neither its place nor its state. -/
theorem Part.modWindow_moves_still (f : HeadInterface → HeadInterface) (s : Part)
    (h : ∀ (c : Config) (x : HeadInterface), x.Keeps c (f x) := by intro _ _; exact ⟨rfl, .rfl, id⟩) : Moves s (s.modWindow f) :=
  Part.modWindow_moves (fun _ _ _ x _ => h s.cfg x)

/-! ### Retirement (R15, R16) -/

theorem splitRetired_retires {keep : Nat} {recs : List BatchRecord} {i : Nat}
    (lt : i < (splitRetired keep recs).1.length) :
    ∃ r n, recs[i]? = some r ∧ recs[i + 1]? = some n ∧ retires keep r n = true := by
  induction recs using splitRetired.induct keep generalizing i with
  | case1 => simp [splitRetired] at lt
  | case2 r => simp [splitRetired] at lt
  | case3 r n rest gone ih =>
    cases i with
    | zero => exact ⟨r, n, rfl, rfl, gone⟩
    | succ i =>
      simp only [splitRetired, gone, if_true, List.length_cons] at lt
      exact ih (by omega)
  | case4 r n rest stays => simp [splitRetired, stays] at lt

theorem settled_iff (s : Part) : s.settled ↔ (splitRetired s.keepBehind s.train.records).1 = [] := by
  unfold Part.settled
  constructor
  · intro settled
    match h : s.train.records with
    | [] => rfl
    | [_] => rfl
    | x :: y :: rest => simp [splitRetired, settled x y rest h]
  · intro none x y rest eq
    by_contra gone
    rw [Bool.not_eq_false] at gone
    simp [eq, splitRetired, gone] at none

/-- The records that R15 retires leave the train as it was but for them. -/
theorem retreats_splitRetired (shown : BatchNo → Prop) (keep : Nat) (recs : List BatchRecord) :
    Retreats shown keep (splitRetired keep recs).1.length recs (splitRetired keep recs).2 := by
  have whole := splitRetired_append keep recs
  have gone := fun i => splitRetired_retires (keep := keep) (recs := recs) (i := i)
  generalize splitRetired keep recs = p at whole gone
  subst whole
  refine ⟨by simp; omega, fun i r found => ⟨r, ?_, ⟨rfl, rfl, rfl, id, .inl⟩, .inl⟩, fun i lt => ?_⟩
  · rw [List.getElem?_append_right (Nat.le_add_left _ _), Nat.add_sub_cancel]
    exact found
  · obtain ⟨r, n, hr, hn, retires⟩ := gone i lt
    obtain ⟨departed, h, head, cleared, below⟩ := retires_iff.mp retires
    exact ⟨r, n, h, hr, hn, head, below, fun _ => departed, fun live => absurd cleared live⟩

/-- The horizon after a retirement is the newest of the records retired (R16). -/
theorem horizonAfter_splitRetired (keep : Nat) (recs : List BatchRecord) (horizon : Option BatchNo) :
    horizonAfter horizon (splitRetired keep recs).1 = if (splitRetired keep recs).1.length = 0 then horizon
      else (recs[(splitRetired keep recs).1.length - 1]?).map BatchRecord.batch := by
  have whole := splitRetired_append keep recs
  generalize splitRetired keep recs = p at whole
  subst whole
  unfold horizonAfter
  rw [List.getLast?_eq_getElem?]
  split
  · rename_i r last
    have lt := (List.getElem?_eq_some_iff.mp last).1
    rw [if_neg (by omega), List.getElem?_append_left lt, last]
    rfl
  · rename_i none
    rw [if_pos (by rw [List.getElem?_eq_none_iff] at none; omega)]

/-- The part after the retirement test, before the orders of the retired records end. -/
def Part.retiredTrain (s : Part) : Part :=
  { s with train :=
      { records := (splitRetired s.keepBehind s.train.records).2,
        horizon := horizonAfter s.train.horizon (splitRetired s.keepBehind s.train.records).1 } }

theorem Part.retire_eq (s : Part) :
    s.retire = (splitRetired s.keepBehind s.train.records).1.foldl Part.endRetired s.retiredTrain := rfl

theorem Part.retiredTrain_shifted (s : Part) : Shifted s s.retiredTrain := by
  refine ⟨⟨_, retreats_splitRetired _ _ _, horizonAfter_splitRetired _ _ _⟩, fun right r mem => right r ?_,
    .refl _⟩
  rw [← splitRetired_append s.keepBehind s.train.records]
  exact List.mem_append_right _ mem

theorem Part.retiredTrain_settled (s : Part) : s.retiredTrain.settled := by
  rw [settled_iff]
  exact splitRetired_idem _ _

/-- The orders of the retired records end with the train as the test left it (R16). -/
theorem Part.retiredTrain_retire {s : Part} (o : s.ordered) (n : s.noLaunch) : Moved s.retiredTrain s.retire := by
  have ends := Moves.foldl Part.endRetired (fun t r => (t.endRetired_plan r).moves)
    (splitRetired s.keepBehind s.train.records).1 s.retiredTrain
  exact ends.moved ((s.splitRetired_frame _).ordered o) n

theorem Part.retire_settled {s : Part} (o : s.ordered) (n : s.noLaunch) : s.retire.settled :=
  (Part.retiredTrain_retire o n).settled s.retiredTrain_settled

/-- What R15 retires leaves the train, and nothing more that it would retire is left (R15, R16). -/
theorem Shifted.retire {s t : Part} (image : t.image = s.image) (h : Shifted s t)
    (peer : s.peer.phase ≠ .waitingSent → t.peer = s.peer) (o : t.ordered) (n : t.noLaunch) :
    Moved s t.retire :=
  have retired := Part.retiredTrain_retire o n
  have image' : t.retiredTrain.image = s.image := image
  ⟨(h.trans image t.retiredTrain_shifted).trans image' retired.toShifted,
    fun _ => retired.settled t.retiredTrain_settled, fun idle =>
      have same := peer idle
      (retired.peer (by show t.peer.phase ≠ _; rw [same]; exact idle)).trans same⟩

theorem Part.retire_moves (s : Part) : Moves s s.retire :=
  ⟨s.retire_live.toOrderFrame, fun o n => Shifted.retire rfl ((Moves.refl s).moved o n).toShifted (fun _ => rfl) o n⟩

/-! ### Stages (R83, R88) -/

/-- The window interface, where there is one, is not CLEARED. -/
def Part.windowAwake (s : Part) : Prop :=
  ∀ r ∈ s.train.records, s.det.window = some r.batch → ∀ h, r.head = some h → h.state ≠ .cleared

theorem Part.windowAwake_of {s : Part} (o : s.ordered) {r : BatchRecord} {h : HeadInterface}
    (found : s.windowHead = some (r, h)) (awake : h.state ≠ .cleared) : s.windowAwake := by
  obtain ⟨window, here, head⟩ := Part.windowHead_eq_some.mp found
  intro x mem same g hx
  rw [window, Option.some.injEq] at same
  rw [o.record_unique mem (findBatch_mem here).1 same.symm, head] at hx
  cases hx
  exact awake

theorem Part.windowAwake.modWindow {s : Part} {f : HeadInterface → HeadInterface} (awake : s.windowAwake)
    (h : ∀ x, x.state ≠ .cleared → (f x).state ≠ .cleared) : (s.modWindow f).windowAwake := by
  cases hw : s.det.window with
  | none => rwa [Part.modWindow_none f hw]
  | some b =>
    rw [Part.modWindow_window f hw]
    intro r mem same g head
    rw [Part.modHead_records] at mem
    obtain ⟨m, was, rfl⟩ := List.mem_map.mp mem
    by_cases hb : m.batch = b
    · rw [if_pos hb] at head
      obtain ⟨x, hx, rfl⟩ := Option.map_eq_some_iff.mp head
      exact h x (awake m was (hw.trans (congrArg some hb.symm)) x hx)
    · rw [if_neg hb] at same
      exact absurd (Option.some.inj (hw.symm.trans same)).symm hb

theorem HeadInterface.take_keeps (c : Config) (m : Method) (stamp : StageRecord) (g : Stage) {x : HeadInterface}
    (awake : x.state ≠ .cleared) : x.Keeps c (x.take m stamp g) := by
  cases g with
  | leading => exact ⟨rfl, by simp [HeadInterface.take, awake], by simp [HeadInterface.take, HeadInterface.armedRight]⟩
  | midpoint => exact ⟨rfl, by simp [HeadInterface.take, awake], by simp [HeadInterface.take, HeadInterface.armedRight]⟩
  | trailing => exact ⟨rfl, .rfl, id⟩

theorem Part.takeStage_moves (m : Method) (g : Stage) {s : Part} (awake : s.windowAwake) :
    Moves s (s.takeStage m g) ∧ (s.takeStage m g).windowAwake := by
  have marked : Moves s (s.modWindow (fun h => h.take m (s.stageRecord m) g)) :=
    Part.modWindow_moves (fun r mem same x head =>
      HeadInterface.take_keeps s.cfg m (s.stageRecord m) g (awake r mem same x head))
  have wakes : (s.modWindow (fun h => h.take m (s.stageRecord m) g)).windowAwake :=
    awake.modWindow (fun x hx => (HeadInterface.take_keeps s.cfg m (s.stageRecord m) g hx).cleared.not.mpr hx)
  unfold Part.takeStage
  cases g with
  | leading => exact ⟨marked.trans (Part.modDet_moves _ _), wakes⟩
  | midpoint => exact ⟨marked.trans (Part.modDet_moves _ _), wakes⟩
  | trailing => exact ⟨marked, wakes⟩

theorem Part.foldl_takeStage_moves (m : Method) (stages : List Stage) {s : Part} (awake : s.windowAwake) :
    Moves s (stages.foldl (Part.takeStage m) s) ∧ (stages.foldl (Part.takeStage m) s).windowAwake := by
  induction stages generalizing s with
  | nil => exact ⟨.refl s, awake⟩
  | cons g rest ih =>
    obtain ⟨first, wakes⟩ := Part.takeStage_moves m g awake
    obtain ⟨more, wakes'⟩ := ih wakes
    exact ⟨first.trans more, wakes'⟩

theorem Part.markOverdue_moves (again : Bool) (h : HeadInterface) (s : Part) : Moves s (s.markOverdue again h) :=
  (s.modWindow_moves_still _).trans (Part.raiseIf_moves _ _ _)

theorem Part.setChannel_moves (ch : Channel × Option RefSet) (s : Part) : Moves s (s.setChannel ch) :=
  (s.modWindow_moves_still _).trans (Part.modDet_moves _ _)

theorem Part.leaveWindow_moves (s : Part) : Moves s s.leaveWindow :=
  s.modWindow_moves_still _

theorem Part.enterWindow_moves (b : BatchNo) (s : Part) : Moves s (s.enterWindow b) := by
  unfold Part.enterWindow
  exact ((((s.modDet_moves _).trans (Part.setChannel_moves _ _)).trans (Part.modDet_moves _ _)).trans
    (Part.modDet_moves _ _)).trans ((Part.enterPlan_plan _).moves.trans (Part.handPlanned_moves _))

theorem Part.nextWindow_moves (s : Part) : Moves s s.nextWindow := by
  unfold Part.nextWindow
  split
  · exact s.enterWindow_moves _
  · exact s.modDet_moves _

/-! ### Completion (R91) -/

/-- R4 makes a record DEPARTED where the next newer one is of the batch that becomes PRESENT. -/
theorem makePresent_getElem? {b : BatchNo} {recs : List BatchRecord} {i : Nat} {r : BatchRecord}
    (found : (makePresent b recs)[i]? = some r) :
    ∃ m, recs[i]? = some m ∧ r = { m with status := r.status } ∧
      (r.status = .departed → m.status = .departed ∨ ∃ n, recs[i + 1]? = some n ∧ n.batch = b) := by
  have same : ∀ {l : List BatchRecord} {j : Nat}, l[j]? = some r → ∃ m, l[j]? = some m ∧
      r = { m with status := r.status } ∧
      (r.status = .departed → m.status = .departed ∨ ∃ n, l[j + 1]? = some n ∧ n.batch = b) := fun h =>
    ⟨r, h, rfl, .inl⟩
  induction recs using makePresent.induct b generalizing i with
  | case1 => cases found
  | case2 x hb =>
    rw [makePresent, if_pos hb] at found
    cases i with
    | zero => cases found; exact ⟨x, rfl, rfl, nofun⟩
    | succ i => cases found
  | case3 x hb => rw [makePresent, if_neg hb] at found; exact same found
  | case4 x n rest hb =>
    rw [makePresent, if_pos hb] at found
    cases i with
    | zero => cases found; exact ⟨x, rfl, rfl, nofun⟩
    | succ i => exact same (l := x :: n :: rest) (j := i + 1) found
  | case5 x n rest hb next ih =>
    rw [makePresent, if_neg hb, if_pos next] at found
    cases i with
    | zero => cases found; exact ⟨x, rfl, rfl, fun _ => .inr ⟨n, rfl, next.1⟩⟩
    | succ i => exact ih found
  | case6 x n rest hb next ih =>
    rw [makePresent, if_neg hb, if_neg next] at found
    cases i with
    | zero => exact same (l := x :: n :: rest) (j := 0) found
    | succ i => exact ih found

theorem makePresent_length (b : BatchNo) (recs : List BatchRecord) : (makePresent b recs).length = recs.length := by
  simpa using congrArg List.length (makePresent_batches b recs)

/-- The train `after` stands as `before` does, but for the interface of the batch `b`, which has been completed, and
the status of the record before it. -/
structure Completes (c : Config) (b : BatchNo) (before after : List BatchRecord) : Prop where
  length : after.length = before.length
  stays : ∀ (i : Nat) (r : BatchRecord), after[i]? = some r → ∃ m, before[i]? = some m ∧ Stays (· = b) m r ∧
    (r.status = .departed → m.status = .departed ∨ ∃ n, before[i + 1]? = some n ∧ n.batch = b) ∧
    ((∀ h, m.head = some h → h.armedRight c) → ∀ h, r.head = some h → h.armedRight c)

theorem Completes.clear (c : Config) (b : BatchNo) (degraded : Bool) (recs : List BatchRecord) :
    Completes c b recs (recs.map (fun r =>
      if r.batch = b then { r with head := r.head.map (HeadInterface.clear degraded) } else r)) := by
  refine ⟨by simp, fun i r found => ?_⟩
  rw [List.getElem?_map] at found
  obtain ⟨m, was, rfl⟩ := Option.map_eq_some_iff.mp found
  refine ⟨m, was, ?_⟩
  split
  · rename_i same
    refine ⟨⟨rfl, ?_, rfl, fun cleared => ?_, fun _ => .inr same⟩, .inl, fun _ h head => ?_⟩
    · cases hm : m.head <;> simp [BatchRecord.placing_eq, hm, HeadInterface.place, HeadInterface.clear]
    · cases hm : m.head <;> simp_all [BatchRecord.headCleared, HeadInterface.clear]
    · obtain ⟨x, -, rfl⟩ := Option.map_eq_some_iff.mp head
      simp [HeadInterface.armedRight, HeadInterface.clear]
  · exact ⟨⟨rfl, rfl, rfl, id, .inl⟩, .inl, id⟩

theorem Completes.inPlace {c : Config} {b : BatchNo} {x y z : List BatchRecord} (h : Completes c b x y)
    (k : InPlace c y z) : Completes c b x z := by
  refine ⟨k.1.trans h.length, fun i r found => ?_⟩
  obtain ⟨m, mid, same⟩ := k.2 i r found
  obtain ⟨n, was, stays, departs, armed⟩ := h.stays i m mid
  exact ⟨n, was, stays.trans (fun _ => id) (same.stays _), fun departed => departs (same.status ▸ departed),
    same.armed ∘ armed⟩

theorem Completes.makePresent {c : Config} {b : BatchNo} {x y : List BatchRecord} (h : Completes c b x y) :
    Completes c b x (makePresent b y) := by
  refine ⟨(makePresent_length b y).trans h.length, fun i r found => ?_⟩
  obtain ⟨m, mid, eq, departs⟩ := makePresent_getElem? found
  obtain ⟨n, was, stays, departs', armed⟩ := h.stays i m mid
  have head : r.head = m.head := by rw [eq]
  have batch : r.batch = m.batch := by rw [eq]
  have delivered : r.delivered = m.delivered := by rw [eq]
  have cleared : r.headCleared = m.headCleared := by rw [BatchRecord.headCleared, head]; rfl
  have placing : r.placing = m.placing := by rw [eq]; rfl
  refine ⟨n, was, stays.trans (fun _ => id)
    ⟨batch, placing, delivered, fun is => cleared.trans is,
      fun is => .inl (cleared.symm.trans is)⟩, fun departed => ?_, fun right g hg => armed right g (head ▸ hg)⟩
  rcases departs departed with was | ⟨z, next, same⟩
  · exact departs' was
  · obtain ⟨z', next', stays', -⟩ := h.stays _ z next
    exact .inr ⟨z', next', stays'.batch.symm.trans same⟩

/-- A completion whose INTERFACE record is shown. -/
theorem Completes.shifted {b : BatchNo} {s t : Part} (h : Completes s.cfg b s.train.records t.train.records)
    (image : t.image = s.image) (awake : ∀ r ∈ s.train.records, r.batch = b → r.headCleared = false)
    (shown : t.shows b) (horizon : t.train.horizon = s.train.horizon)
    (records : recordsKept s.port.records t.port.records) : Shifted s t := by
  refine ⟨⟨0, ⟨h.length, fun i r found => ?_, fun i lt => absurd lt (Nat.not_lt_zero i)⟩, horizon⟩,
    fun right r mem => ?_, records⟩
  · obtain ⟨m, was, stays, departs, -⟩ := h.stays i r found
    refine ⟨m, was, ⟨stays.batch, stays.placing, stays.delivered, stays.cleared, fun is => (stays.shown is).imp id
      fun (same : r.batch = b) => same ▸ shown⟩, fun departed => (departs departed).imp id ?_⟩
    rintro ⟨n, next, same⟩
    exact ⟨n, next, awake n (List.mem_of_getElem? next) same⟩
  · obtain ⟨i, found⟩ := List.mem_iff_getElem?.mp mem
    obtain ⟨m, was, -, -, armed⟩ := h.stays i r found
    rw [Part.cfg, image]
    exact armed (right m (List.mem_of_getElem? was))

/-- Steps 2 and 3 of R91 show the interface, and leave the train. -/
theorem Part.reportPassage_shows {s : Part} {r : BatchRecord} {h : HeadInterface}
    (found : s.windowHead = some (r, h)) :
    s.reportPassage.train = s.train ∧ s.reportPassage.shows r.batch ∧
      recordsKept s.port.records s.reportPassage.port.records ∧
      (s.peer.phase ≠ .waitingSent → s.reportPassage.peer = s.peer) := by
  have written : (s.writeRecord (interfaceRecord r h s.det.mix)).shows r.batch :=
    .inr ⟨_, List.mem_of_getLast? (s.writeRecord_last _), by simp [interfaceRecord, RecordBody.interfaceOf]⟩
  have kept := s.writeRecord_kept (interfaceRecord r h s.det.mix)
  unfold Part.reportPassage
  rw [found]
  simp only
  split
  · exact ⟨rfl, written, kept, fun _ => rfl⟩
  · have line := Part.enqueue_line (passageNotice r h (s.det.midStamp.getD 0))
      (s.writeRecord (interfaceRecord r h s.det.mix))
    exact ⟨line.train, Part.shows_of_kept (by rw [line.records]; exact .refl _) _ written,
      by rw [line.records]; exact kept, fun idle => Part.enqueue_peer idle⟩

theorem PlanFrame.inPlace {s t : Part} (h : PlanFrame s t) (c : Config) : InPlace c s.train.records t.train.records :=
  .of_bare h.bare

/-- The part in the middle of a completion, as R15 is tested: the interface is CLEARED and shown, and its batch PRESENT
(R91, R4). -/
def Part.completed (r : BatchRecord) (h : HeadInterface) (s : Part) : Part :=
  (((((s.modWindow (HeadInterface.clear (s.degraded h))).reportPassage.planStep .trailing).setPlan none).mapTrain
    (makePresent r.batch))).lateStartFor r.batch

theorem Part.complete_eq {r : BatchRecord} {h : HeadInterface} {s : Part} (found : s.windowHead = some (r, h)) :
    s.complete = ((((s.completed r h).retire.modDet (fun d => { d with midStamp := none, mix := [] })).handPlanned
      ).holdEvent).nextWindow := by
  simp only [Part.complete, found]
  rfl

/-- After the window interface is CLEARED it is the window interface still. -/
theorem Part.modWindow_windowHead {s : Part} {r : BatchRecord} {h : HeadInterface} (f : HeadInterface → HeadInterface)
    (found : s.windowHead = some (r, h)) :
    (s.modWindow f).windowHead = some ({ r with head := some (f h) }, f h) := by
  obtain ⟨window, here, head⟩ := Part.windowHead_eq_some.mp found
  rw [Part.modWindow_window f window]
  refine Part.windowHead_eq_some.mpr ⟨window, ?_, rfl⟩
  rw [Part.modHead_records, findBatch, List.find?_map]
  have unmoved : (fun x : BatchRecord => decide (x.batch = r.batch)) ∘
      (fun x => if x.batch = r.batch then { x with head := x.head.map f } else x) =
      fun x => decide (x.batch = r.batch) := by
    funext x
    simp only [Function.comp_apply]
    split <;> rfl
  show Option.map _ (s.train.records.find? ((fun x : BatchRecord => decide (x.batch = r.batch)) ∘ _)) = _
  rw [unmoved]
  unfold findBatch at here
  rw [here]
  simp [head]

theorem Part.completed_shifted {s : Part} {r : BatchRecord} {h : HeadInterface}
    (found : s.windowHead = some (r, h)) (awake : s.windowAwake) :
    Shifted s (s.completed r h) ∧ OrderFrame s (s.completed r h) ∧
      (s.peer.phase ≠ .waitingSent → (s.completed r h).peer = s.peer) := by
  obtain ⟨window, -, -⟩ := Part.windowHead_eq_some.mp found
  set c := s.modWindow (HeadInterface.clear (s.degraded h)) with hc
  obtain ⟨train, shown, kept, peer⟩ := Part.reportPassage_shows (Part.modWindow_windowHead
    (HeadInterface.clear (s.degraded h)) found)
  have planned := (Part.planStep_plan .trailing c.reportPassage).trans (Part.setPlan_plan none _)
  set p := (c.reportPassage.planStep .trailing).setPlan none with hp
  have late := Part.lateStartFor_plan r.batch (p.mapTrain (makePresent r.batch))
  have cleared : Completes s.cfg r.batch s.train.records c.train.records := by
    rw [hc, Part.modWindow_window _ window, Part.modHead_records]
    exact .clear s.cfg r.batch _ _
  have base : c.port = s.port ∧ c.peer = s.peer ∧ c.train.horizon = s.train.horizon ∧ c.image = s.image := by
    rw [hc, Part.modWindow_window _ window]
    exact ⟨rfl, rfl, rfl, rfl⟩
  obtain ⟨port, peers, horizon, image⟩ := base
  have order : OrderFrame s (s.completed r h) := by
    have present : OrderFrame p (p.mapTrain (makePresent r.batch)) :=
      ⟨fun o => by rwa [Part.ordered, Part.batches, Part.mapTrain_train, makePresent_batches], id, rfl⟩
    exact (((s.modWindow_order _).trans (Part.reportPassage_live c).toOrderFrame).trans
      planned.live.toOrderFrame).trans (present.trans late.live.toOrderFrame)
  have records : recordsKept c.reportPassage.port.records (s.completed r h).port.records :=
    planned.records.trans late.records
  have completes : Completes s.cfg r.batch s.train.records (s.completed r h).train.records := by
    refine (Completes.makePresent (cleared.inPlace (z := p.train.records) ?_)).inPlace (late.inPlace s.cfg)
    rw [← train]
    exact planned.inPlace s.cfg
  refine ⟨completes.shifted order.image (fun x mem same => ?_) (Part.shows_of_kept records _ shown) ?_ ?_,
    order, fun idle => ?_⟩
  · unfold BatchRecord.headCleared
    split
    · rename_i g head
      simpa using awake x mem (by rw [window, same]) g head
    · rfl
  · exact late.horizon.trans (planned.horizon.trans ((congrArg TrainStore.horizon train).trans horizon))
  · rw [← port]
    exact kept.trans records
  · exact late.peer.trans (planned.peer.trans ((peer (by rwa [← hc, peers])).trans peers))

/-- A completed interface leaves its record in its place (R91). -/
theorem Part.complete_moves {s : Part} (awake : s.windowAwake) : Moves s s.complete := by
  refine ⟨s.complete_law.toOrderFrame, fun o n => ?_⟩
  cases found : s.windowHead with
  | none =>
    have same : s.complete = s := by simp [Part.complete, found]
    rw [same]
    exact (Moves.refl s).moved o n
  | some w =>
    obtain ⟨r, h⟩ := w
    obtain ⟨shifted, order, peer⟩ := Part.completed_shifted found awake
    have retired := shifted.retire order.image peer (order.ordered o) (order.launches n)
    have retiring := (s.completed r h).retire_live.toOrderFrame
    have rest := ((Part.modDet_moves (fun d => { d with midStamp := none, mix := [] }) (s.completed r h).retire).trans
      ((Part.handPlanned_moves _).trans (Part.holdEvent_moves _))).trans (Part.nextWindow_moves _)
    rw [Part.complete_eq found]
    exact retired.trans (retiring.image.trans order.image)
      (rest.moved (retiring.ordered (order.ordered o)) (retiring.launches (order.launches n)))

/-! ### Steps of stages and evaluations (R83 to R87) -/

theorem Part.takeStages_moves_awake (m : Method) {stages : List Stage} {s : Part}
    (awake : stages ≠ [] → s.windowAwake) : Moves s (s.takeStages m stages) := by
  unfold Part.takeStages
  split
  · exact .refl s
  · rename_i last present
    have wakes : s.windowAwake := awake (by rintro rfl; cases present)
    obtain ⟨marked, still⟩ := Part.foldl_takeStage_moves m stages wakes
    have planned : ∀ (g : Stage) (t : Part), Moves t ((t.planStep g).handPlanned).holdEvent := fun g t =>
      ((t.planStep_plan g).moves.trans (Part.handPlanned_moves _)).trans (Part.holdEvent_moves _)
    simp only
    split
    · exact marked.trans (Part.complete_moves still)
    · exact marked.trans (planned _ _)
    · exact marked.trans (planned _ _)

/-- Stages are taken on a window interface that is not CLEARED. -/
theorem Part.takeStages_moves (m : Method) {stages : List Stage} {s : Part} {r : BatchRecord} {h : HeadInterface}
    (found : s.windowHead = some (r, h)) (awake : stages ≠ [] → h.state ≠ .cleared) :
    Moves s (s.takeStages m stages) :=
  ⟨(s.takeStages_law m stages).toOrderFrame, fun o n =>
    (Part.takeStages_moves_awake m (fun some => Part.windowAwake_of o found (awake some))).moved o n⟩

theorem HeadInterface.volumeDue_awake {h : HeadInterface} (due : h.volumeDue ≠ []) : h.state ≠ .cleared := by
  intro cleared
  simp [HeadInterface.volumeDue, cleared] at due

theorem Detector.analyserDue_awake {make : Nat} {state : HeadState} {d : Detector}
    (due : d.analyserDue make state ≠ []) : state ≠ .cleared := by
  rintro rfl
  simp [Detector.analyserDue] at due

theorem Part.windowHead_congr {s t : Part} (train : t.train = s.train) (det : t.det = s.det) :
    t.windowHead = s.windowHead := by
  rw [Part.windowHead, train, det]; rfl

theorem Part.markOverdue_windowHead {s : Part} {r : BatchRecord} {h : HeadInterface} (again : Bool) (g : HeadInterface)
    (found : s.windowHead = some (r, h)) :
    (s.markOverdue again g).windowHead =
      some ({ r with head := some { h with overdue := true } }, { h with overdue := true }) := by
  have line := Part.raiseIf_line (!g.overdue || again) .interfaceOverdue
    (s.modWindow (fun x => { x with overdue := true }))
  exact (Part.windowHead_congr line.train line.det).trans (Part.modWindow_windowHead _ found)

theorem Part.evaluateWith_moves (fuel : Nat) (waited : Bool) (s : Part) : Moves s (s.evaluateWith fuel waited) := by
  induction fuel generalizing waited s with
  | zero => exact .refl s
  | succ n ih =>
    unfold Part.evaluateWith
    split
    · exact .refl s
    · rename_i r h found
      split
      · split
        · split
          · exact s.markOverdue_moves _ _
          · exact .refl s
        · have taken := Part.takeStages_moves .volume (stages := h.volumeDue) found HeadInterface.volumeDue_awake
          simp only
          split
          · exact taken.trans (ih _ _)
          · exact taken
      · split
        · rename_i due
          have marked := s.markOverdue_moves (waited && !s.degraded h) h
          have waits : h.state ≠ .cleared := by
            rcases due.1 with state | state <;> simp [state]
          simp only
          split
          · exact marked
          · exact (marked.trans (Part.takeStages_moves .late (Part.markOverdue_windowHead _ h found)
              (fun _ => waits))).trans (ih _ _)
        · exact .refl s

theorem Part.evaluate_moves (s : Part) : Moves s s.evaluate := s.evaluateWith_moves _ _

theorem Part.readinessReport_moves (s : Part) : Moves s s.readinessReport := by
  have chosen : ∀ ch, Moves s ((s.setChannel ch).zeroCounts).evaluate := fun ch =>
    ((s.setChannel_moves ch).trans (Part.modDet_moves _ _)).trans (Part.evaluate_moves _)
  unfold Part.readinessReport
  split
  · exact .refl s
  · split
    · simp only
      split
      · exact .refl s
      · exact chosen _
    · split
      · split
        · exact .refl s
        · exact chosen _
      · exact .refl s

theorem armedState_right (c : Config) (h : HeadInterface) :
    ({ h with leadRec := none, early := false, state := armedState c h } : HeadInterface).armedRight c := by
  intro _
  show armedState c h = .armed ↔ h.d ≤ (armingDistance c h : Int)
  unfold armedState
  split <;> simp [*]

/-- A withdrawal puts the window interface back to DISTANT or ARMED (R80). -/
theorem Part.withdraw_moves {s : Part} (awake : s.windowAwake) : Moves s s.withdraw := by
  have back : Moves s (s.modWindow (fun h =>
      { h with leadRec := none, early := false, state := armedState s.cfg h })) :=
    Part.modWindow_moves (fun r mem same x head => ⟨rfl,
      iff_of_false (armedState_awake s.cfg x).1 (awake r mem same x head), fun _ => armedState_right s.cfg x⟩)
  unfold Part.withdraw
  exact (back.trans ((Part.modDet_moves _ _).trans (Part.modDet_moves _ _))).trans
    (((Part.planWithdrawal_plan _).moves.trans (Part.handPlanned_moves _)).trans (Part.holdEvent_moves _))

theorem Part.takeReadings_moves (density marker : Option Int) (s : Part) :
    Moves s (s.takeReadings density marker) := by
  unfold Part.takeReadings
  split
  · rename_i r h refs found _
    simp only
    split
    · exact .refl s
    · rename_i v _
      have counted := s.modDet_moves (Detector.count s.cfg h.state refs v)
      have found' : (s.modDet (Detector.count s.cfg h.state refs v)).windowHead = some (r, h) := found
      split
      · rename_i mixing
        refine counted.trans ⟨(Part.withdraw_law _).toOrderFrame, fun o n => ?_⟩
        exact (Part.withdraw_moves (Part.windowAwake_of o found' (by simp [mixing.1]))).moved o n
      · have taken := counted.trans (Part.takeStages_moves .analyser (stages :=
          (s.modDet (Detector.count s.cfg h.state refs v)).det.analyserDue s.cfg.makeCount h.state) found'
          Detector.analyserDue_awake)
        split
        · exact taken.trans (Part.evaluate_moves _)
        · exact taken
  · exact .refl s

/-! ### The planner's and the guards' shares (R105, R106, R110, R136, R137) -/

theorem Part.limitTest_moves (s : Part) : Moves s s.limitTest := by
  unfold Part.limitTest
  split
  · split
    · exact (s.endOrder_plan _ _).moves.trans (Part.handPlanned_moves _)
    · exact .refl s
  · exact .refl s

theorem Part.guardEnd_moves (s : Part) : Moves s s.guardEnd := by
  unfold Part.guardEnd
  split
  · exact (s.endOrder_plan _ _).moves.trans (Part.handPlanned_moves _)
  · exact .refl s

/-- With no launch in the queue the cut test shows LAUNCH_QUEUE_EMPTY at most (R110). -/
theorem Part.cutTest_moves (s : Part) : Moves s s.cutTest := by
  refine ⟨s.cutTest_law.toOrderFrame, fun o n => ?_⟩
  unfold Part.cutTest
  rw [n.1]
  split
  · exact s.showEmpty_plan.moves.moved o n
  · exact (Moves.refl s).moved o n

theorem Part.plannerShare_moves (trunk : Nat) (s : Part) : Moves s (s.plannerShare trunk) := by
  unfold Part.plannerShare
  split
  · exact Moves.trans (Part.modPlanner_moves id) (Part.cutTest_moves _)
  · exact s.limitTest_moves

theorem Part.modChannel_moves (c : ChannelNo) (f : GuardChannel → GuardChannel) (s : Part) :
    Moves s (s.modChannel c f) := .of_train (s.modChannel_live c f).toOrderFrame rfl (.refl _) (fun _ => rfl)

theorem Part.driveContact_moves (c : ChannelNo) (s : Part) : Moves s (s.driveContact c) := by
  unfold Part.driveContact
  split
  · exact .of_train ⟨id, id, rfl⟩ rfl (.refl _) (fun _ => rfl)
  · exact .refl s

theorem Part.applyAction_moves (c : ChannelNo) (a : GuardAction) (s : Part) : Moves s (s.applyAction c a) := by
  unfold Part.applyAction
  split
  · exact .of_routed (s.overrideMade_routed _ _)
  · split
    · exact s.guardEnd_moves
    · exact .refl s

theorem Part.withdrawAction_moves (c : ChannelNo) (a : GuardAction) (s : Part) :
    Moves s (s.withdrawAction c a) := by
  unfold Part.withdrawAction
  split
  · exact .of_routed (s.overrideGone_routed _)
  · split
    · exact s.cutTest_moves
    · exact .refl s

theorem Part.guardMake_moves (c : ChannelNo) (s : Part) : Moves s (s.guardMake c) := by
  unfold Part.guardMake
  exact (((((s.modChannel_moves c _).trans (Part.writeRecord_plan _ _).moves).trans
    (Part.raise_moves _ _))).trans (Part.applyAction_moves c _ _)).trans (Part.driveContact_moves c _)

theorem Part.guardBreak_moves (event : GuardEvent) (c : ChannelNo) (s : Part) :
    Moves s (s.guardBreak event c) := by
  unfold Part.guardBreak
  exact (((s.modChannel_moves c _).trans (Part.writeRecord_plan _ _).moves).trans
    (Part.withdrawAction_moves c _ _)).trans (Part.driveContact_moves c _)

theorem Part.evaluateChannel_moves (e : Sample) (n : Counted) (taken s : Part) (c : ChannelNo) :
    Moves s (Part.evaluateChannel e n taken s c) := by
  unfold Part.evaluateChannel
  simp only
  split
  · split
    · rename_i v t _ _
      have seen := s.modChannel_moves c (GuardChannel.sample (s.guardConfig c) v t)
      split
      · exact seen.trans (Part.guardMake_moves c _)
      · split
        · exact seen.trans (Part.guardBreak_moves _ c _)
        · exact seen
    · exact .refl s
  · exact .refl s

theorem Part.evaluateGuards_moves (e : Sample) (n : Counted) (s : Part) : Moves s (s.evaluateGuards e n) :=
  Moves.foldl _ (fun t c => Part.evaluateChannel_moves e n s t c) _ s

theorem Part.detectorShare_moves (e : Sample) (n : Counted) (readiness moved : Bool) (s : Part) :
    Moves s (s.detectorShare e n readiness moved) := by
  unfold Part.detectorShare
  simp only
  have reported : Moves s (if readiness then s.readinessReport else s) := by
    split
    · exact s.readinessReport_moves
    · exact .refl s
  generalize (if readiness then s.readinessReport else s) = r at reported ⊢
  have handed : Moves s (if moved && decide (r.det.window = s.det.window) then r.evaluate else r) := by
    split
    · exact reported.trans r.evaluate_moves
    · exact reported
  generalize (if moved && decide (r.det.window = s.det.window) then r.evaluate else r) = q at handed ⊢
  split
  · exact handed.trans (q.takeReadings_moves _ _)
  · exact handed

end Sys2Proof.Machine
end

section
/-! SUPPORT. Own flow on a sample event (R51, R63, R64): the clamp as the lowest D of what is newer, the credit of the
delivery increment aside from the move, and what the rest of the event leaves of the moved train. -/

open Sys2Proof

namespace Sys2Proof.Machine

/-! ## The flow form of the clamp (R63) -/

theorem flowClamp_cons (r : BatchRecord) (rest : List BatchRecord) :
    flowClamp (r :: rest) = (match oldestD (flowClamp rest) with
      | some d => lowerTo d r
      | none => r) :: flowClamp rest := by
  simp only [flowClamp]
  split <;> simp [*]

theorem lowestOf_nil (d : Int) : lowestOf d [] = d := rfl

theorem lowestOf_cons_none {r : BatchRecord} (rest : List BatchRecord) (d : Int) (head : r.head = none) :
    lowestOf d (r :: rest) = lowestOf d rest := by
  simp [lowestOf, distances, head]

theorem lowestOf_cons_some {r : BatchRecord} {h : HeadInterface} (rest : List BatchRecord) (d : Int)
    (head : r.head = some h) : lowestOf d (r :: rest) = min h.d (lowestOf d rest) := by
  simp [lowestOf, distances, head]

theorem lowestOf_min (recs : List BatchRecord) (d e : Int) : lowestOf (min d e) recs = min d (lowestOf e recs) := by
  induction recs with
  | nil => rfl
  | cons r rest ih =>
    cases head : r.head with
    | none => rw [lowestOf_cons_none rest _ head, lowestOf_cons_none rest _ head, ih]
    | some h => rw [lowestOf_cons_some rest _ head, lowestOf_cons_some rest _ head, ih]; exact min_left_comm ..

theorem oldestD_cons_none {r : BatchRecord} (rest : List BatchRecord) (head : r.head = none) :
    oldestD (r :: rest) = oldestD rest := by
  simp [oldestD, head]

theorem oldestD_cons_some {r : BatchRecord} {h : HeadInterface} (rest : List BatchRecord) (head : r.head = some h) :
    oldestD (r :: rest) = some h.d := by
  simp [oldestD, head]

/-- After the flow form of the clamp the oldest head has the lowest D of all (R63). -/
theorem lowestOf_eq_oldestD (recs : List BatchRecord) (d : Int) :
    lowestOf d recs = (match oldestD (flowClamp recs) with
      | some e => min d e
      | none => d) := by
  induction recs with
  | nil => rfl
  | cons r rest ih =>
    rw [flowClamp_cons]
    cases head : r.head with
    | none =>
      rw [lowestOf_cons_none rest _ head, ih, oldestD_cons_none (flowClamp rest) ?_]
      split
      · simp [lowerTo, head]
      · exact head
    | some h =>
      rw [lowestOf_cons_some rest _ head, ih]
      cases oldest : oldestD (flowClamp rest) with
      | none => simp only [oldestD_cons_some _ head]; exact min_comm ..
      | some e =>
        have lowered : (lowerTo e r).head = some (if e < h.d then clampHead e h else h) := by simp [lowerTo, head]
        simp only [oldestD_cons_some _ lowered]
        split
        · rename_i below
          exact min_eq_right ((min_le_right d e).trans below.le)
        · rename_i above
          show min h.d (min d e) = min d h.d
          rw [min_left_comm, min_eq_left (not_lt.mp above)]

theorem flowClamp_cons_none {r : BatchRecord} (newer : List BatchRecord) (head : r.head = none) :
    flowClamp (r :: newer) = r :: flowClamp newer := by
  have still : ∀ d, lowerTo d r = r := fun d => by
    cases r
    simp_all [lowerTo]
  rw [flowClamp_cons]
  split
  · rw [still]
  · rfl

theorem flowClamp_cons_some {r : BatchRecord} {h : HeadInterface} (newer : List BatchRecord) (head : r.head = some h) :
    flowClamp (r :: newer) =
      { r with head := some (if lowestOf h.d newer < h.d then { h with d := lowestOf h.d newer, clamped := true }
                             else h) } :: flowClamp newer := by
  rw [flowClamp_cons, lowestOf_eq_oldestD]
  cases oldestD (flowClamp newer) with
  | none =>
    cases r
    simp_all
  | some e =>
    congr 1
    simp only [lowerTo, head, Option.map_some]
    congr 2
    by_cases below : e < h.d
    · rw [if_pos below, if_pos (by omega), min_eq_right below.le]
      rfl
    · rw [if_neg below, if_neg (by omega)]

/-! ## The move and the credit (R51, R3) -/

/-- A record with an addition to its delivered-here. -/
def BatchRecord.credit (n : BitVec 32) (r : BatchRecord) : BatchRecord := { r with delivered := r.delivered + n }

/-- A train with an addition to the delivered-here of one batch, if there is one. -/
def creditBatch (b : Option BatchNo) (n : BitVec 32) (r : BatchRecord) : BatchRecord :=
  r.credit (if b = some r.batch then n else 0)

theorem flowClamp_map_creditBatch (b : Option BatchNo) (n : BitVec 32) (recs : List BatchRecord) :
    flowClamp (recs.map (creditBatch b n)) = (flowClamp recs).map (creditBatch b n) := by
  have oldest : ∀ l : List BatchRecord, oldestD (l.map (creditBatch b n)) = oldestD l := by
    intro l
    simp only [oldestD, List.findSome?_map]
    rfl
  induction recs with
  | nil => rfl
  | cons r rest ih =>
    rw [List.map_cons, flowClamp_cons, flowClamp_cons, ih, oldest, List.map_cons]
    congr 1
    split <;> rfl

theorem ownFlow_map_creditBatch (role : Role) (arrival trunk : Nat) (b : Option BatchNo) (n : BitVec 32)
    (recs : List BatchRecord) :
    ownFlow role arrival trunk (recs.map (creditBatch b n)) =
      (ownFlow role arrival trunk recs).map (creditBatch b n) := by
  simp only [ownFlow, List.map_map]
  rfl

theorem Part.creditDelivered_records (n : Nat) (s : Part) :
    (s.creditDelivered n).train.records =
      s.train.records.map (creditBatch (s.atMeter.map BatchRecord.batch) (BitVec.ofNat 32 n)) := by
  unfold Part.creditDelivered
  cases s.atMeter with
  | none =>
    refine (List.map_id s.train.records).symm.trans (List.map_congr_left fun r _ => ?_)
    simp [creditBatch, BatchRecord.credit]
  | some x =>
    refine List.map_congr_left fun r _ => ?_
    by_cases same : r.batch = x.batch
    · simp [creditBatch, BatchRecord.credit, same]
    · simp [creditBatch, BatchRecord.credit, same, Ne.symm same]

theorem flowHead_eq (role : Role) (arrival trunk : Nat) (h : HeadInterface) :
    flowHead role arrival trunk h =
      { h with d := if h.state ≠ .cleared then holdD (h.d - arrival)
                    else if role = .end_ then h.d else holdD (h.d - trunk) } := by
  unfold flowHead moveHead
  by_cases cleared : h.state = .cleared
  · rw [if_pos cleared, if_neg (not_not.mpr cleared)]
    split
    · rfl
    · rw [Int.sub_eq_add_neg]
  · rw [if_neg cleared, if_pos cleared, Int.sub_eq_add_neg]

/-- The train that own flow leaves, before arming and but for the credit (R51, R63). -/
def Part.flowed (arrival trunk : Nat) (s : Part) : List BatchRecord :=
  flowClamp (ownFlow s.cfg.role arrival trunk s.train.records)

theorem Part.flowed_eq (arrival trunk : Nat) (s : Part) :
    s.flowed arrival trunk = flowClamp (s.train.records.map (fun r =>
      { r with head := r.head.map (fun h =>
          { h with d := if h.state ≠ .cleared then holdD (h.d - arrival)
                        else if s.cfg.role = .end_ then h.d else holdD (h.d - trunk) }) })) := by
  rw [Part.flowed, ownFlow, funext (flowHead_eq s.cfg.role arrival trunk)]

theorem armHead_keeps (c : Config) (h : HeadInterface) :
    (armHead c h).place = h.place ∧ ((armHead c h).state = .cleared ↔ h.state = .cleared) ∧
      (armHead c h).armedRight c := by
  have right : (armedState c h = .armed ↔ h.d ≤ (armingDistance c h : Int)) := by
    unfold armedState
    split <;> simp [*]
  have waits : armedState c h ≠ .cleared := (armedState_awake c h).1
  cases state : h.state with
  | distant =>
    refine ⟨by simp [armHead, state, HeadInterface.place], by simp [armHead, state, waits], fun _ => ?_⟩
    simpa [armHead, state, armingDistance] using right
  | armed =>
    refine ⟨by simp [armHead, state, HeadInterface.place], by simp [armHead, state, waits], fun _ => ?_⟩
    simpa [armHead, state, armingDistance] using right
  | inMix => simp [armHead, state, HeadInterface.armedRight]
  | pastMid => simp [armHead, state, HeadInterface.armedRight]
  | cleared => simp [armHead, state, HeadInterface.armedRight]

/-- A record with its head's arming evaluated (R61). -/
def BatchRecord.arm (c : Config) (r : BatchRecord) : BatchRecord := { r with head := r.head.map (armHead c) }

theorem armTrain_eq (c : Config) (recs : List BatchRecord) : armTrain c recs = recs.map (BatchRecord.arm c) := rfl

theorem BatchRecord.arm_facts (c : Config) (r : BatchRecord) :
    (r.arm c).placing = r.placing ∧ (r.arm c).headCleared = r.headCleared ∧
      ∀ h, (r.arm c).head = some h → h.armedRight c := by
  cases head : r.head with
  | none => simp [BatchRecord.arm, BatchRecord.placing_eq, BatchRecord.headCleared, head]
  | some x =>
    obtain ⟨place, cleared, right⟩ := armHead_keeps c x
    refine ⟨?_, ?_, fun h hh => ?_⟩
    · simp [BatchRecord.arm, BatchRecord.placing_eq, head, place]
    · simp [BatchRecord.arm, BatchRecord.headCleared, head, cleared]
    · simp only [BatchRecord.arm, head, Option.map_some, Option.some.injEq] at hh
      exact hh ▸ right

/-- A record of the moved train with the credit and its arming. -/
def BatchRecord.finish (c : Config) (b : Option BatchNo) (n : BitVec 32) (r : BatchRecord) : BatchRecord :=
  (creditBatch b n r).arm c

theorem BatchRecord.finish_facts (c : Config) (b : Option BatchNo) (n : BitVec 32) (r : BatchRecord) :
    (r.finish c b n).placing = r.placing ∧ (r.finish c b n).headCleared = r.headCleared ∧
      ∀ h, (r.finish c b n).head = some h → h.armedRight c := (creditBatch b n r).arm_facts c

/-! ## The sample event (R21, R41, R51) -/

/-- The part as the instrument interface has taken a set and told the detector of a loss (R21, R28). -/
def Part.setTaken (set : SampleSet) (s : Part) : Part :=
  (s.modInst (Instruments.takeSet s.cfg set)).reportLoss s.inst

theorem Part.setTaken_line (set : SampleSet) (s : Part) :
    LineFrame (s.modInst (Instruments.takeSet s.cfg set)) (s.setTaken set) := Part.reportLoss_line _ _

theorem Part.reportLoss_peer (i : Instruments) (s : Part) : (s.reportLoss i).peer = s.peer := by
  have still : ∀ c a, (s.raiseIf c a).peer = s.peer := fun c a => by cases c <;> rfl
  unfold Part.reportLoss
  split
  · split
    · exact still _ _
    · rfl
  · rfl

theorem Part.atMeter_congr {s t : Part} (train : t.train = s.train) (det : t.det = s.det) :
    t.atMeter = s.atMeter := by
  rw [Part.atMeter, Part.windowHead_congr train det, train]
  rfl

theorem Part.counted_congr {s t : Part} (train : t.train = s.train) (det : t.det = s.det) (vol : t.vol = s.vol)
    (image : t.image = s.image) (e : Sample) : t.counted e = s.counted e := by
  have cfg : t.cfg = s.cfg := by rw [Part.cfg, image]; rfl
  have product : t.meterProduct = s.meterProduct := by
    rw [Part.meterProduct, Part.atMeter_congr train det]; rfl
  simp only [Part.counted, Part.countTrunk, Part.countDelivery, cfg, product, vol]

/-- What the volume unit counts of the set taken is what the set counts in the part before it. -/
theorem Part.setTaken_counted (set : SampleSet) (s : Part) :
    (s.setTaken set).counted (sampleOf set s.inst (s.setTaken set).inst) = s.countOf set := by
  have line := s.setTaken_line set
  rw [Part.counted_congr (s := s) line.train line.det line.vol line.image, line.inst]
  rfl

theorem Part.countOf_elapse (dt : Nat) (set : SampleSet) (s : Part) : (s.elapse dt).countOf set = s.countOf set :=
  Part.counted_congr (s := s) (t := s.elapse dt) rfl rfl rfl rfl (s.eventOf set)

/-- The part as the volume unit has counted the set and own flow has moved, clamped and armed the train. -/
def Part.flowMoved (set : SampleSet) (s : Part) : Part :=
  ((s.setTaken set).countVolume (sampleOf set s.inst (s.setTaken set).inst)).mapTrain (fun recs =>
    armTrain ((s.setTaken set).countVolume (sampleOf set s.inst (s.setTaken set).inst)).cfg
      (flowClamp (ownFlow ((s.setTaken set).countVolume (sampleOf set s.inst (s.setTaken set).inst)).cfg.role
        (s.countOf set).arrival (s.countOf set).trunk recs)))

theorem Part.countVolume_image (e : Sample) (s : Part) : (s.countVolume e).image = s.image :=
  (s.countVolume_live e).image

theorem Part.creditMixList_train (n : Nat) (s : Part) : (s.creditMixList n).train = s.train := by
  unfold Part.creditMixList
  split
  · split <;> rfl
  · rfl

theorem Part.creditMixList_peer (n : Nat) (s : Part) : (s.creditMixList n).peer = s.peer := by
  unfold Part.creditMixList
  split
  · split <;> rfl
  · rfl

theorem Part.creditDelivered_peer (n : Nat) (s : Part) : (s.creditDelivered n).peer = s.peer := by
  unfold Part.creditDelivered
  split <;> rfl

theorem Part.creditDelivered_horizon (n : Nat) (s : Part) :
    (s.creditDelivered n).train.horizon = s.train.horizon := by
  unfold Part.creditDelivered
  split <;> rfl

/-- The train that own flow leaves is the moved train with the credit and its arming, and the rest stands. -/
theorem Part.flowMoved_facts (set : SampleSet) (s : Part) :
    (s.flowMoved set).train.records = (s.flowed (s.countOf set).arrival (s.countOf set).trunk).map
      (BatchRecord.finish s.cfg (s.atMeter.map BatchRecord.batch) (BitVec.ofNat 32 (s.countOf set).delivery)) ∧
      (s.flowMoved set).train.horizon = s.train.horizon ∧ (s.flowMoved set).peer = s.peer ∧
      OrderFrame s (s.flowMoved set) := by
  set e := sampleOf set s.inst (s.setTaken set).inst with he
  have line := s.setTaken_line set
  have counted : (s.setTaken set).counted e = s.countOf set := s.setTaken_counted set
  have train : ((s.setTaken set).countVolume e).train =
      (Part.creditDelivered (s.countOf set).delivery
        { s.setTaken set with vol := (s.setTaken set).volumeAfter e }).train := by
    rw [← counted]
    exact Part.creditMixList_train _ _
  have meter : Part.atMeter { s.setTaken set with vol := (s.setTaken set).volumeAfter e } = s.atMeter :=
    Part.atMeter_congr line.train line.det
  have cfg : ((s.setTaken set).countVolume e).cfg = s.cfg := by
    rw [Part.cfg, Part.countVolume_image, line.image]; rfl
  refine ⟨?_, ?_, ?_, ?_⟩
  · show armTrain _ (flowClamp (ownFlow _ _ _ _)) = _
    rw [train, Part.creditDelivered_records, meter, cfg, ownFlow_map_creditBatch, flowClamp_map_creditBatch, armTrain,
      List.map_map]
    show List.map _ (flowClamp (ownFlow _ _ _ (s.setTaken set).train.records)) = _
    rw [line.train]
    rfl
  · show ((s.setTaken set).countVolume e).train.horizon = _
    rw [train, Part.creditDelivered_horizon]
    exact congrArg TrainStore.horizon line.train
  · show ((s.setTaken set).countVolume e).peer = _
    unfold Part.countVolume
    rw [Part.creditMixList_peer, Part.creditDelivered_peer]
    exact Part.reportLoss_peer _ _
  · exact ((((s.modInst_live _).trans line.live).trans (Part.countVolume_live e _)).trans
      (Part.moved_live (flowHead_sameLife _ (s.countOf set).arrival (s.countOf set).trunk) _)).toOrderFrame

/-- The part as own flow has also retired records, and the reassembly buffer has moved (R15, R163). -/
def Part.flowRetired (set : SampleSet) (s : Part) : Part :=
  ((s.flowMoved set).retire.handPlanned).countDown (s.countOf set).arrival

/-- The blocks after own flow, in their order (R41, R83). -/
def Part.afterFlow (e : Sample) (n : Counted) (readiness : Bool) (before : Option Int) (s : Part) : Part :=
  (((s.plannerShare n.trunk).detectorShare e n readiness
    (decide ((s.plannerShare n.trunk).windowD ≠ before))).evaluateGuards e n).followRoute

theorem Part.afterFlow_moves (e : Sample) (n : Counted) (readiness : Bool) (before : Option Int) (s : Part) :
    Moves s (s.afterFlow e n readiness before) := by
  unfold Part.afterFlow
  exact (((Part.plannerShare_moves _ _).trans (Part.detectorShare_moves _ _ _ _ _)).trans
    (Part.evaluateGuards_moves _ _ _)).trans (Part.followRoute_outlet_frame _).moves

theorem Part.sampleEvent_eq (set : SampleSet) (s : Part) :
    s.sampleEvent set = (s.flowRetired set).afterFlow (sampleOf set s.inst (s.setTaken set).inst) (s.countOf set)
      (readinessDiffers s.inst (s.setTaken set).inst) (s.setTaken set).windowD := by
  rw [Part.flowRetired, Part.flowMoved, ← s.setTaken_counted set]
  rfl

/-- What a sample event leaves of the moved train, and of the peers. -/
theorem Part.sampleEvent_moved (set : SampleSet) {s : Part} (o : s.ordered) (n : s.noLaunch) :
    Shifted (s.flowMoved set) (s.sampleEvent set) ∧ (s.sampleEvent set).settled ∧
      (s.peer.phase ≠ .waitingSent → (s.sampleEvent set).peer.buffer =
        s.peer.buffer.map (fun e => { e with d := holdD (e.d - (s.countOf set).arrival) })) := by
  obtain ⟨-, -, peer, order⟩ := s.flowMoved_facts set
  rw [Part.sampleEvent_eq]
  unfold Part.flowRetired
  generalize sampleOf set s.inst (s.setTaken set).inst = e
  generalize readinessDiffers s.inst (s.setTaken set).inst = r
  generalize (s.setTaken set).windowD = d
  generalize s.flowMoved set = m at peer order ⊢
  have retiring := m.retire_moves.trans (Part.handPlanned_moves _)
  have retired := retiring.moved (order.ordered o) (order.launches n)
  have frame := retiring.toOrderFrame
  have settled : m.retire.handPlanned.settled := ((Part.handPlanned_moves m.retire).moved
    (m.retire_live.ordered (order.ordered o)) (m.retire_live.launches (order.launches n))).settled
    (Part.retire_settled (order.ordered o) (order.launches n))
  have counted : Shifted m (m.retire.handPlanned.countDown (s.countOf set).arrival) :=
    ⟨retired.train, retired.armed, retired.records⟩
  have image : (m.retire.handPlanned.countDown (s.countOf set).arrival).image = m.image := frame.image
  have rest := (Part.afterFlow_moves e (s.countOf set) r d (m.retire.handPlanned.countDown (s.countOf set).arrival)).moved
    (frame.ordered (order.ordered o)) (frame.launches (order.launches n))
  refine ⟨counted.trans image rest.toShifted, rest.settled settled, fun idle => ?_⟩
  have same : m.retire.handPlanned.peer = s.peer := (retired.peer (by rwa [peer])).trans peer
  rw [rest.peer (by show m.retire.handPlanned.peer.phase ≠ _; rwa [same])]
  show m.retire.handPlanned.peer.buffer.map _ = _
  rw [same]

/-! ## The shape of the statements (R15, R16) -/

theorem Retreats.batches {shown : BatchNo → Prop} {keep k : Nat} {before after : List BatchRecord}
    (h : Retreats shown keep k before after) :
    after.map BatchRecord.batch = (before.map BatchRecord.batch).drop k := by
  refine List.ext_getElem? fun i => ?_
  rw [List.getElem?_map, List.getElem?_drop, List.getElem?_map]
  cases found : after[i]? with
  | none =>
    have := h.length
    rw [List.getElem?_eq_none (by rw [List.getElem?_eq_none_iff] at found; omega)]
  | some r =>
    obtain ⟨m, was, stays, -⟩ := h.stays i r found
    rw [show k + i = i + k by omega, was]
    exact congrArg some stays.batch

theorem Retreats.retiredOf {keep k : Nat} {before after : List BatchRecord} {t : Part}
    (h : Retreats t.shows keep k before after) : t.retiredOf before k keep := h.retired

theorem Part.settled.beyond {s : Part} (h : s.settled) {x y : BatchRecord} {rest : List BatchRecord}
    {g : HeadInterface} (eq : s.train.records = x :: y :: rest) (departed : x.status = .departed)
    (head : y.head = some g) (cleared : g.state = .cleared) : -(s.keepBehind : Int) ≤ g.d := by
  by_contra below
  have gone := retires_iff.mpr ⟨departed, g, head, cleared, not_le.mp below⟩
  rw [h x y rest eq] at gone
  cases gone

/-- What R15 has retired of a train it has retired of another that stands in the same places with the same statuses. -/
theorem retiredOf_map {t : Part} {f : BatchRecord → BatchRecord} {recs : List BatchRecord} {k keep : Nat}
    (placing : ∀ r, (f r).placing = r.placing) (cleared : ∀ r, (f r).headCleared = r.headCleared)
    (batch : ∀ r, (f r).batch = r.batch) (status : ∀ r, (f r).status = r.status)
    (h : t.retiredOf (recs.map f) k keep) : t.retiredOf recs k keep := by
  intro i lt
  obtain ⟨r, n, g, hr, hn, head, below, departs, shown⟩ := h i lt
  rw [List.getElem?_map] at hr hn
  obtain ⟨r', hr', rfl⟩ := Option.map_eq_some_iff.mp hr
  obtain ⟨n', hn', rfl⟩ := Option.map_eq_some_iff.mp hn
  obtain ⟨g', head', place⟩ := place_of_placing (placing n') head
  have d : g.d = g'.d := congrArg (fun p => p.2.1) place
  have same : g'.state = .cleared ↔ g.state = .cleared := by
    have := cleared n'
    rw [BatchRecord.headCleared_of head, BatchRecord.headCleared_of head'] at this
    simpa using this.symm
  refine ⟨r', n', g', hr', hn', head', d ▸ below, fun was => ?_, fun awake => ?_⟩
  · exact (status r').symm.trans (departs (same.mp was))
  · rw [← batch n']
    exact shown (same.not.mp awake)

/-- The records after a sample event, from those that own flow leaves. -/
theorem Part.sampleEvent_records (set : SampleSet) {s : Part} (o : s.ordered) (n : s.noLaunch) {r : BatchRecord}
    (mem : r ∈ (s.sampleEvent set).train.records) :
    ∃ m ∈ s.flowed (s.countOf set).arrival (s.countOf set).trunk, r.batch = m.batch ∧ r.placing = m.placing ∧
      r.delivered = m.delivered + (if s.atMeter.map BatchRecord.batch = some r.batch then
        BitVec.ofNat 32 (s.countOf set).delivery else 0) := by
  obtain ⟨⟨⟨k, retreats, -⟩, -, -⟩, -, -⟩ := Part.sampleEvent_moved set o n
  obtain ⟨records, -⟩ := s.flowMoved_facts set
  obtain ⟨i, found⟩ := List.mem_iff_getElem?.mp mem
  obtain ⟨x, was, stays, -⟩ := retreats.stays i r found
  rw [records, List.getElem?_map] at was
  obtain ⟨m, here, rfl⟩ := Option.map_eq_some_iff.mp was
  have batch : r.batch = m.batch := stays.batch
  refine ⟨m, List.mem_of_getElem? here, batch, stays.placing.trans (m.finish_facts _ _ _).1, ?_⟩
  rw [batch]
  exact stays.delivered

/-- After a sample event the heads that wait are DISTANT or ARMED as R61 gives. -/
theorem Part.sampleEvent_armed (set : SampleSet) {s : Part} (o : s.ordered) (n : s.noLaunch) :
    (s.sampleEvent set).armedRight := by
  obtain ⟨⟨-, armed, -⟩, -, -⟩ := Part.sampleEvent_moved set o n
  obtain ⟨records, -, -, order⟩ := s.flowMoved_facts set
  refine armed fun r mem h head => ?_
  rw [records] at mem
  obtain ⟨m, -, rfl⟩ := List.mem_map.mp mem
  rw [Part.cfg, order.image]
  exact (m.finish_facts s.cfg _ _).2.2 h head

/-- What R15 retires on a sample event, of the train that own flow leaves (R15, R16). -/
theorem Part.sampleEvent_retires (set : SampleSet) {s : Part} (o : s.ordered) (n : s.noLaunch) :
    ∃ k, (s.sampleEvent set).train.records.map BatchRecord.batch = s.batches.drop k ∧
      (s.sampleEvent set).train.horizon = (if k = 0 then s.train.horizon else s.batches[k - 1]?) ∧
      (s.sampleEvent set).retiredOf (s.flowed (s.countOf set).arrival (s.countOf set).trunk) k s.keepBehind := by
  obtain ⟨⟨⟨k, retreats, newest⟩, -, -⟩, -, -⟩ := Part.sampleEvent_moved set o n
  obtain ⟨records, horizon, -, order⟩ := s.flowMoved_facts set
  have batches : (s.flowMoved set).train.records.map BatchRecord.batch = s.batches := by
    rw [records, map_batch_map (by intro; rfl), Part.flowed, flowClamp_batches]
    exact map_batch_map (by intro; rfl) _
  refine ⟨k, batches ▸ retreats.batches, ?_, ?_⟩
  · rw [newest, horizon, ← batches, List.getElem?_map]
  · rw [records, Part.keepBehind_of_image order.image] at retreats
    exact retiredOf_map (fun r => (r.finish_facts _ _ _).1) (fun r => (r.finish_facts _ _ _).2.1) (fun _ => rfl)
      (fun _ => rfl) retreats.retiredOf

end Sys2Proof.Machine

open Sys2Proof.Machine

/-- Settles O28: own flow moves the train, and every block after it leaves the records in their places but for what R15
retires. -/
theorem ownFlowMovesTrain : Obligations.OwnFlowMovesTrain := by
  refine ⟨fun r newer => ⟨flowClamp_cons_none newer, fun h head => flowClamp_cons_some newer head⟩,
    fun s dt set samples => ?_⟩
  obtain ⟨run, transfer, law, launches, incoming⟩ := samples
  have inTrain : (s.part.elapse dt).ordered := ((Part.trainLaw_iff _).mp law).1
  have none : (s.part.elapse dt).noLaunch := ⟨launches, incoming⟩
  have executed : exec (.sampleEvent dt set) s = .next { s with part := (s.part.elapse dt).sampleEvent set } := by
    show s.run dt (Part.whileRunning (Part.transferCompletes set)) = _
    have running : (s.part.elapse dt).running = true := run
    have opened : (s.part.elapse dt).inst.transferOpen = true := transfer
    rw [State.run, Part.whileRunning, if_pos running, Part.transferCompletes, if_pos opened]
  have counted : (s.part.elapse dt).countOf set = s.part.countOf set := Part.countOf_elapse dt set s.part
  have meter : (s.part.elapse dt).atMeter = s.part.atMeter := Part.atMeter_congr rfl rfl
  obtain ⟨-, settled, buffer⟩ := Part.sampleEvent_moved set inTrain none
  obtain ⟨k, batches, horizon, retired⟩ := Part.sampleEvent_retires set inTrain none
  have image : ((s.part.elapse dt).sampleEvent set).image = s.part.image :=
    ((s.part.elapse dt).sampleEvent_law set).image
  have armed := Part.sampleEvent_armed set inTrain none
  have places := fun r => Part.sampleEvent_records set inTrain none (r := r)
  rw [Part.flowed_eq, counted] at retired
  rw [counted] at buffer
  simp only [Part.flowed_eq, counted, meter] at places
  generalize (s.part.elapse dt).sampleEvent set = t at *
  refine ⟨_, k, executed, batches, horizon, retired, fun x y rest h eq departed head cleared => ?_, buffer,
    fun r mem => ?_, fun r mem h head waits => ?_⟩
  · have beyond := settled.beyond eq departed head cleared
    rwa [Part.keepBehind_of_image image] at beyond
  · obtain ⟨m, here, batch, placing, delivered⟩ := places r mem
    refine ⟨m, here, batch.symm, congrArg (fun p => p.1) placing, congrArg (fun p => p.2.1) placing, ?_, delivered⟩
    have heads := congrArg (fun p => p.2.2.map (fun q => (q.2.1, q.2.2.1, q.2.2.2.1, q.2.2.2.2.1, q.2.2.2.2.2.2.2))) placing
    simpa [BatchRecord.placing_eq, HeadInterface.place, Function.comp_def] using heads
  · have right := armed r mem h head waits
    rwa [Part.cfg, image] at right
end

section
/-! SUPPORT. A counterexample to the insertion that a LAUNCH and a TRAIN REPORT are said to make (R7, R10, R13). -/

open Sys2Proof

namespace Sys2Proof.Machine

/-! ## Insertion into an empty train

`Part.insertedInto` reads `t.placedAs (trainAround …) s` with `t` the part after the notice and `s` the part before
it. The dot puts `t` in the place of the first part of `Part.placedAs`, whose train its body speaks of as the one
before, so the train that held no such record yet is what is required to stand as placed. A train that was empty never
does: its one placed record would have to be retired, and R15 retires a record only behind a newer one. -/

/-- No record of a train of one retires: R15 asks for a newer head. -/
theorem Part.not_retiredOf_single {r : BatchRecord} {k keep : Nat} {t : Part} (pos : 0 < k) :
    ¬ t.retiredOf [r] k keep := by
  intro retired
  obtain ⟨_, n, _, _, newer, _⟩ := retired 0 pos
  exact absurd newer (by simp)

/-- A train with one place stands as placed only where it holds that record. -/
theorem Part.placedAs_single {r : BatchRecord} {s t : Part} (placed : s.placedAs [r] t) :
    t.train.records.map BatchRecord.batch = [r.batch] := by
  obtain ⟨⟨k, batches, _, retired, _⟩, _⟩ := placed
  have zero : k = 0 := Nat.eq_zero_of_not_pos fun pos => Part.not_retiredOf_single pos retired
  simpa [zero] using batches

/-- What `Part.insertedInto` requires is false of every part before the notice whose train is empty. -/
theorem Part.not_insertedInto_of_empty {r : BatchRecord} {h : HeadInterface} {s t : Part}
    (empty : s.train.records = []) : ¬ s.insertedInto r h t := by
  intro inserted
  obtain ⟨placed, _⟩ := inserted [] [] (by simp [empty]) (by simp) (by simp)
  have holds := Part.placedAs_single (r := { r with head := some h }) placed
  exact absurd holds (by simp [empty])

/-! ## A station with an empty train that hears its peer -/

/-- A TERMINAL at 1,000 dal in RUNNING, its train empty, which awaits the report of a sync from station 5 and has a
notice of that station waiting. -/
def hearing (body : Body) : State :=
  { part :=
      { Part.reset with
        image :=
          { ImageStore.blank with
            state := .running
            config := some { Config.nothingFitted with
              station := 9, role := .terminal, chainage := 1000, listening := 0x10 } }
        peer :=
          { Part.reset.peer with
            table := [newPeer 5 500], phase := .awaiting 1000000, syncStation := some 5 }
        bus := { Part.reset.bus with inbound := [{ source := 5, chainage := 500, body := body }] } }
    pending := [] }

theorem hearing_knows (body : Body) :
    (hearing body).part.knows { source := 5, chainage := 500, body := body } (newPeer 5 500) :=
  ⟨rfl, rfl⟩

/-- The laws that the insertion may assume hold of the station. -/
theorem hearing_laws (body : Body) : (hearing body).part.trainLaw ∧ (hearing body).part.windowLaw := by
  obtain ⟨train, window⟩ := laws_of_empty (s := (hearing body).part) rfl ⟨rfl, rfl⟩
  exact ⟨train, window rfl⟩

/-- The station has room for any batch number. -/
theorem hearing_room (body : Body) (batch : BatchNo) : (hearing body).part.admission batch = .room := rfl

/-- A report entry of batch 101 with its head DISTANT 450 dal upstream of station 5. -/
def distantEntry : ReportEntry :=
  { batch := 101, product := 3, leading := 2, d := 450, w := 60, u := 20, nominated := 0, state := .head .distant }

/-- The LAUNCH of batch 101 at an ORIGIN. -/
def launchOf101 : Body := .launch 101 3 100 2 0 50 200

/-- The report of that entry alone, FIRST and LAST, under this station's key. -/
def reportOf101 : Body := .report true true 9 0 1 [distantEntry]

end Sys2Proof.Machine

open Sys2Proof.Machine

/-- Refutes O41: a LAUNCH of batch 101 is admitted with room at a TERMINAL whose train is empty, and the statement's
`insertedInto`, which hands `placedAs` the parts before and after in exchanged places, then asks that the empty train
before the notice already stand as placed. -/
theorem not_launchNoticeInserts : ¬ Obligations.LaunchNoticeInserts := by
  unfold Obligations.LaunchNoticeInserts
  intro holds
  obtain ⟨train, window⟩ := hearing_laws launchOf101
  obtain ⟨t, -, -, -, -, -, -, inserts⟩ :=
    holds (hearing launchOf101) 0 _ [] (newPeer 5 500) 101 3 100 2 0 50 200 rfl rfl (hearing_knows launchOf101) rfl
  exact Part.not_insertedInto_of_empty rfl
    (inserts (by decide) (hearing_room launchOf101 101) train window)

/-- Refutes O46: a TRAIN REPORT of the one entry of batch 101 fails no row of R162's table at a TERMINAL whose train is
empty, and the same exchange in `insertedInto` asks that the empty train before the report already stand as placed. -/
theorem not_trainReportSegmentTaken : ¬ Obligations.TrainReportSegmentTaken := by
  unfold Obligations.TrainReportSegmentTaken
  intro holds
  obtain ⟨train, window⟩ := hearing_laws reportOf101
  obtain ⟨t, -, -, -, segment⟩ :=
    holds (hearing reportOf101) 0 _ [] (newPeer 5 500) true true 9 0 1 [distantEntry] rfl rfl
      (hearing_knows reportOf101) rfl
  obtain ⟨-, -, -, merged⟩ := segment 1000000 (.inl rfl) rfl
  obtain ⟨-, -, -, -, entry⟩ := merged ⟨rfl, rfl⟩ rfl rfl
  obtain ⟨-, -, brought⟩ := entry _ rfl
  obtain ⟨-, -, -, room⟩ := brought (by decide) (by decide)
  obtain ⟨-, inserted⟩ := room (hearing_room reportOf101 101) train window
  exact Part.not_insertedInto_of_empty rfl inserted
end

section
/-! SUPPORT. Sampling (chapter 2): an event in RUNNING and outside it, a sample request that falls due, and the
instrument interface over a whole sample event. -/

open Sys2Proof

namespace Sys2Proof.Machine

/-! ## Events in RUNNING and outside it (5.8) -/

theorem State.run_running {f : Part → Part} {s : State} (dt : Nat) (run : s.part.running = true) :
    s.run dt (Part.whileRunning f) = .next { s with part := f (s.part.elapse dt) } := by
  rw [State.run, Part.whileRunning, if_pos (by simpa using run)]

theorem State.run_stopped {f : Part → Part} {s : State} (dt : Nat) (stopped : s.part.running = false) :
    s.run dt (Part.whileRunning f) = .next { s with part := s.part.elapse dt } := by
  rw [State.run, Part.whileRunning, if_neg (by simp [stopped])]

/-! ## A missed set (R23, R24) -/

/-- The part as the fourth missed set in a row has taken READY from both analysers and told the detector of a loss
(R24, R28). -/
def Part.readyDropped (s : Part) : Part :=
  (((s.modInst Instruments.countMissed).modInst Instruments.dropReady).raise .sampleMissed).reportLoss
    s.inst.countMissed

theorem Part.readyDropped_line (s : Part) :
    LineFrame (((s.modInst Instruments.countMissed).modInst Instruments.dropReady).raise .sampleMissed)
      s.readyDropped := Part.reportLoss_line _ _

theorem Part.missedSet_fourth {s : Part} (fourth : hold16 (s.inst.missedRun + 1) = 4) :
    s.missedSet = if readinessDiffers s.inst.countMissed s.readyDropped.inst then s.readyDropped.readinessReport
      else s.readyDropped := if_pos fourth

theorem Part.missedSet_other {s : Part} (other : hold16 (s.inst.missedRun + 1) ≠ 4) :
    s.missedSet = (s.modInst Instruments.countMissed).raiseIf (decide (4 < hold16 (s.inst.missedRun + 1)))
      .sampleMissed := if_neg other

/-- The report of readiness that may follow a fourth missed set. -/
theorem Part.missedSet_fourth_stage {s : Part} (fourth : hold16 (s.inst.missedRun + 1) = 4) :
    StageFrame s.readyDropped s.missedSet := by
  rw [Part.missedSet_fourth fourth]
  split
  · exact Part.readinessReport_stage _
  · exact .refl _

theorem Part.missedSet_inst (s : Part) :
    s.missedSet.inst = if hold16 (s.inst.missedRun + 1) = 4 then s.inst.countMissed.dropReady
      else s.inst.countMissed := by
  split
  · rename_i fourth
    exact (Part.missedSet_fourth_stage fourth).inst.trans s.readyDropped_line.inst
  · rename_i other
    rw [Part.missedSet_other other]
    exact (Part.raiseIf_line _ _ _).inst

/-- SAMPLE_MISSED is set from the fourth missed set in a row on (R24). -/
theorem Part.missedSet_alarm (s : Part) :
    s.missedSet.port.alarmSet .sampleMissed =
      (s.port.alarmSet .sampleMissed || decide (4 ≤ hold16 (s.inst.missedRun + 1))) := by
  by_cases fourth : hold16 (s.inst.missedRun + 1) = 4
  · rw [(Part.missedSet_fourth_stage fourth).alarms .sampleMissed (s.readyDropped_line.alarms _ (by simp))]
    simp [fourth]
  · rw [Part.missedSet_other fourth]
    by_cases more : 4 < hold16 (s.inst.missedRun + 1)
    · simp [Part.raiseIf, more, more.le]
    · have fewer : ¬4 ≤ hold16 (s.inst.missedRun + 1) := by omega
      simp [Part.raiseIf, more, fewer]

/-! ## A sample request that falls due (R20) -/

/-- A request that is due opens a transfer, after the missed set of one still open. -/
theorem Part.requestDue_due {s : Part} {due : Nat} (next : s.inst.nextRequest = some due) (late : due ≤ s.now) :
    s.requestDue = (if s.inst.transferOpen then s.missedSet else s).openRequest due := by
  simp only [Part.requestDue, next]
  exact Part.whenDue_due _ late

theorem Part.requestDue_early {s : Part} {due : Nat} (next : s.inst.nextRequest = some due) (early : s.now < due) :
    s.requestDue = s := by
  simp only [Part.requestDue, next]
  exact Part.whenDue_early _ early

theorem Part.missedSet_cfg (s : Part) : s.missedSet.cfg = s.cfg := by
  rw [Part.cfg, s.missedSet_law.image]; rfl

/-- The instrument interface after a request that is due. -/
theorem Part.requestDue_inst {s : Part} {due : Nat} (next : s.inst.nextRequest = some due) (late : due ≤ s.now) :
    s.requestDue.inst =
      { (if s.inst.transferOpen then s.missedSet.inst else s.inst) with
        transferOpen := true, nextRequest := some (due + s.cfg.samplePeriod * bitsPerMs) } := by
  rw [Part.requestDue_due next late]
  cases s.inst.transferOpen with
  | false => rfl
  | true =>
    have cfg := s.missedSet_cfg
    simp only [if_true, Part.openRequest, Part.modInst, cfg]

/-! ## The instrument interface over a sample event (R21) -/

theorem Part.driveContact_inst (c : ChannelNo) (s : Part) : (s.driveContact c).inst = s.inst := by
  unfold Part.driveContact
  split <;> rfl

theorem Part.guardMake_inst (c : ChannelNo) (s : Part) : (s.guardMake c).inst = s.inst :=
  (Part.driveContact_inst _ _).trans (Part.applyAction_stage _ _ _).inst

theorem Part.guardBreak_inst (event : GuardEvent) (c : ChannelNo) (s : Part) :
    (s.guardBreak event c).inst = s.inst :=
  (Part.driveContact_inst _ _).trans (Part.withdrawAction_stage _ _ _).inst

theorem Part.evaluateChannel_inst (e : Sample) (n : Counted) (taken s : Part) (c : ChannelNo) :
    (Part.evaluateChannel e n taken s c).inst = s.inst := by
  unfold Part.evaluateChannel
  simp only
  split
  · split
    · split
      · exact Part.guardMake_inst _ _
      · split
        · exact Part.guardBreak_inst _ _ _
        · rfl
    · rfl
  · rfl

theorem Part.evaluateGuards_inst (e : Sample) (n : Counted) (s : Part) : (s.evaluateGuards e n).inst = s.inst :=
  List.foldlRecOn (motive := fun t => t.inst = s.inst) allChannels _ rfl
    (fun t same c _ => (Part.evaluateChannel_inst e n s t c).trans same)

theorem Part.countVolume_inst (e : Sample) (s : Part) : (s.countVolume e).inst = s.inst := by
  unfold Part.countVolume
  rw [(Part.creditMixList_stage _ _).inst]
  unfold Part.creditDelivered
  split <;> rfl

/-- What follows own flow on a sample event leaves the instrument interface. -/
theorem Part.afterFlow_inst (e : Sample) (n : Counted) (readiness : Bool) (before : Option Int) (s : Part) :
    (s.afterFlow e n readiness before).inst = s.inst :=
  (Part.followRoute_route _).inst.trans ((Part.evaluateGuards_inst _ _ _).trans
    ((Part.detectorShare_stage _ _ _ _ _).inst.trans (Part.plannerShare_stage _ _).inst))

/-- After the set is taken nothing of a sample event reaches the instrument interface again (R21). -/
theorem Part.sampleEvent_inst (set : SampleSet) (s : Part) :
    (s.sampleEvent set).inst = Instruments.takeSet s.cfg set s.inst := by
  have retired : (s.flowRetired set).inst = (s.flowMoved set).inst :=
    (Part.handPlanned_route _).inst.trans (Part.retire_stage _).inst
  rw [Part.sampleEvent_eq, Part.afterFlow_inst, retired]
  exact (Part.countVolume_inst _ _).trans (s.setTaken_line set).inst

/-- A completed set with a transfer open is a sample event (R20, R21). -/
theorem exec_sampleEvent_open {s : State} (dt : Nat) (set : SampleSet) (run : s.part.running = true)
    (opened : s.part.inst.transferOpen = true) :
    exec (.sampleEvent dt set) s = .next { s with part := (s.part.elapse dt).sampleEvent set } := by
  show s.run dt (Part.whileRunning (Part.transferCompletes set)) = _
  rw [State.run_running dt run, Part.transferCompletes, if_pos (by simpa using opened)]

theorem exec_sampleEvent_closed {s : State} (dt : Nat) (set : SampleSet) (run : s.part.running = true)
    (closed : s.part.inst.transferOpen = false) :
    exec (.sampleEvent dt set) s = .next { s with part := s.part.elapse dt } := by
  show s.run dt (Part.whileRunning (Part.transferCompletes set)) = _
  rw [State.run_running dt run, Part.transferCompletes, if_neg (by simp [closed])]

/-- An analyser's readiness after a reading (R27). -/
theorem warmed_ready (fitted valid ready : Bool) (warmup count : Nat) :
    (warmed fitted warmup valid ready count).1 = true ↔
      fitted = true ∧ valid = true ∧ (ready = true ∨ warmup ≤ count + 1) := by
  cases fitted <;> cases valid <;> cases ready <;> simp [warmed]
  split <;> simp <;> omega

/-- An analyser's warm-up count after a reading (R27). -/
theorem warmed_count (fitted valid ready : Bool) (warmup count : Nat) :
    (warmed fitted warmup valid ready count).2 =
      if fitted = false then count else if valid = false then 0 else if ready then warmup
      else min warmup (count + 1) := by
  cases fitted <;> cases valid <;> cases ready <;> simp [warmed]
  split <;> simp <;> omega

end Sys2Proof.Machine

open Sys2Proof.Machine

/-- Settles O50: every event of the list waits for RUNNING. -/
theorem eventsWaitForRunning : Obligations.EventsWaitForRunning := by
  intro c s stopped event
  cases c with
  | sampleRequestDue dt => exact State.run_stopped dt stopped
  | sampleEvent dt set => exact State.run_stopped dt stopped
  | meterPulse dt meter => exact State.run_stopped dt stopped
  | travelTimeout dt => exact State.run_stopped dt stopped
  | lineFrameReceived dt octets => exact State.run_stopped dt stopped
  | launchNoticeTaken dt => exact State.run_stopped dt stopped
  | passageNoticeTaken dt => exact State.run_stopped dt stopped
  | holdNoticeTaken dt => exact State.run_stopped dt stopped
  | statusNoticeTaken dt => exact State.run_stopped dt stopped
  | trainRequestTaken dt => exact State.run_stopped dt stopped
  | trainReportSegmentTaken dt => exact State.run_stopped dt stopped
  | frameTransmitStart dt => exact State.run_stopped dt stopped
  | frameSent dt => exact State.run_stopped dt stopped
  | collision dt frameBits => exact State.run_stopped dt stopped
  | backoffEnd dt => exact State.run_stopped dt stopped
  | peerHoldExpiry dt => exact State.run_stopped dt stopped
  | statusIntervalDue dt => exact State.run_stopped dt stopped
  | peerSilenceExpiry dt station => exact State.run_stopped dt stopped
  | syncTimeout dt => exact State.run_stopped dt stopped
  | _ => cases event

/-- Settles O24: the request that is due leaves the instrument interface as `Part.requestDue_inst` says, by the missed
set of a transfer still open. -/
theorem sampleRequestDueOpensTransfer : Obligations.SampleRequestDueOpensTransfer := by
  intro s dt due run next
  have executed : exec (.sampleRequestDue dt) s = .next { s with part := (s.part.elapse dt).requestDue } :=
    State.run_running dt run
  refine ⟨fun early => ?_, fun late => ⟨_, executed, ?_⟩⟩
  · rw [executed, Part.requestDue_early (by simpa using next) early]
  · have inst := Part.requestDue_inst (s := s.part.elapse dt) next late
    rw [Part.elapse_inst, Part.elapse_cfg] at inst
    cases opened : s.part.inst.transferOpen with
    | false =>
      rw [opened, if_neg (by simp)] at inst
      rw [inst]
      exact ⟨rfl, rfl, rfl, rfl, rfl, rfl, fun _ => rfl, nofun⟩
    | true =>
      have alarm : (s.part.elapse dt).requestDue.port = (s.part.elapse dt).missedSet.port := by
        rw [Part.requestDue_due (s := s.part.elapse dt) next late, Part.elapse_inst, if_pos opened]
        rfl
      rw [opened, if_pos rfl, Part.missedSet_inst, Part.elapse_inst] at inst
      rw [inst, alarm, (s.part.elapse dt).missedSet_alarm]
      split
      · rename_i fourth
        exact ⟨rfl, rfl, rfl, rfl, rfl, rfl, nofun, fun _ => ⟨rfl, rfl, rfl, fun other => absurd fourth other,
          fun _ => ⟨rfl, rfl, rfl, rfl, rfl, rfl⟩⟩⟩
      · rename_i other
        exact ⟨rfl, rfl, rfl, rfl, rfl, rfl, nofun, fun _ => ⟨rfl, rfl, rfl,
          fun _ => ⟨rfl, rfl, rfl, rfl, rfl, rfl⟩, fun fourth => absurd fourth other⟩⟩

/-- Settles O25: the instrument interface after the event is that of the set taken. -/
theorem sampleEventTakesReadings : Obligations.SampleEventTakesReadings := by
  intro s dt set run
  refine ⟨exec_sampleEvent_closed dt set run, fun opened => ⟨_, exec_sampleEvent_open dt set run opened, ?_⟩⟩
  have inst := (s.part.elapse dt).sampleEvent_inst set
  simp only [Part.elapse_inst, Part.elapse_cfg] at inst
  simp only [inst]
  refine ⟨rfl, rfl, rfl, rfl, fun i => ?_, rfl, rfl, rfl, rfl, warmed_ready .., warmed_ready .., warmed_count ..,
    warmed_count .., rfl, rfl⟩
  simp [Instruments.takeSet, ReadingChannel.judge, readingValid, clampTo]
end

section
/-! SUPPORT. The field inputs (R29 to R31): a level taken from a limit input, what the outlet controller makes of it,
and the outlets that a change of route leaves off STUCK_OPEN (R121, R122). -/

open Sys2Proof

namespace Sys2Proof.Machine

/-! ## Levels (R30) -/

theorem LimitLevels.get_put (l : LimitLevels) (input : LimitInput) (active : Bool) :
    (l.put input active).get input = active := by
  cases input <;> rfl

theorem Instruments.setLimit_same (o : Outlet) (input : LimitInput) (active : Bool) (i : Instruments) :
    ((i.setLimit o input active).limits[o]).get input = active := by
  simp [Instruments.setLimit, LimitLevels.get_put]

theorem Instruments.setLimit_other {o e : Outlet} (input : LimitInput) (active : Bool) (i : Instruments)
    (other : e ≠ o) : (i.setLimit o input active).limits[e] = i.limits[e] := by
  have apart : (o : Nat) ≠ e := fun h => other (Fin.ext h.symm)
  simp [Instruments.setLimit, Vector.getElem_set_ne _ _ apart]

section
variable {s : Part} {o : Outlet} {input : LimitInput} {active : Bool}

theorem Part.limitTaken_same (same : (s.inst.limits[o]).get input = active) : s.limitTaken o input active = s :=
  if_pos same

theorem Part.limitTaken_changed (changed : (s.inst.limits[o]).get input ≠ active) :
    s.limitTaken o input active =
      if s.running && s.levelsRead o then
        (s.modInst (Instruments.setLimit o input active)).limitEvent o input active
      else s.modInst (Instruments.setLimit o input active) := if_neg changed

/-- A level taken is stored whether or not it is an event to the outlet controller (R30). -/
theorem Part.limitTaken_inst (changed : (s.inst.limits[o]).get input ≠ active) :
    (s.limitTaken o input active).inst = s.inst.setLimit o input active := by
  rw [Part.limitTaken_changed changed]
  split
  · exact (Part.limitEvent_route _ _ _ _).inst
  · rfl

theorem Part.limitTaken_level : ((s.limitTaken o input active).inst.limits[o]).get input = active := by
  by_cases same : (s.inst.limits[o]).get input = active
  · rw [Part.limitTaken_same same]; exact same
  · rw [Part.limitTaken_inst same]; exact Instruments.setLimit_same ..

theorem Part.limitTaken_others {e : Outlet} (other : e ≠ o) :
    (s.limitTaken o input active).inst.limits[e] = s.inst.limits[e] := by
  by_cases same : (s.inst.limits[o]).get input = active
  · rw [Part.limitTaken_same same]
  · rw [Part.limitTaken_inst same]; exact Instruments.setLimit_other _ _ _ other

/-! ## Limit events (R118, R121, R122) -/

theorem OutletController.awaitsOpen_iff (k : OutletController) (o : Outlet) :
    k.awaitsOpen o = true ↔ ∃ c, k.change = some c ∧ c.phase = .opening ∧ c.target = .outlet o := by
  cases change : k.change <;> simp [OutletController.awaitsOpen, change]

/-- In OBSERVE a limit event moves nothing (R125). -/
theorem Part.limitEvent_unmoded (mode : s.outlet.mode ≠ some .operate) : s.limitEvent o input active = s := by
  unfold Part.limitEvent
  split
  · contradiction
  · rfl

/-- An open level that becomes active, and is not awaited (R122). -/
theorem Part.limitEvent_opened (mode : s.outlet.mode = some .operate)
    (unawaited : ¬∃ c, s.outlet.change = some c ∧ c.phase = .opening ∧ c.target = .outlet o) :
    s.limitEvent o .open_ true =
      if s.outlet.outlets[o].command = .idle ∧ s.outlet.current ≠ .known (.outlet o) ∧
          s.outlet.outlets[o].stuckOpen = false then s.faultOutlet o .uncommanded else s := by
  have awaits : s.outlet.awaitsOpen o = false := by
    rwa [← OutletController.awaitsOpen_iff, Bool.not_eq_true] at unawaited
  simp [Part.limitEvent, mode, awaits, Part.uncommanded, and_assoc]

/-- An open level that is lost (R122). -/
theorem Part.limitEvent_openLost (mode : s.outlet.mode = some .operate) :
    s.limitEvent o .open_ false =
      if s.outlet.outlets[o].command = .idle ∧ s.outlet.current = .known (.outlet o) then
        s.faultOutlet o .uncommanded else s := by
  simp [Part.limitEvent, mode, Part.uncommanded]

theorem Part.limitEvent_closedLost : s.limitEvent o .closed false = s := by
  unfold Part.limitEvent
  split <;> rfl

/-- A closed level that becomes active (R121, R118). -/
theorem Part.limitEvent_shut (mode : s.outlet.mode = some .operate) :
    s.limitEvent o .closed true =
      if (s.markStuck o false).outlet.awaitsClosed o then (s.markStuck o false).confirmClosed o
      else s.markStuck o false := by
  simp [Part.limitEvent, mode]

end

/-! ## STUCK_OPEN over a change of route (R121) -/

/-- Every outlet that is STUCK_OPEN in `t` is so in `s`. -/
def NoneSticks (s t : Part) : Prop :=
  ∀ o : Outlet, s.outlet.outlets[o].stuckOpen = false → t.outlet.outlets[o].stuckOpen = false

theorem NoneSticks.refl (s : Part) : NoneSticks s s := fun _ h => h

theorem NoneSticks.trans {s t u : Part} (h : NoneSticks s t) (k : NoneSticks t u) : NoneSticks s u :=
  fun o free => k o (h o free)

theorem NoneSticks.of_outlets {s t : Part} (h : t.outlet.outlets = s.outlet.outlets) : NoneSticks s t :=
  fun o free => by rw [h]; exact free

/-- One outlet changed that is not made STUCK_OPEN. -/
theorem NoneSticks.of_set {s t : Part} {a : Outlet} {x : OutletState}
    (h : t.outlet.outlets = s.outlet.outlets.set a x)
    (free : s.outlet.outlets[a].stuckOpen = false → x.stuckOpen = false) : NoneSticks s t := by
  intro o was
  rw [h]
  by_cases same : o = a
  · subst same
    simpa using free was
  · have apart : (a : Nat) ≠ o := fun h => same (Fin.ext h.symm)
    simpa [Vector.getElem_set_ne _ _ apart] using was

theorem Part.command_sticks (o : Outlet) (c : CommandState) (s : Part) : NoneSticks s (s.command o c) :=
  .of_set rfl id

theorem Part.markStuck_false_sticks (o : Outlet) (s : Part) : NoneSticks s (s.markStuck o false) :=
  .of_set rfl (fun _ => rfl)

theorem Part.modOutlet_sticks {f : OutletController → OutletController} (s : Part)
    (h : ∀ k, (f k).outlets = k.outlets := by intro; rfl) : NoneSticks s (s.modOutlet f) := .of_outlets (h _)

theorem Part.inFlight_sticks (source : CurrentRoute) (target : Route) (phase : ChangePhase) (s : Part) :
    NoneSticks s (s.inFlight source target phase) := s.modOutlet_sticks

theorem Part.completeAt_sticks (target : Route) (s : Part) : NoneSticks s (s.completeAt target) := by
  cases target with
  | outlet o => exact (s.markStuck_false_sticks o).trans (Part.modOutlet_sticks _)
  | closed => exact s.modOutlet_sticks

theorem Part.closeFor_sticks (o : Outlet) (source : CurrentRoute) (target : Route) (s : Part) :
    NoneSticks s (s.closeFor o source target) := by
  unfold Part.closeFor
  split
  · exact s.completeAt_sticks target
  · exact (s.command_sticks o .closing).trans (Part.modOutlet_sticks _)

theorem Part.clearFor_sticks (target : Route) (s : Part) : NoneSticks s (s.clearFor target) := by
  unfold Part.clearFor
  split
  · exact s.completeAt_sticks target
  · refine NoneSticks.trans ?_ (Part.modOutlet_sticks _)
    exact List.foldlRecOn (motive := NoneSticks s) _ _ (.refl s)
      (fun t h o _ => h.trans (t.command_sticks o .closing))

theorem Part.openConfirmed_sticks (source : CurrentRoute) (target : Route) (s : Part) :
    NoneSticks s (s.openConfirmed source target) := by
  unfold Part.openConfirmed
  split
  · exact s.closeFor_sticks _ _ _
  · exact s.completeAt_sticks _
  · exact s.clearFor_sticks _

theorem Part.reportStart_sticks (o : Outlet) (s : Part) : NoneSticks s (s.reportStart o) := by
  unfold Part.reportStart
  split
  · split
    · exact .of_outlets (by rw [Part.launchEffect_outlet])
    · exact .refl s
  · exact .refl s

theorem Part.beginChange_sticks (target : Route) (s : Part) : NoneSticks s (s.beginChange target) := by
  have ready : NoneSticks s (s.modOutlet (fun k => { k with pending := none })) := s.modOutlet_sticks
  cases target with
  | outlet b =>
    have opened := ready.trans ((Part.command_sticks b .opening _).trans
      ((Part.inFlight_sticks s.outlet.current (.outlet b) .opening _).trans (Part.reportStart_sticks b _)))
    simp only [Part.beginChange]
    split
    · exact opened.trans ((Part.command_sticks b .idle _).trans (Part.openConfirmed_sticks _ _ _))
    · exact opened
  | closed =>
    simp only [Part.beginChange]
    split
    · exact ready.trans (Part.closeFor_sticks _ _ _ _)
    · exact ready
    · exact ready.trans (Part.clearFor_sticks _ _)

theorem Part.applyPending_sticks (s : Part) : NoneSticks s s.applyPending := by
  unfold Part.applyPending
  split
  · exact .refl s
  · have cleared : NoneSticks s (s.modOutlet (fun k => { k with pending := none })) := s.modOutlet_sticks
    split
    · exact cleared
    · exact cleared.trans (Part.beginChange_sticks _ _)

theorem Part.confirmClosed_sticks (o : Outlet) (s : Part) : NoneSticks s (s.confirmClosed o) := by
  unfold Part.confirmClosed
  split
  · simp only
    split
    · exact s.command_sticks o .idle
    · exact ((s.command_sticks o .idle).trans (Part.completeAt_sticks _ _)).trans (Part.applyPending_sticks _)
  · exact .refl s

/-- A closed level that becomes active clears STUCK_OPEN of its outlet, whatever the change in flight (R121). -/
theorem Part.limitEvent_shut_stuckOpen {o : Outlet} {s : Part} (mode : s.outlet.mode = some .operate) :
    (s.limitEvent o .closed true).outlet.outlets[o].stuckOpen = false := by
  have marked : (s.markStuck o false).outlet.outlets[o].stuckOpen = false := by
    simp [Part.markStuck, Part.modOutlet]
  rw [Part.limitEvent_shut mode]
  split
  · exact Part.confirmClosed_sticks o _ o marked
  · exact marked

/-- With no change in flight that is all it does. -/
theorem Part.limitEvent_shut_still {o : Outlet} {s : Part} (mode : s.outlet.mode = some .operate)
    (change : s.outlet.change = none) : s.limitEvent o .closed true = s.markStuck o false := by
  rw [Part.limitEvent_shut mode, if_neg (by simp [OutletController.awaitsClosed, change])]

/-! ## What a level taken leaves as it is -/

/-- A level stored leaves every other block. -/
theorem Block.same_stored (s : Part) (dt : Nat) (f : Instruments → Instruments) {b : Block}
    (other : b ≠ .instruments) : b.same s ((s.elapse dt).modInst f) := by
  cases b with
  | instruments => exact absurd rfl other
  | _ => simp [Block.same]

/-- So does STUCK_OPEN changed with it, but for the routes. -/
theorem Block.same_stuck (s : Part) (dt : Nat) (f : Instruments → Instruments) (o : Outlet) {b : Block}
    (other : b ≠ .instruments) (routes : b ≠ .routes) : b.same s (((s.elapse dt).modInst f).markStuck o false) := by
  cases b with
  | instruments => exact absurd rfl other
  | routes => exact absurd rfl routes
  | _ => simp [Block.same]

/-- An uncommanded level is the outlet's last fault, with VALVE_FAULT, and no more (R122). -/
theorem Part.faultOutlet_shows (s : Part) (dt : Nat) (f : Instruments → Instruments) (o : Outlet) (x : OutletFault) :
    let t := ((s.elapse dt).modInst f).faultOutlet o x
    t.outlet = { s.outlet with outlets := s.outlet.outlets.set o { s.outlet.outlets[o] with lastFault := x } } ∧
      t.port.alarmSet .valveFault = true ∧
      ∀ b : Block, b ≠ .instruments → b ≠ .routes → b ≠ .alarms → b.same s t := by
  refine ⟨rfl, by simp, fun b other routes alarms => ?_⟩
  cases b with
  | instruments => exact absurd rfl other
  | routes => exact absurd rfl routes
  | alarms => exact absurd rfl alarms
  | _ => simp [Block.same]

end Sys2Proof.Machine

open Sys2Proof.Machine

/-- Settles O32: a level is stored, and followed in RUNNING in OPERATE as the `Part.limitEvent` lemmas say for each input
and level. -/
theorem fieldInputsAreTaken : Obligations.FieldInputsAreTaken := by
  refine ⟨fun s dt m => ⟨State.run_stopped dt, fun run => ⟨_, State.run_running dt run, ?_, fun b =>
    Block.same_stored s.part dt _⟩⟩, fun s dt o input active => ⟨_, rfl, Part.limitTaken_level,
    fun e other => Part.limitTaken_others other, fun why => ?_, fun run mode read changed => ?_⟩⟩
  · cases m <;> rfl
  · by_cases same : ((s.part.elapse dt).inst.limits[o]).get input = active
    · rw [Part.limitTaken_same same]
      exact fun b => Block.same_stored s.part dt id
    · rw [Part.limitTaken_changed same]
      split
      · rename_i followed
        obtain ⟨run, read⟩ := Bool.and_eq_true_iff.mp followed
        have unmoded : s.part.outlet.mode ≠ some .operate := by
          rcases why with stopped | unmoded | unread
          · rw [Part.elapse_running, stopped] at run; cases run
          · exact unmoded
          · exact absurd (unread.symm.trans read) nofun
        rw [Part.limitEvent_unmoded (by simpa using unmoded)]
        exact fun b => Block.same_stored s.part dt _
      · exact fun b => Block.same_stored s.part dt _
  · have followed : (s.part.elapse dt).limitTaken o input active =
        ((s.part.elapse dt).modInst (Instruments.setLimit o input active)).limitEvent o input active :=
      (Part.limitTaken_changed (s := s.part.elapse dt) changed).trans (if_pos (Bool.and_eq_true_iff.mpr ⟨run, read⟩))
    have storedMode : ((s.part.elapse dt).modInst (Instruments.setLimit o input active)).outlet.mode =
        some .operate := mode
    simp only [followed]
    refine ⟨?_, ?_, ?_, ?_⟩
    · rintro rfl rfl unawaited
      have event := Part.limitEvent_opened storedMode unawaited
      constructor <;> intro uncommanded
      · rw [event.trans (if_pos uncommanded)]
        exact Part.faultOutlet_shows s.part dt _ o _
      · rw [event.trans (if_neg uncommanded)]
        exact fun b => Block.same_stored s.part dt _
    · rintro rfl rfl
      have event := Part.limitEvent_openLost (o := o) storedMode
      constructor <;> intro uncommanded
      · rw [event.trans (if_pos uncommanded)]
        exact Part.faultOutlet_shows s.part dt _ o _
      · rw [event.trans (if_neg uncommanded)]
        exact fun b => Block.same_stored s.part dt _
    · rintro rfl rfl
      refine ⟨Part.limitEvent_shut_stuckOpen storedMode, fun still => ?_⟩
      rw [Part.limitEvent_shut_still storedMode still]
      exact ⟨rfl, fun b => Block.same_stuck s.part dt _ o⟩
    · rintro rfl rfl
      rw [Part.limitEvent_closedLost]
      exact fun b => Block.same_stored s.part dt _
end

section
/-! SUPPORT. START (R172): its operands, the route learned and the planned route handed over it, and the first STATUS
that takes the empty line bus. -/

open Sys2Proof

namespace Sys2Proof.Machine

/-! ## The operands (R172, R177) -/

theorem modeOf?_eq_none {n : Nat} (unlisted : n ≠ 1 ∧ n ≠ 2) : modeOf? n = none := by
  obtain ⟨operate, observe⟩ := unlisted
  unfold modeOf?
  split <;> first | contradiction | rfl

theorem realProductOf?_eq_none {n : Nat} (outside : ¬(1 ≤ n ∧ n ≤ 15)) : realProductOf? n = none := by
  unfold realProductOf? productOf?
  split
  · rfl
  · rw [dif_neg (by omega)]

theorem presentOf_eq_none {presence : Octet} (batch : BatchNo) {product : Octet}
    (bad : 1 < presence.toNat ∨ presence = 1 ∧ ¬(1 ≤ product.toNat ∧ product.toNat ≤ 15)) :
    presentOf presence batch product = none := by
  rcases bad with beyond | ⟨rfl, outside⟩
  · have zero : presence ≠ 0 := by rintro rfl; simp at beyond
    have one : presence ≠ 1 := by rintro rfl; simp at beyond
    rw [presentOf, if_neg zero, if_neg one]
  · simp [presentOf, realProductOf?_eq_none outside]

/-- A START with a value that is none of its list only answers. -/
theorem Part.serveStart_refused {mode presence product : Octet} {batch : BatchNo} (s : Part)
    (bad : (mode.toNat ≠ 1 ∧ mode.toNat ≠ 2) ∨ 1 < presence.toNat ∨
      (presence = 1 ∧ ¬(1 ≤ product.toNat ∧ product.toNat ≤ 15))) :
    s.serveStart mode presence batch product = s.respond 0x12 .value [] := by
  unfold Part.serveStart
  split
  · rename_i m present ofMode ofPresent
    rcases bad with unlisted | bad
    · rw [modeOf?_eq_none unlisted] at ofMode; cases ofMode
    · rw [presentOf_eq_none batch bad] at ofPresent; cases ofPresent
  · rfl

/-- START is served in STANDBY (R167). -/
theorem exec_start {s : State} (dt : Nat) (mode presence : Octet) (batch : BatchNo) (product : Octet)
    (standby : s.part.image.state = .standby) :
    exec (.start dt mode presence batch product) s =
      .next { s with part := (s.part.elapse dt).serveStart mode presence batch product } := by
  show s.run dt (Part.request 0x12 [.standby] allRoles (Part.serveStart mode presence batch product)) = _
  rw [State.run, Part.request_served (by simp [standby]) (by simp [standby]) (role_mem_allRoles _)]

/-! ## A planned route that changes nothing at once (R116, R117, R124, R125) -/

/-- A route that is handed leaves the current route and the conflict hold where none is in force, and the port. -/
structure RouteHeld (s t : Part) : Prop where
  current : t.outlet.current = s.outlet.current
  hold : t.outlet.conflictHold = s.outlet.conflictHold
  port : t.port = s.port

theorem Part.beginChange_unopened {b : Outlet} {s : Part} (idle : s.planner.incoming = none)
    (shut : s.openLevel b = false) : RouteHeld s (s.beginChange (.outlet b)) := by
  have still := Part.reportStart_none b (((s.modOutlet (fun k => { k with pending := none })).command b .opening).inFlight
    s.outlet.current (.outlet b) .opening) idle
  simp only [Part.beginChange, still]
  split
  · rename_i opened
    exact absurd (shut.symm.trans opened) nofun
  · exact ⟨rfl, rfl, rfl⟩

/-- A route that START hands while the outlets stand as they were learned: under a conflict hold, in OBSERVE, where the
route is there, and where it is to an outlet that is not open (R124, R125, R117). -/
theorem Part.handRoute_held {r : Route} {s : Part} (idle : s.planner.incoming = none)
    (override : s.outlet.override = []) (change : s.outlet.change = none)
    (why : s.outlet.mode = some .observe ∨ s.outlet.mode = some .operate ∧
      (s.outlet.conflictHold = true ∨ s.outlet.current = .known r ∨ ∃ o, r = .outlet o ∧ s.openLevel o = false)) :
    RouteHeld s (s.handRoute r) := by
  rcases why with observe | ⟨operate, why⟩
  · obtain ⟨t, handed⟩ := Part.handRoute_observe r observe
    rw [handed]
    exact ⟨rfl, rfl, rfl⟩
  · cases hold : s.outlet.conflictHold with
    | true =>
      have handed : s.handRoute r = s.modOutlet (fun k => { k with planned := some r, target := some r }) := by
        simp [Part.handRoute, Part.retarget, OutletController.wantedTarget, Part.modOutlet, operate, override, hold]
      rw [handed]
      exact ⟨rfl, rfl, rfl⟩
    | false =>
      by_cases there : s.outlet.current = .known r
      · rw [Part.handRoute_there hold operate change override there]
        exact ⟨rfl, rfl, rfl⟩
      · by_cases same : s.outlet.target = some r
        · have handed : s.handRoute r = s.modOutlet (fun k => { k with planned := some r, target := some r }) := by
            simp [Part.handRoute, Part.retarget, OutletController.wantedTarget, Part.modOutlet, operate, override, hold,
              change, same]
          rw [handed]
          exact ⟨rfl, rfl, rfl⟩
        · rw [Part.handRoute_begins hold operate change override there same]
          rcases why with held | here | ⟨o, rfl, shut⟩
          · rw [hold] at held; cases held
          · exact absurd here there
          · obtain ⟨current, conflict, port⟩ := Part.beginChange_unopened
              (s := s.modOutlet (fun k => { k with planned := some (.outlet o), target := some (.outlet o) })) idle shut
            exact ⟨current, conflict, port⟩

theorem Part.handPlanned_held {r : Route} {s : Part} (planned : s.planner.planned = some r)
    (handed : RouteHeld s (s.handRoute r)) : RouteHeld s s.handPlanned := by
  simp only [Part.handPlanned, planned]
  split
  · exact ⟨rfl, rfl, rfl⟩
  · exact handed

/-! ## The route learned at START (R123, R107) -/

theorem Part.openLevel_of_openOutlets_nil {s : Part} (shut : s.openOutlets = []) (o : Outlet) :
    s.openLevel o = false := by
  have all : ∀ e : Outlet, e ∈ allOutlets := by decide
  simpa using List.filter_eq_nil_iff.mp shut o (all o)

/-- A RELAY learns that no outlet is open: its image fits none (R168). -/
theorem Part.openOutlets_relay {s : Part} (valid : s.image.config.isSome = true)
    (unfitted : ∀ o : Outlet, s.cfg.fitted o = false) : s.openOutlets = [] := by
  refine List.filter_eq_nil_iff.mpr fun o _ => ?_
  have config : s.image.config.isNone = false := by
    cases h : s.image.config <;> simp_all
  simp [Part.openLevel, Part.levelsRead, config, unfitted o]

/-- The planned route of START against the route learned: it is the same, or no outlet is known to be the route, and
then it is CLOSED, or at an END to transmix (R107). -/
theorem startRoute_cases (role : Role) (opened : List Outlet) (relay : role = .relay → opened = []) :
    routeShown opened = .known (startRoute role (routeShown opened)) ∨ 2 ≤ opened.length ∨
      opened = [] ∧ startRoute role (routeShown opened) = .outlet transmix := by
  match opened with
  | [] => cases role <;> simp [routeShown, startRoute]
  | [o] => cases role <;> simp [routeShown, startRoute] at relay ⊢
  | _ :: _ :: _ => exact .inr (.inl (by simp))

/-! ## The line bus at START (R141, R144) -/

/-- The first STATUS takes the transmit buffer of a line bus as reset leaves it. -/
theorem Part.enqueue_first {n : Notice} {s : Part} (status : n.cls = 3) (outbound : s.bus.outbound = [])
    (buffer : s.bus.buffer = none) (free : s.bus.peerHold = none) :
    s.enqueue n = { s with bus := { s.bus with
      buffer := some { notice := n, collisions := 0, phase := .waiting s.now } } } := by
  simp [Part.enqueue, outbound, maxOutbound, Part.joinOutbound, Part.arbitrate, buffer, free, choose,
    Queued.ofClass, status]

/-! ## The part after START -/

theorem Part.raiseIf_eq (c : Bool) (a : Alarm) (s : Part) :
    s.raiseIf c a = { s with port := if c then s.port.raise a else s.port } := by
  cases c <;> rfl

/-- Whether the route learned is a conflict: several outlets open, or none at an END or an ORIGIN (R123). -/
def Part.learnsConflict (s : Part) : Bool :=
  decide (1 < s.openOutlets.length) ||
    (s.openOutlets.isEmpty && (decide (s.cfg.role = .end_) || decide (s.cfg.role = .origin)))

/-- The part after the first half of START, block by block. -/
theorem Part.startPlan_eq (m : Mode) (present : Option (BatchNo × Product)) (s : Part) :
    s.startPlan m present =
      { s with
        inst := { s.inst.atStart with
          transferOpen := true, nextRequest := some (s.now + s.cfg.samplePeriod * bitsPerMs) }
        train := { s.train with records := startTrain present s.train.records }
        planner := { s.planner with
          current := startCurrent s.cfg.role (routeShown s.openOutlets) present
          planned := some (startRoute s.cfg.role (routeShown s.openOutlets)) }
        outlet := { s.outlet with
          mode := some m, current := routeShown s.openOutlets, change := none, pending := none
          outlets := Vector.replicate 7 OutletState.afterReset
          conflictHold := decide (1 < s.openOutlets.length) && decide (m = .operate), reported := false }
        port := if s.learnsConflict then s.port.raise .routeConflict else s.port } := by
  unfold Part.startPlan Part.learnRoute
  simp only [Part.raiseIf_eq]
  rfl

/-- A frame of the outlet controller with the port as it was. -/
theorem OutletFrame.eq {s t : Part} (h : OutletFrame s t) (port : t.port = s.port) :
    t = { s with outlet := t.outlet } := by
  obtain ⟨now, inst, vol, train, det, planner, guard, bus, peer, image⟩ := h
  cases t
  simp_all

/-- The planned route handed at START leaves the route learned, and the conflict hold (R123, R124). -/
theorem Part.startPlan_held {m : Mode} {present : Option (BatchNo × Product)} {s : Part}
    (idle : s.planner.incoming = none) (override : s.outlet.override = [])
    (relay : s.cfg.role = .relay → s.openOutlets = []) :
    RouteHeld (s.startPlan m present) (s.startPlan m present).handPlanned := by
  have shut : s.openOutlets = [] → ∀ o, (s.startPlan m present).openLevel o = false := fun h o => by
    rw [Part.startPlan_eq]
    exact Part.openLevel_of_openOutlets_nil h o
  have route := startRoute_cases s.cfg.role s.openOutlets relay
  rw [Part.startPlan_eq] at shut ⊢
  refine Part.handPlanned_held rfl (Part.handRoute_held idle override rfl ?_)
  cases m with
  | observe => exact .inl rfl
  | operate =>
    refine .inr ⟨rfl, ?_⟩
    rcases route with there | several | ⟨none, transmix⟩
    · exact .inr (.inl there)
    · exact .inl (Bool.and_eq_true_iff.mpr ⟨decide_eq_true several, rfl⟩)
    · exact .inr (.inr ⟨_, transmix, shut none _⟩)

/-- The part after START, but for its outlet controller (R172). -/
theorem Part.startBlocks_eq {m : Mode} {present : Option (BatchNo × Product)} {s : Part}
    (idle : s.planner.incoming = none) (bus : s.bus = LineBus.afterReset)
    (held : RouteHeld (s.startPlan m present) (s.startPlan m present).handPlanned) :
    s.startBlocks m present =
      { s.startPlan m present with
        outlet := (s.startPlan m present).handPlanned.outlet
        guard := s.startGuards.guard
        bus := { LineBus.afterReset with
          generator := some (seed s.cfg.station s.image.startCount)
          buffer := some { notice := s.statusNotice, collisions := 0, phase := .waiting s.now } }
        peer := { s.peer with nextStatus := some (s.now + s.cfg.statusInterval * bitsPerSecond) } } := by
  have plan := Part.startPlan_eq m present s
  have waits : (s.startPlan m present).planner.incoming = none := by rw [plan]; exact idle
  have handed := (Part.handPlanned_outlet_frame _ waits).eq held.port
  have blocks : s.startBlocks m present =
      (({ (s.startPlan m present).handPlanned.startGuards with
          bus := { (s.startPlan m present).handPlanned.bus with
            generator := some (seed s.cfg.station s.image.startCount) } } : Part).modPeer (fun p =>
        { p with nextStatus := some (s.now + s.cfg.statusInterval * bitsPerSecond) })).enqueue s.statusNotice := rfl
  have line : (s.startPlan m present).bus = LineBus.afterReset := by rw [plan]; exact bus
  rw [blocks, handed, Part.enqueue_first rfl (by simp [line, LineBus.afterReset]) (by simp [line, LineBus.afterReset])
    (by simp [line, LineBus.afterReset])]
  simp only [plan, bus]
  rfl

/-- The contacts that are energized at START (R138). -/
theorem Part.startGuards_contact (s : Part) (n : Fin 4) :
    s.startGuards.guard.contacts[n] = true ↔
      ∃ k : ChannelNo, s.cfg.guards[k].enable = true ∧ s.cfg.guards[k].contact = some n ∧
        s.cfg.guards[k].sense = .failsafe := by
  have all : ∀ k : ChannelNo, k ∈ allChannels := by decide
  simp only [Part.startGuards, Fin.getElem_fin, Vector.getElem_ofFn, List.any_eq_true, all, true_and,
    Bool.and_eq_true, decide_eq_true_iff, and_assoc]
  rfl

theorem Part.startGuards_channel (s : Part) (k : ChannelNo) :
    s.startGuards.guard.channels[k] =
      { GuardChannel.afterReset with inhibitPending := s.cfg.guards[k].inhibit } := by
  simp [Part.startGuards, GuardChannel.atStart]

end Sys2Proof.Machine

open Sys2Proof.Machine

/-- Settles O11: a bad value only answers, and an accepted START leaves the blocks of `Part.startBlocks_eq`. -/
theorem startBeginsARun : Obligations.StartBeginsARun := by
  refine ⟨fun s dt mode presence batch product standby bad => ⟨_, exec_start dt _ _ _ _ standby, ?_⟩,
    fun s dt mode presence batch product c m present standby config trainLaw outletLaw queueLaw ofMode ofPresent => ?_⟩
  · rw [Part.serveStart_refused _ bad]
    exact ⟨Part.answered_respond .., Part.onlyAnswers_respond ..⟩
  · intro taken count
    have stopped : s.part.running = false := by simp [Part.running, standby]
    obtain ⟨empty, ⟨-, idle⟩, -⟩ := trainLaw.idle stopped
    obtain ⟨-, -, -, override, unfitted⟩ := outletLaw
    obtain ⟨-, -, -, -, bus⟩ := queueLaw
    have cfg : s.part.cfg = c := by simp [Part.cfg, config]
    set p := (s.part.elapse dt).modImage (fun i => { i with startCount := i.startCount + 1, state := .running }) with hp
    have served : (s.part.elapse dt).serveStart mode presence batch product =
        (p.startBlocks taken present).respond 0x12 .accepted
          (be1 (modeCode taken) ++ be2 (p.startBlocks taken present).image.startCount.toNat) := by
      simp only [Part.serveStart, ofMode, ofPresent, Part.elapse_cfg, cfg]
      rfl
    have pcfg : p.cfg = c := cfg
    have relay : p.cfg.role = .relay → p.openOutlets = [] := fun role =>
      Part.openOutlets_relay (s := p) (by simp [hp, config]) (unfitted role)
    have held := Part.startPlan_held (m := taken) (present := present) (s := p) idle (override stopped) relay
    have blocks := Part.startBlocks_eq (m := taken) (present := present) (s := p) idle (bus stopped) held
    have outlet := congrArg Part.outlet (Part.startPlan_eq taken present p)
    have opened : p.openOutlets = s.part.openOutlets := rfl
    have shown := held.current.trans (congrArg OutletController.current outlet)
    have hold := held.hold.trans (congrArg OutletController.conflictHold outlet)
    have moded := (Part.handPlanned_route (p.startPlan taken present)).mode.trans
      (congrArg OutletController.mode outlet)
    rw [opened] at shown hold
    refine ⟨_, exec_start dt _ _ _ _ standby, ?_⟩
    rw [served, blocks]
    generalize (p.startPlan taken present).handPlanned.outlet = k at shown hold moded ⊢
    rw [Part.startPlan_eq, pcfg, opened]
    refine ⟨rfl, rfl, rfl, moded, rfl, shown, hold, ?_, ?_, rfl, ?_, ?_, ?_, rfl, ?_, ?_, rfl, rfl, rfl, rfl, rfl, rfl⟩
    · show (if p.learnsConflict then p.port.raise .routeConflict else p.port).alarmSet .routeConflict = _
      have learns : p.learnsConflict = (decide (2 ≤ s.part.openOutlets.length) ||
          (s.part.openOutlets.isEmpty && (decide (c.role = .end_) || decide (c.role = .origin)))) := by
        rw [Part.learnsConflict, pcfg]; rfl
      rw [Bool.or_assoc, ← learns]
      cases p.learnsConflict
      · exact (Bool.or_false _).symm
      · simp [hp]
    · show startTrain present s.part.train.records = _
      rw [empty]
      cases present <;> rfl
    · show startCurrent c.role (routeShown s.part.openOutlets) present = _
      cases role : c.role with
      | origin =>
        cases present with
        | none => rfl
        | some x =>
          match s.part.openOutlets with
          | [] => rfl
          | [o] => rfl
          | _ :: _ :: _ => rfl
      | _ => cases present <;> rfl
    · intro k
      rw [← pcfg]
      exact p.startGuards_channel k
    · intro n
      rw [← pcfg]
      exact p.startGuards_contact n
    · rw [← pcfg]; rfl
    · rw [← pcfg]; rfl
end

section
/-! SUPPORT. What hands routes, ends orders and drives guards while no launch cut waits leaves of the window interface:
the detector, every record but for its plan, link and status, and ANALYSER_LOST (R28, R77). -/

open Sys2Proof

namespace Sys2Proof.Machine

/-! ## The port over a route change and over a notice -/

/-- ANALYSER_LOST reads the same. -/
def SameLoss (s t : Part) : Prop := t.port.alarmSet .analyserLost = s.port.alarmSet .analyserLost

theorem SameLoss.of_port {s t : Part} (h : t.port = s.port) : SameLoss s t := by rw [SameLoss, h]

theorem Part.raise_loss {a : Alarm} (other : a ≠ .analyserLost) (s : Part) : SameLoss s (s.raise a) := by
  simp [SameLoss, other]

theorem Part.raiseIf_loss (c : Bool) {a : Alarm} (other : a ≠ .analyserLost) (s : Part) :
    SameLoss s (s.raiseIf c a) := by
  cases c
  · rfl
  · exact s.raise_loss other

theorem Part.writeRecord_loss (b : RecordBody) (s : Part) : SameLoss s (s.writeRecord b) := by
  simp [SameLoss, StationPort.alarmSet]

theorem Part.reportDiscarded_loss (n : Notice) (s : Part) : SameLoss s (s.reportDiscarded n) := by
  unfold Part.reportDiscarded
  split
  · simp [SameLoss]
  · rfl

theorem Part.arbitrate_loss (s : Part) : SameLoss s s.arbitrate := by
  unfold Part.arbitrate
  split
  · rfl
  · split <;> rfl

theorem Part.joinOutbound_loss (n : Notice) (s : Part) : SameLoss s (s.joinOutbound n) := Part.arbitrate_loss _

/-- A notice handed to the outbound queue sets OUTBOUND_OVERFLOW and SYNC_FAILED at most (R142). -/
theorem Part.enqueue_loss (n : Notice) (s : Part) : SameLoss s (s.enqueue n) := by
  unfold Part.enqueue
  split
  · rfl
  · split
    · exact s.joinOutbound_loss n
    · split
      · refine Eq.trans (Part.joinOutbound_loss n _) ?_
        unfold Part.evict
        split
        · rfl
        · exact Part.reportDiscarded_loss _ _
      · exact Eq.trans (Part.reportDiscarded_loss n _) (Part.raise_loss (a := .outboundOverflow) (by decide) s)

theorem Part.completeAt_port (target : Route) (s : Part) : (s.completeAt target).port = s.port := by
  cases target <;> rfl

theorem Part.closeFor_port (o : Outlet) (source : CurrentRoute) (target : Route) (s : Part) :
    (s.closeFor o source target).port = s.port := by
  unfold Part.closeFor
  split
  · exact s.completeAt_port target
  · rfl

theorem Part.clearFor_port (target : Route) (s : Part) : (s.clearFor target).port = s.port := by
  unfold Part.clearFor
  split
  · exact s.completeAt_port target
  · exact List.foldlRecOn (motive := fun (t : Part) => t.port = s.port) _ _ rfl (fun _ h _ _ => h)

theorem Part.openConfirmed_port (source : CurrentRoute) (target : Route) (s : Part) :
    (s.openConfirmed source target).port = s.port := by
  unfold Part.openConfirmed
  split
  · exact s.closeFor_port _ _ _
  · exact s.completeAt_port _
  · exact s.clearFor_port _

theorem Part.beginChange_port {s : Part} (target : Route) (idle : s.planner.incoming = none) :
    (s.beginChange target).port = s.port := by
  cases target with
  | outlet b =>
    have still := Part.reportStart_none b (((s.modOutlet (fun k => { k with pending := none })).command b
      .opening).inFlight s.outlet.current (.outlet b) .opening) idle
    simp only [Part.beginChange, still]
    split
    · exact Part.openConfirmed_port _ _ _
    · rfl
  | closed =>
    simp only [Part.beginChange]
    split
    · exact Part.closeFor_port _ _ _ _
    · rfl
    · exact Part.clearFor_port _ _

theorem Part.retarget_port {s : Part} (idle : s.planner.incoming = none) : s.retarget.port = s.port := by
  unfold Part.retarget
  split
  · rfl
  · simp only
    split
    · split
      · rfl
      · split
        · split
          · split
            · rw [Part.reportStart_none _ _ (by exact idle)]
              rfl
            · rfl
          · split <;> rfl
        · split
          · exact Part.beginChange_port _ idle
          · rfl
    · rfl

theorem Part.holdEvent_port {s : Part} (idle : s.planner.incoming = none) : s.holdEvent.port = s.port := by
  unfold Part.holdEvent
  split
  · simp only
    split
    · exact Part.beginChange_port _ idle
    · rfl
  · rfl

theorem Part.handPlanned_port {s : Part} (idle : s.planner.incoming = none) : s.handPlanned.port = s.port := by
  unfold Part.handPlanned
  split
  · rfl
  · split
    · rfl
    · exact Part.retarget_port idle

/-! ## The quiet frame -/

/-- A head interface without its cut plan. -/
def HeadInterface.unplanned (h : HeadInterface) : HeadInterface := { h with plan := none }

/-- A record without its link, its status and its head's cut plan, and what else the detector does not read. -/
def BatchRecord.plain (r : BatchRecord) : BatchNo × Product × Option HeadInterface :=
  (r.batch, r.product, r.head.map HeadInterface.unplanned)

/-- The plain records of the train. -/
def Part.plains (s : Part) : List (BatchNo × Product × Option HeadInterface) :=
  s.train.records.map BatchRecord.plain

/-- `t` has the detector and the launches of `s`, no record that is not plainly one of `s`, and ANALYSER_LOST as it
was. -/
structure QuietFrame (s t : Part) : Prop where
  det : t.det = s.det
  plains : t.plains ⊆ s.plains
  loss : SameLoss s t
  launches : t.planner.launches = s.planner.launches
  incoming : t.planner.incoming = s.planner.incoming

theorem QuietFrame.refl (s : Part) : QuietFrame s s := ⟨rfl, List.Subset.refl _, rfl, rfl, rfl⟩

theorem QuietFrame.trans {s t u : Part} (h : QuietFrame s t) (k : QuietFrame t u) : QuietFrame s u :=
  ⟨k.det.trans h.det, List.Subset.trans k.plains h.plains, Eq.trans k.loss h.loss, k.launches.trans h.launches,
    k.incoming.trans h.incoming⟩

theorem QuietFrame.noLaunch {s t : Part} (h : QuietFrame s t) (none : s.noLaunch) : t.noLaunch :=
  ⟨h.launches.trans none.1, h.incoming.trans none.2⟩

theorem QuietFrame.idle {s t : Part} (h : QuietFrame s t) (idle : s.planner.incoming = none) :
    t.planner.incoming = none := h.incoming.trans idle

theorem QuietFrame.foldl {α : Type} (f : Part → α → Part) (h : ∀ s a, QuietFrame s (f s a)) (l : List α)
    (s : Part) : QuietFrame s (l.foldl f s) := by
  induction l generalizing s with
  | nil => exact .refl s
  | cons a l ih => exact (h s a).trans (ih _)

/-- An operation that leaves the train, the detector and the planner. -/
theorem QuietFrame.of_line {s t : Part} (h : LineFrame s t) (loss : SameLoss s t) : QuietFrame s t :=
  ⟨h.det, by rw [Part.plains, h.train]; exact List.Subset.refl _, loss, by rw [h.planner], by rw [h.planner]⟩

theorem QuietFrame.of_outlet {s t : Part} (h : OutletFrame s t) (port : t.port = s.port) : QuietFrame s t :=
  ⟨h.det, by rw [Part.plains, h.train]; exact List.Subset.refl _, .of_port port, by rw [h.planner],
    by rw [h.planner]⟩

theorem Part.modBatch_quiet (b : BatchNo) {f : BatchRecord → BatchRecord} (s : Part)
    (h : ∀ r, (f r).plain = r.plain) : QuietFrame s (s.modBatch b f) := by
  refine ⟨rfl, fun x mem => ?_, rfl, rfl, rfl⟩
  obtain ⟨r, here, rfl⟩ := List.mem_map.mp mem
  obtain ⟨m, was, rfl⟩ := List.mem_map.mp here
  refine List.mem_map.mpr ⟨m, was, ?_⟩
  split
  · exact (h m).symm
  · rfl

theorem Part.modPlanner_quiet {f : Planner → Planner} (s : Part)
    (launches : (f s.planner).launches = s.planner.launches := by rfl)
    (incoming : (f s.planner).incoming = s.planner.incoming := by rfl) : QuietFrame s (s.modPlanner f) :=
  ⟨rfl, List.Subset.refl _, rfl, launches, incoming⟩

theorem Part.raise_quiet {a : Alarm} (other : a ≠ .analyserLost) (s : Part) : QuietFrame s (s.raise a) :=
  .of_line (s.raise_line a) (s.raise_loss other)

theorem Part.raiseIf_quiet (c : Bool) {a : Alarm} (other : a ≠ .analyserLost) (s : Part) :
    QuietFrame s (s.raiseIf c a) := .of_line (s.raiseIf_line c a) (s.raiseIf_loss c other)

theorem Part.writeRecord_quiet (b : RecordBody) (s : Part) : QuietFrame s (s.writeRecord b) :=
  ⟨rfl, List.Subset.refl _, s.writeRecord_loss b, rfl, rfl⟩

theorem Part.enqueue_quiet (n : Notice) (s : Part) : QuietFrame s (s.enqueue n) :=
  .of_line (s.enqueue_line n) (s.enqueue_loss n)

/-! ### Routes -/

section
variable {s : Part} (idle : s.planner.incoming = none)
include idle

theorem Part.handPlanned_quiet : QuietFrame s s.handPlanned :=
  .of_outlet (s.handPlanned_outlet_frame idle) (Part.handPlanned_port idle)

theorem Part.holdEvent_quiet : QuietFrame s s.holdEvent :=
  .of_outlet (s.holdEvent_outlet_frame idle) (Part.holdEvent_port idle)

theorem Part.overrideMade_quiet (c : ChannelNo) (r : Route) : QuietFrame s (s.overrideMade c r) :=
  .of_outlet (s.overrideMade_outlet_frame c r idle) (Part.retarget_port idle)

theorem Part.overrideGone_quiet (c : ChannelNo) : QuietFrame s (s.overrideGone c) :=
  .of_outlet (s.overrideGone_outlet_frame c idle) (Part.retarget_port idle)

/-- A step's route handed, and then the end of a reported conflict hold (R83, R124). -/
theorem Part.handPlanned_holdEvent_quiet : QuietFrame s s.handPlanned.holdEvent :=
  have handed := Part.handPlanned_quiet idle
  handed.trans (Part.holdEvent_quiet (handed.idle idle))

end

theorem Part.followRoute_quiet (s : Part) : QuietFrame s s.followRoute := by
  refine .of_outlet s.followRoute_outlet_frame ?_
  unfold Part.followRoute
  split <;> rfl

/-! ### Plans and orders -/

theorem Part.setPlan_quiet (p : Option CutPlan) (s : Part) : QuietFrame s (s.setPlan p) := by
  unfold Part.setPlan
  split
  · refine s.modBatch_quiet _ (fun r => ?_)
    cases head : r.head <;> simp [BatchRecord.plain, head, HeadInterface.unplanned]
  · exact .refl s

theorem Part.setPlanned_quiet (r : Route) (s : Part) : QuietFrame s (s.setPlanned r) :=
  s.modPlanner_quiet (f := fun p => { p with planned := some r })

theorem Part.takeRoute_quiet (clean : Bool) (g : Segment) (s : Part) : QuietFrame s (s.takeRoute clean g) :=
  (s.setPlanned_quiet g.route).trans (Part.raiseIf_quiet _ (a := .unplannedBatch) (by decide) _)

theorem Part.recompute_quiet (s : Part) : QuietFrame s s.recompute := by
  unfold Part.recompute
  split
  · exact .refl s
  · split
    · exact .refl s
    · split
      · exact .refl s
      · simp only
        split
        · exact .refl s
        · split
          · exact (s.setPlan_quiet _).trans (Part.takeRoute_quiet _ _ _)
          · exact s.setPlan_quiet _

theorem Part.enterPlan_quiet (s : Part) : QuietFrame s s.enterPlan := by
  unfold Part.enterPlan
  split
  · split
    · exact (s.setPlan_quiet _).trans (Part.takeRoute_quiet _ _ _)
    · exact .refl s
  · exact .refl s

theorem Part.stripPlan_quiet (n : Nat) (s : Part) : QuietFrame s (s.stripPlan n) := by
  unfold Part.stripPlan
  split
  · split
    · exact s.setPlan_quiet _
    · exact .refl s
  · exact .refl s

theorem Part.endOrder_quiet (o : Order) (reason : EndReason) (s : Part) : QuietFrame s (s.endOrder o reason) := by
  have removed := ((s.writeRecord_quiet (.delivery o.number o.batch o.outlet
    (if o.filling then s.vol.tally else 0) reason)).trans
    (Part.modBatch_quiet o.batch (f := fun r => { r with orderLink := none }) _ (fun _ => rfl))).trans
    (Part.modPlanner_quiet (f := fun p =>
      { p with orders := p.orders.filter (fun e => decide (e.number ≠ o.number)) }) _)
  unfold Part.endOrder
  simp only
  split
  · exact removed.trans (Part.recompute_quiet _)
  · exact ((removed.trans (Part.takeRoute_quiet _ _ _)).trans (Part.stripPlan_quiet _ _)).trans
      (Part.recompute_quiet _)
  · exact (removed.trans (Part.stripPlan_quiet _ _)).trans (Part.recompute_quiet _)

theorem Part.endFilling_quiet (keep : Option Nat) (reason : EndReason) (s : Part) :
    QuietFrame s (s.endFilling keep reason) := by
  unfold Part.endFilling
  split
  · split
    · exact .refl s
    · exact s.endOrder_quiet _ _
  · exact .refl s

theorem Part.turnFilling_quiet (n : Nat) (s : Part) : QuietFrame s (s.turnFilling n) :=
  ⟨rfl, List.Subset.refl _, rfl, rfl, rfl⟩

theorem Part.takeSegment_quiet (clean : Bool) (g : Segment) (s : Part) : QuietFrame s (s.takeSegment clean g) := by
  have ended := s.endFilling_quiet g.owner .done
  unfold Part.takeSegment
  simp only
  split
  · split
    · exact ended.trans (Part.takeRoute_quiet _ _ _)
    · exact (ended.trans (Part.turnFilling_quiet _ _)).trans (Part.takeRoute_quiet _ _ _)
  · exact ended.trans (Part.takeRoute_quiet _ _ _)

theorem Part.planStep_quiet (last : Stage) (s : Part) : QuietFrame s (s.planStep last) := by
  unfold Part.planStep
  split
  · exact .refl s
  · exact (s.setPlan_quiet _).trans (Part.takeSegment_quiet _ _ _)

theorem Part.planWithdrawal_quiet (s : Part) : QuietFrame s s.planWithdrawal := by
  unfold Part.planWithdrawal
  split
  · exact (s.setPlan_quiet _).trans (Part.takeRoute_quiet _ _ _)
  · exact .refl s

theorem Part.lateStartFor_quiet (b : BatchNo) (s : Part) : QuietFrame s (s.lateStartFor b) := by
  unfold Part.lateStartFor
  split
  · split
    · exact .refl s
    · exact (((s.endFilling_quiet _ _).trans (Part.turnFilling_quiet _ _)).trans
        (Part.modPlanner_quiet _)).trans (Part.recompute_quiet _)
  · exact .refl s

theorem Part.endRetired_quiet (r : BatchRecord) (s : Part) : QuietFrame s (s.endRetired r) := by
  unfold Part.endRetired
  split
  · exact s.endOrder_quiet _ _
  · exact .refl s

/-- The retirement test takes records, and adds none (R15, R16). -/
theorem Part.retire_quiet (s : Part) : QuietFrame s s.retire := by
  have left : QuietFrame s s.retiredTrain := by
    refine ⟨rfl, List.map_subset _ fun r mem => ?_, rfl, rfl, rfl⟩
    rw [← splitRetired_append s.keepBehind s.train.records]
    exact List.mem_append_right _ mem
  exact left.trans (QuietFrame.foldl _ (fun t r => Part.endRetired_quiet r t) _ _)

/-- Statuses are not plain to see (R4). -/
theorem Part.makePresent_quiet (b : BatchNo) (s : Part) : QuietFrame s (s.mapTrain (makePresent b)) := by
  refine ⟨rfl, fun x mem => ?_, rfl, rfl, rfl⟩
  obtain ⟨r, here, rfl⟩ := List.mem_map.mp mem
  obtain ⟨i, found⟩ := List.mem_iff_getElem?.mp here
  obtain ⟨m, was, same, -⟩ := makePresent_getElem? found
  rw [same]
  exact List.mem_map.mpr ⟨m, List.mem_of_getElem? was, rfl⟩

theorem Part.reportPassage_quiet (s : Part) : QuietFrame s s.reportPassage := by
  unfold Part.reportPassage
  split
  · simp only
    split
    · exact s.writeRecord_quiet _
    · exact (s.writeRecord_quiet _).trans (Part.enqueue_quiet _ _)
  · exact .refl s

/-! ### The planner's and the guards' shares while no launch waits (R105, R106, R110, R136, R137) -/

section
variable {s : Part} (none : s.noLaunch)
include none

theorem Part.limitTest_quiet : QuietFrame s s.limitTest := by
  unfold Part.limitTest
  split
  · split
    · have ended := s.endOrder_quiet ‹Order› .limit
      exact ended.trans (Part.handPlanned_quiet (ended.idle none.2))
    · exact .refl s
  · exact .refl s

theorem Part.guardEnd_quiet : QuietFrame s s.guardEnd := by
  unfold Part.guardEnd
  split
  · have ended := s.endOrder_quiet ‹Order› .guard
    exact ended.trans (Part.handPlanned_quiet (ended.idle none.2))
  · exact .refl s

theorem Part.cutTest_quiet : QuietFrame s s.cutTest := by
  unfold Part.cutTest
  rw [none.1]
  split
  · unfold Part.showEmpty
    simp only
    split
    · exact (s.modPlanner_quiet (f := fun p => { p with emptyShown := true })).trans
        (Part.raise_quiet (a := .launchQueueEmpty) (by decide) _)
    · exact .refl s
  · exact .refl s

theorem Part.plannerShare_quiet (trunk : Nat) : QuietFrame s (s.plannerShare trunk) := by
  unfold Part.plannerShare
  split
  · have added : QuietFrame s (s.addLaunched trunk) := s.modPlanner_quiet
    exact added.trans (Part.cutTest_quiet (added.noLaunch none))
  · exact Part.limitTest_quiet none

theorem Part.applyAction_quiet (c : ChannelNo) (a : GuardAction) : QuietFrame s (s.applyAction c a) := by
  unfold Part.applyAction
  split
  · exact Part.overrideMade_quiet none.2 _ _
  · split
    · exact Part.guardEnd_quiet none
    · exact .refl s

theorem Part.withdrawAction_quiet (c : ChannelNo) (a : GuardAction) : QuietFrame s (s.withdrawAction c a) := by
  unfold Part.withdrawAction
  split
  · exact Part.overrideGone_quiet none.2 _
  · split
    · exact Part.cutTest_quiet none
    · exact .refl s

end

theorem Part.modChannel_quiet (c : ChannelNo) (f : GuardChannel → GuardChannel) (s : Part) :
    QuietFrame s (s.modChannel c f) := ⟨rfl, List.Subset.refl _, rfl, rfl, rfl⟩

theorem Part.driveContact_quiet (c : ChannelNo) (s : Part) : QuietFrame s (s.driveContact c) := by
  unfold Part.driveContact
  split
  · exact ⟨rfl, List.Subset.refl _, rfl, rfl, rfl⟩
  · exact .refl s

section
variable {s : Part} (none : s.noLaunch)
include none

theorem Part.guardMake_quiet (c : ChannelNo) : QuietFrame s (s.guardMake c) := by
  have shown (b : RecordBody) : QuietFrame s (((s.modChannel c (fun k => { k with
      made := true, makeRun := 0, breakRun := 0, latched := (s.guardConfig c).latch })).writeRecord b).raise
      .guardMade) :=
    ((s.modChannel_quiet c _).trans (Part.writeRecord_quiet b _)).trans
      (Part.raise_quiet (a := .guardMade) (by decide) _)
  exact ((shown _).trans (Part.applyAction_quiet ((shown _).noLaunch none) c _)).trans (Part.driveContact_quiet c _)

theorem Part.guardBreak_quiet (event : GuardEvent) (c : ChannelNo) : QuietFrame s (s.guardBreak event c) := by
  have shown (b : RecordBody) : QuietFrame s ((s.modChannel c (fun k => { k with
      made := false, makeRun := 0, breakRun := 0, latched := false })).writeRecord b) :=
    (s.modChannel_quiet c _).trans (Part.writeRecord_quiet b _)
  exact ((shown _).trans (Part.withdrawAction_quiet ((shown _).noLaunch none) c _)).trans (Part.driveContact_quiet c _)

theorem Part.evaluateChannel_quiet (e : Sample) (n : Counted) (taken : Part) (c : ChannelNo) :
    QuietFrame s (Part.evaluateChannel e n taken s c) := by
  unfold Part.evaluateChannel
  simp only
  split
  · split
    · rename_i v t _ _
      have seen := s.modChannel_quiet c (GuardChannel.sample (s.guardConfig c) v t)
      split
      · exact seen.trans (Part.guardMake_quiet (seen.noLaunch none) c)
      · split
        · exact seen.trans (Part.guardBreak_quiet (seen.noLaunch none) _ c)
        · exact seen
    · exact .refl s
  · exact .refl s

theorem Part.evaluateGuards_quiet (e : Sample) (n : Counted) : QuietFrame s (s.evaluateGuards e n) :=
  List.foldlRecOn (motive := QuietFrame s) allChannels _ (.refl s)
    (fun _ h c _ => h.trans (Part.evaluateChannel_quiet (h.noLaunch none) e n s c))

end

end Sys2Proof.Machine
end

section
/-! SUPPORT. What the detector's own operations leave of an interface that has been completed: it stays CLEARED on its
channel, and its batch does not become the window again (R73, R91). -/

open Sys2Proof

namespace Sys2Proof.Machine

/-! ## The detector's share of a sample event in two parts -/

/-- The part after the report of readiness and the hand-off of a window that has moved, ahead of the readings (R77,
R83). -/
def Part.handedOver (readiness moved : Bool) (s : Part) : Part :=
  let reported := if readiness then s.readinessReport else s
  if moved && decide (reported.det.window = s.det.window) then reported.evaluate else reported

/-- The value on the density channel at a sample event (R78). -/
def Counted.densityValue (n : Counted) : Option Int := n.corrected.map (fun d => (d : Int))

theorem Part.detectorShare_eq (e : Sample) (n : Counted) (readiness moved : Bool) (s : Part) :
    s.detectorShare e n readiness moved =
      if (s.handedOver readiness moved).det.window = s.det.window then
        (s.handedOver readiness moved).takeReadings n.densityValue e.marker
      else s.handedOver readiness moved := rfl

/-- The part with its window interface back from its mix, the counts at 0 and the mix list empty (R80). -/
def Part.withdrawn (s : Part) : Part :=
  ((s.modWindow (fun h => { h with leadRec := none, early := false, state := armedState s.cfg h })).zeroCounts).modDet
    (fun d => { d with mix := [] })

theorem Part.withdraw_eq (s : Part) : s.withdraw = ((s.withdrawn.planWithdrawal).handPlanned).holdEvent := rfl

/-! ## A batch whose interface has been completed -/

/-- Every head interface on the batch `b` is CLEARED, on the channel `c`. -/
def Part.spent (b : BatchNo) (c : Option Channel) (s : Part) : Prop :=
  ∀ x ∈ s.train.records, x.batch = b → ∀ g, x.head = some g → g.state = .cleared ∧ g.channel = c

/-- The interface on the batch `b` has been completed on the channel `c`, and another window follows it. -/
def Part.gone (b : BatchNo) (c : Option Channel) (s : Part) : Prop := s.det.window ≠ some b ∧ s.spent b c

theorem HeadInterface.unplanned_inj {g k : HeadInterface} (same : k.unplanned = g.unplanned) :
    k.state = g.state ∧ k.channel = g.channel ∧ k.place = g.place := by
  obtain ⟨_, _⟩ := k
  simp only [HeadInterface.unplanned, HeadInterface.mk.injEq] at same
  simp [HeadInterface.place, same]

/-- A record of `t` is plainly one of `s`. -/
theorem QuietFrame.record {s t : Part} (h : QuietFrame s t) {x : BatchRecord} (mem : x ∈ t.train.records) :
    ∃ y ∈ s.train.records, y.batch = x.batch ∧ y.product = x.product ∧
      y.head.map HeadInterface.unplanned = x.head.map HeadInterface.unplanned := by
  obtain ⟨y, was, same⟩ := List.mem_map.mp (h.plains (List.mem_map.mpr ⟨x, mem, rfl⟩))
  simp only [BatchRecord.plain, Prod.mk.injEq] at same
  exact ⟨y, was, same⟩

theorem QuietFrame.spent {s t : Part} (h : QuietFrame s t) {b : BatchNo} {c : Option Channel} (spent : s.spent b c) :
    t.spent b c := by
  intro x mem batch g head
  obtain ⟨y, was, same, -, heads⟩ := h.record mem
  rw [head, Option.map_some] at heads
  obtain ⟨k, is, bare⟩ := Option.map_eq_some_iff.mp heads
  obtain ⟨state, channel, -⟩ := HeadInterface.unplanned_inj bare
  rw [← state, ← channel]
  exact spent y was (same.trans batch) k is

/-- Of the records of another batch than the window's, a change of the window interface changes none. -/
theorem Part.modWindow_spent {s : Part} {b : BatchNo} {c : Option Channel} (f : HeadInterface → HeadInterface)
    (other : s.det.window ≠ some b) (spent : s.spent b c) : (s.modWindow f).spent b c := by
  cases window : s.det.window with
  | none => rwa [Part.modWindow_none f window]
  | some w =>
    rw [Part.modWindow_window f window]
    intro x mem batch g head
    obtain ⟨y, was, rfl⟩ := List.mem_map.mp mem
    split at batch
    · rename_i isWindow
      exact absurd (by rw [window, ← isWindow]; exact congrArg some batch) other
    · rename_i notWindow
      rw [if_neg notWindow] at head
      exact spent y was batch g head

/-- An older head than the oldest live one is not what the window moves to. -/
theorem Part.spent.not_oldest {s : Part} {b : BatchNo} {c : Option Channel} (spent : s.spent b c) :
    oldestLive s.train.records ≠ some b := by
  intro oldest
  obtain ⟨x, found, batch⟩ := Option.map_eq_some_iff.mp oldest
  have live := List.find?_some found
  unfold BatchRecord.headLive at live
  cases head : x.head with
  | none => simp [head] at live
  | some g =>
    have cleared := (spent x (List.mem_of_find?_eq_some found) batch g head).1
    simp [head, cleared] at live

/-! ## The passing frame -/

/-- `t` has ANALYSER_LOST and the launches of `s`, and its window interface is of no batch completed in `s`. -/
structure PassingFrame (s t : Part) : Prop where
  loss : SameLoss s t
  launches : t.planner.launches = s.planner.launches
  incoming : t.planner.incoming = s.planner.incoming
  gone : ∀ b c, s.gone b c → t.gone b c

theorem PassingFrame.refl (s : Part) : PassingFrame s s := ⟨rfl, rfl, rfl, fun _ _ => id⟩

theorem PassingFrame.trans {s t u : Part} (h : PassingFrame s t) (k : PassingFrame t u) : PassingFrame s u :=
  ⟨Eq.trans k.loss h.loss, k.launches.trans h.launches, k.incoming.trans h.incoming,
    fun b c => k.gone b c ∘ h.gone b c⟩

theorem PassingFrame.idle {s t : Part} (h : PassingFrame s t) (idle : s.planner.incoming = none) :
    t.planner.incoming = none := h.incoming.trans idle

theorem PassingFrame.noLaunch {s t : Part} (h : PassingFrame s t) (none : s.noLaunch) : t.noLaunch :=
  ⟨h.launches.trans none.1, h.incoming.trans none.2⟩

theorem PassingFrame.foldl {α : Type} (f : Part → α → Part) (h : ∀ s a, PassingFrame s (f s a)) (l : List α)
    (s : Part) : PassingFrame s (l.foldl f s) := by
  induction l generalizing s with
  | nil => exact .refl s
  | cons a l ih => exact (h s a).trans (ih _)

theorem QuietFrame.passing {s t : Part} (h : QuietFrame s t) : PassingFrame s t :=
  ⟨h.loss, h.launches, h.incoming, fun _ _ gone => ⟨by rw [h.det]; exact gone.1, h.spent gone.2⟩⟩

theorem Part.modWindow_det (f : HeadInterface → HeadInterface) (s : Part) : (s.modWindow f).det = s.det := by
  unfold Part.modWindow
  split <;> rfl

theorem Part.modWindow_port (f : HeadInterface → HeadInterface) (s : Part) : (s.modWindow f).port = s.port := by
  unfold Part.modWindow
  split <;> rfl

theorem Part.modWindow_planner (f : HeadInterface → HeadInterface) (s : Part) :
    (s.modWindow f).planner = s.planner := by
  unfold Part.modWindow
  split <;> rfl

theorem Part.modWindow_passing (f : HeadInterface → HeadInterface) (s : Part) : PassingFrame s (s.modWindow f) :=
  ⟨.of_port (s.modWindow_port f), by rw [s.modWindow_planner f], by rw [s.modWindow_planner f],
    fun _ _ gone => ⟨by rw [s.modWindow_det f]; exact gone.1, s.modWindow_spent f gone.1 gone.2⟩⟩

theorem Part.modDet_passing (f : Detector → Detector) (s : Part)
    (h : ∀ d, (f d).window = d.window := by intro; rfl) : PassingFrame s (s.modDet f) :=
  ⟨rfl, rfl, rfl, fun _ _ gone => ⟨fun window => gone.1 ((h s.det).symm.trans window), gone.2⟩⟩

theorem Part.zeroCounts_passing (s : Part) : PassingFrame s s.zeroCounts := s.modDet_passing _

theorem Part.setChannel_passing (ch : Channel × Option RefSet) (s : Part) : PassingFrame s (s.setChannel ch) :=
  (s.modWindow_passing _).trans (Part.modDet_passing _ _)

theorem Part.takeStage_passing (m : Method) (s : Part) (g : Stage) : PassingFrame s (s.takeStage m g) := by
  unfold Part.takeStage
  cases g with
  | leading => exact (s.modWindow_passing _).trans (Part.modDet_passing _ _)
  | midpoint => exact (s.modWindow_passing _).trans (Part.modDet_passing _ _)
  | trailing => exact s.modWindow_passing _

theorem Part.markOverdue_passing (again : Bool) (h : HeadInterface) (s : Part) :
    PassingFrame s (s.markOverdue again h) :=
  (s.modWindow_passing _).trans (Part.raiseIf_quiet _ (a := .interfaceOverdue) (by decide) _).passing

/-! ## Window entry and completion (R74, R91) -/

/-- The part in the middle of a completion, ahead of the window entry (R91). -/
def Part.settledAfter (r : BatchRecord) (h : HeadInterface) (s : Part) : Part :=
  (((s.completed r h).retire.modDet (fun d => { d with midStamp := none, mix := [] })).handPlanned).holdEvent

theorem Part.complete_settled {r : BatchRecord} {h : HeadInterface} {s : Part} (found : s.windowHead = some (r, h)) :
    s.complete = (s.settledAfter r h).nextWindow := Part.complete_eq found

/-- The window interface CLEARED leaves no head on its batch that is not (R91). -/
theorem Part.modWindow_clear_spent {r : BatchRecord} {h : HeadInterface} {s : Part} (inTrain : s.ordered)
    (found : s.windowHead = some (r, h)) (degraded : Bool) :
    (s.modWindow (HeadInterface.clear degraded)).spent r.batch h.channel := by
  obtain ⟨window, here, head⟩ := Part.windowHead_eq_some.mp found
  rw [Part.modWindow_window _ window]
  intro x mem batch g is
  obtain ⟨y, was, rfl⟩ := List.mem_map.mp mem
  split at is
  · rename_i same
    rw [inTrain.record_unique was (findBatch_mem here).1 same] at is
    simp only [head, Option.map_some, Option.some.injEq] at is
    subst is
    exact ⟨rfl, rfl⟩
  · rename_i other
    rw [if_neg other] at batch
    exact absurd batch other

section
variable {s : Part} (idle : s.planner.incoming = none)
include idle

/-- A window entry at another batch, and what it leaves of a completed interface. -/
theorem Part.enterWindow_passing (b : BatchNo) :
    PassingFrame (s.modDet (fun d => { d with window := some b })) (s.enterWindow b) := by
  have chosen := ((Part.setChannel_passing (s.modDet (fun d => { d with window := some b })).choiceNow
    (s.modDet (fun d => { d with window := some b }))).trans (Part.zeroCounts_passing _)).trans
    (Part.modDet_passing (fun d => { d with mix := [], midStamp := none }) _)
  have planned := chosen.trans (Part.enterPlan_quiet _).passing
  exact planned.trans (Part.handPlanned_quiet (planned.idle idle)).passing

/-- The window moved to the oldest live head (R73). -/
theorem Part.nextWindow_passing :
    SameLoss s s.nextWindow ∧ s.nextWindow.planner.launches = s.planner.launches ∧
      s.nextWindow.planner.incoming = s.planner.incoming ∧ ∀ b c, s.spent b c → s.nextWindow.gone b c := by
  unfold Part.nextWindow
  split
  · rename_i w oldest
    have entered := Part.enterWindow_passing idle w
    refine ⟨entered.loss, entered.launches, entered.incoming, fun b c spent => entered.gone b c ⟨?_, spent⟩⟩
    exact fun same => spent.not_oldest (oldest.trans same)
  · exact ⟨rfl, rfl, rfl, fun _ _ spent => ⟨nofun, spent⟩⟩

/-- What a completion hands on before its window entry. -/
theorem Part.settledAfter_passing (r : BatchRecord) (h : HeadInterface) :
    PassingFrame (s.modWindow (HeadInterface.clear (s.degraded h))) (s.settledAfter r h) ∧
      ∀ b c, (s.modWindow (HeadInterface.clear (s.degraded h))).spent b c → (s.settledAfter r h).spent b c := by
  have retired : QuietFrame (s.modWindow (HeadInterface.clear (s.degraded h))) (s.completed r h).retire :=
    (((((Part.reportPassage_quiet _).trans (Part.planStep_quiet .trailing _)).trans (Part.setPlan_quiet none _)).trans
      (Part.makePresent_quiet r.batch _)).trans (Part.lateStartFor_quiet r.batch _)).trans (Part.retire_quiet _)
  have emptied := retired.passing.trans (Part.modDet_passing (fun d => { d with midStamp := none, mix := [] }) _)
  have handed := Part.handPlanned_holdEvent_quiet (emptied.idle (by rw [Part.modWindow_planner]; exact idle))
  exact ⟨emptied.trans handed.passing, fun b c spent => handed.spent (retired.spent spent)⟩

/-- A completion leaves what was completed before it. -/
theorem Part.complete_passing : PassingFrame s s.complete := by
  cases found : s.windowHead with
  | none =>
    have same : s.complete = s := by simp [Part.complete, found]
    rw [same]
    exact .refl s
  | some w =>
    obtain ⟨r, h⟩ := w
    rw [Part.complete_settled found]
    have cleared := (s.modWindow_passing (HeadInterface.clear (s.degraded h))).trans
      (Part.settledAfter_passing idle r h).1
    obtain ⟨loss, launches, incoming, gone⟩ := Part.nextWindow_passing (cleared.idle idle)
    exact cleared.trans ⟨loss, launches, incoming, fun b c before => gone b c before.2⟩

/-- A completion leaves its own interface CLEARED on its channel, behind the window (R91, R73). -/
theorem Part.complete_gone {r : BatchRecord} {h : HeadInterface} (inTrain : s.ordered)
    (found : s.windowHead = some (r, h)) : s.complete.gone r.batch h.channel := by
  obtain ⟨settled, spent⟩ := Part.settledAfter_passing idle r h
  obtain ⟨-, -, -, gone⟩ := Part.nextWindow_passing (settled.idle (by rw [Part.modWindow_planner]; exact idle))
  rw [Part.complete_settled found]
  exact gone _ _ (spent _ _ (Part.modWindow_clear_spent inTrain found _))

/-! ## Steps of stages, evaluations, readings (R78 to R88) -/

omit idle in
/-- A withdrawal of the window interface, ahead of its plan. -/
theorem Part.withdrawn_passing (s : Part) : PassingFrame s s.withdrawn :=
  ((s.modWindow_passing _).trans (Part.zeroCounts_passing _)).trans (Part.modDet_passing _ _)

/-- A step of stages up to its last, handed to the planner (R83, R102). -/
theorem Part.planStep_handed_quiet (g : Stage) : QuietFrame s (((s.planStep g).handPlanned).holdEvent) :=
  have planned := s.planStep_quiet g
  planned.trans (Part.handPlanned_holdEvent_quiet (planned.idle idle))

theorem Part.takeStages_passing (m : Method) (stages : List Stage) : PassingFrame s (s.takeStages m stages) := by
  have marked := PassingFrame.foldl (Part.takeStage m) (Part.takeStage_passing m) stages s
  have still := marked.idle idle
  unfold Part.takeStages
  split
  · exact .refl s
  · simp only
    split
    · exact marked.trans (Part.complete_passing still)
    · exact marked.trans (Part.planStep_handed_quiet still .leading).passing
    · exact marked.trans (Part.planStep_handed_quiet still .midpoint).passing

omit idle in
theorem Part.evaluateWith_passing (fuel : Nat) (waited : Bool) (s : Part) (idle : s.planner.incoming = none) :
    PassingFrame s (s.evaluateWith fuel waited) := by
  induction fuel generalizing waited s with
  | zero => exact .refl s
  | succ n ih =>
    unfold Part.evaluateWith
    split
    · exact .refl s
    · rename_i r h _
      split
      · split
        · split
          · exact s.markOverdue_passing _ _
          · exact .refl s
        · have taken := Part.takeStages_passing idle .volume h.volumeDue
          simp only
          split
          · exact taken.trans (ih _ _ (taken.idle idle))
          · exact taken
      · split
        · have marked := s.markOverdue_passing (waited && !s.degraded h) h
          simp only
          split
          · exact marked
          · have taken := marked.trans (Part.takeStages_passing (marked.idle idle) .late
              [.leading, .midpoint, .trailing])
            exact taken.trans (ih _ _ (taken.idle idle))
        · exact .refl s

theorem Part.evaluate_passing : PassingFrame s s.evaluate := s.evaluateWith_passing _ _ idle

/-- The window interface on another channel, with the counts at 0, evaluated (R77). -/
theorem Part.rechosen_passing (ch : Channel × Option RefSet) :
    PassingFrame s ((s.setChannel ch).zeroCounts).evaluate :=
  have set := (s.setChannel_passing ch).trans (Part.zeroCounts_passing _)
  set.trans (Part.evaluate_passing (set.idle idle))

theorem Part.readinessReport_passing : PassingFrame s s.readinessReport := by
  unfold Part.readinessReport
  split
  · exact .refl s
  · split
    · simp only
      split
      · exact .refl s
      · exact Part.rechosen_passing idle _
    · split
      · split
        · exact .refl s
        · exact Part.rechosen_passing idle _
      · exact .refl s

theorem Part.withdraw_passing : PassingFrame s s.withdraw := by
  have planned := s.withdrawn_passing.trans (Part.planWithdrawal_quiet _).passing
  exact planned.trans (Part.handPlanned_holdEvent_quiet (planned.idle idle)).passing

theorem Part.takeReadings_passing (density marker : Option Int) :
    PassingFrame s (s.takeReadings density marker) := by
  unfold Part.takeReadings
  split
  · rename_i h refs _ _
    have counted (v : Int) : PassingFrame s (s.modDet (Detector.count s.cfg h.state refs v)) := s.modDet_passing _
    simp only
    split
    · exact .refl s
    · rename_i v _
      split
      · exact (counted v).trans (Part.withdraw_passing ((counted v).idle idle))
      · have taken (due : List Stage) := (counted v).trans
          (Part.takeStages_passing ((counted v).idle idle) .analyser due)
        split
        · exact (taken _).trans (Part.evaluate_passing ((taken _).idle idle))
        · exact taken _
  · exact .refl s

/-- A report of readiness, and the hand-off of a window that has moved, ahead of the readings (R77, R83). -/
theorem Part.handedOver_passing (readiness moved : Bool) : PassingFrame s (s.handedOver readiness moved) := by
  have reported : PassingFrame s (if readiness then s.readinessReport else s) := by
    split
    · exact Part.readinessReport_passing idle
    · exact .refl s
  unfold Part.handedOver
  simp only
  generalize (if readiness then s.readinessReport else s) = t at *
  split
  · exact reported.trans (Part.evaluate_passing (reported.idle idle))
  · exact reported

theorem Part.detectorShare_passing (e : Sample) (n : Counted) (readiness moved : Bool) :
    PassingFrame s (s.detectorShare e n readiness moved) := by
  have handed := Part.handedOver_passing idle readiness moved
  rw [Part.detectorShare_eq]
  split
  · exact handed.trans (Part.takeReadings_passing (handed.idle idle) _ _)
  · exact handed

end

end Sys2Proof.Machine
end

section
/-! SUPPORT. The window interface followed through the detector's operations: it stays the window as it lies, or it is
completed on its channel (R73, R77, R83, R84, R86, R91). -/

open Sys2Proof

namespace Sys2Proof.Machine

/-! ## Following the window interface -/

/-- The train in order, the window law, and no launch cut that waits. -/
structure Part.lawful (s : Part) : Prop where
  ordered : s.ordered
  window : s.windowLaw
  idle : s.planner.incoming = none

theorem Part.lawful.next {s t : Part} (law : s.lawful) (k : LawFrame s t)
    (incoming : t.planner.incoming = s.planner.incoming) : t.lawful :=
  ⟨k.ordered law.ordered, k.law law.ordered law.window, incoming.trans law.idle⟩

/-- A head interface that waits to be reached (R61). -/
abbrev HeadState.waits (k : HeadState) : Prop := k = .distant ∨ k = .armed

/-- `t` has the interface `h` of `r` as its window, as it lies and on its channel, with what `Q` says of its state and
of the detector. -/
def Part.stays (r : BatchRecord) (h : HeadInterface) (Q : HeadState → Detector → Prop) (t : Part) : Prop :=
  ∃ x g, t.windowHead = some (x, g) ∧ x.batch = r.batch ∧ x.product = r.product ∧ g.place = h.place ∧
    g.channel = h.channel ∧ Q g.state t.det

/-- The interface `h` of `r` has been completed on its channel, or stays the window. -/
def Part.carries (r : BatchRecord) (h : HeadInterface) (Q : HeadState → Detector → Prop) (t : Part) : Prop :=
  t.gone r.batch h.channel ∨ t.stays r h Q

section
variable {r : BatchRecord} {h : HeadInterface} {Q P : HeadState → Detector → Prop} {s t : Part}

theorem Part.stays.of_windowHead (found : s.windowHead = some (r, h)) (q : Q h.state s.det) : s.stays r h Q :=
  ⟨r, h, found, rfl, rfl, rfl, rfl, q⟩

theorem Part.stays.mono (stays : s.stays r h Q) (q : ∀ k d, Q k d → P k d) : s.stays r h P := by
  obtain ⟨x, g, found, batch, product, place, channel, had⟩ := stays
  exact ⟨x, g, found, batch, product, place, channel, q _ _ had⟩

theorem Part.carries.mono (carries : s.carries r h Q) (q : ∀ k d, Q k d → P k d) : s.carries r h P :=
  carries.imp id (·.mono q)

/-- What stays the window is followed on from there. -/
theorem Part.stays.trans (stays : s.stays r h Q)
    (k : ∀ x g, s.windowHead = some (x, g) → g.place = h.place → g.channel = h.channel → Q g.state s.det →
      t.stays x g P) : t.stays r h P := by
  obtain ⟨x, g, found, batch, product, place, channel, q⟩ := stays
  obtain ⟨y, e, after, batch', product', place', channel', p⟩ := k x g found place channel q
  exact ⟨y, e, after, batch'.trans batch, product'.trans product, place'.trans place, channel'.trans channel, p⟩

/-- A completed interface stays completed, and one that stays the window is followed on from there. -/
theorem Part.carries.trans (carries : s.carries r h Q) (passing : PassingFrame s t)
    (k : ∀ x g, s.windowHead = some (x, g) → x.batch = r.batch → x.product = r.product → g.place = h.place →
      g.channel = h.channel → Q g.state s.det → t.carries x g P) : t.carries r h P := by
  rcases carries with gone | ⟨x, g, found, batch, product, place, channel, q⟩
  · exact .inl (passing.gone _ _ gone)
  · rcases k x g found batch product place channel q with gone | ⟨y, e, after, batch', product', place', channel', p⟩
    · exact .inl (by rw [← batch, ← channel]; exact gone)
    · exact .inr ⟨y, e, after, batch'.trans batch, product'.trans product, place'.trans place,
        channel'.trans channel, p⟩

/-- Under the window law the window has a head interface that is not CLEARED. -/
theorem Part.windowLaw.found (law : s.windowLaw) (inTrain : s.ordered) {b : BatchNo} (window : s.det.window = some b) :
    ∃ x g, s.windowHead = some (x, g) ∧ x.batch = b ∧ x ∈ s.train.records ∧ x.head = some g ∧ g.state ≠ .cleared := by
  obtain ⟨x, found, rfl⟩ := Option.map_eq_some_iff.mp (law.1.symm.trans window)
  have mem := List.mem_of_find?_eq_some found
  have live : x.headLive = true := List.find?_some found
  cases head : x.head with
  | none => simp [BatchRecord.headLive, head] at live
  | some g =>
    refine ⟨x, g, Part.windowHead_eq_some.mpr ⟨window, findBatch_of_mem (inOrder.nodup inTrain) mem, head⟩, rfl, mem,
      head, by simpa [BatchRecord.headLive, head] using live⟩

theorem Part.lawful.awake (law : s.lawful) (found : s.windowHead = some (r, h)) : h.state ≠ .cleared := by
  obtain ⟨window, here, head⟩ := Part.windowHead_eq_some.mp found
  have live := law.window.headLive law.ordered (findBatch_mem here).1 window
  simpa [BatchRecord.headLive, head] using live

/-- What is quiet leaves the window interface and the detector (R83). -/
theorem QuietFrame.stays (quiet : QuietFrame s t) (was : s.ordered) (law : t.lawful)
    (found : s.windowHead = some (r, h)) : t.stays r h (fun k d => k = h.state ∧ d = s.det) := by
  obtain ⟨window, here, head⟩ := Part.windowHead_eq_some.mp found
  obtain ⟨x, g, is, batch, mem, present, -⟩ := law.window.found law.ordered (by rw [quiet.det]; exact window)
  obtain ⟨y, old, same, product, heads⟩ := quiet.record mem
  rw [was.record_unique old (findBatch_mem here).1 (same.trans batch)] at product heads
  rw [head, present, Option.map_some, Option.map_some, Option.some.injEq] at heads
  obtain ⟨state, channel, place⟩ := HeadInterface.unplanned_inj heads
  exact ⟨x, g, is, batch, product.symm, place.symm, channel.symm, state.symm, quiet.det⟩

theorem Part.modDet_windowHead {f : Detector → Detector} (same : (f s.det).window = s.det.window) :
    (s.modDet f).windowHead = s.windowHead := by
  unfold Part.windowHead
  show (match (f s.det).window with | none => _ | some b => _) = _
  rw [same]
  rfl

/-- A change of the detector but for its window leaves the window interface. -/
theorem Part.stays.modDet {f : Detector → Detector} (stays : s.stays r h Q)
    (same : (f s.det).window = s.det.window) (q : ∀ k, Q k s.det → P k (f s.det)) : (s.modDet f).stays r h P := by
  obtain ⟨x, g, found, batch, product, place, channel, had⟩ := stays
  exact ⟨x, g, (Part.modDet_windowHead same).trans found, batch, product, place, channel, q _ had⟩

/-! ## Stages (R83, R88) -/

/-- The state of an interface after a stage (R88). -/
def HeadState.after (k : HeadState) : Stage → HeadState
  | .leading => .inMix
  | .midpoint => .pastMid
  | .trailing => k

/-- What stages leave of the detector: the reference set, the counts, and a withdrawal count at 0. -/
structure Detector.Keeps (d e : Detector) : Prop where
  refs : e.refs = d.refs
  lead : e.leadCount = d.leadCount
  mid : e.midCount = d.midCount
  trail : e.trailCount = d.trailCount
  breakRun : d.breakRun = 0 → e.breakRun = 0

theorem Detector.Keeps.refl (d : Detector) : d.Keeps d := ⟨rfl, rfl, rfl, rfl, id⟩

theorem Detector.Keeps.trans {d e f : Detector} (h : d.Keeps e) (k : e.Keeps f) : d.Keeps f :=
  ⟨k.refs.trans h.refs, k.lead.trans h.lead, k.mid.trans h.mid, k.trail.trans h.trail, k.breakRun ∘ h.breakRun⟩

theorem HeadInterface.take_lies (m : Method) (stamp : StageRecord) (g : Stage) (h : HeadInterface) :
    (h.take m stamp g).place = h.place ∧ (h.take m stamp g).channel = h.channel ∧
      (h.take m stamp g).state = h.state.after g := by
  cases g <;> exact ⟨rfl, rfl, rfl⟩

theorem Part.takeStage_stays (m : Method) (g : Stage) (found : s.windowHead = some (r, h)) :
    (s.takeStage m g).stays r h (fun k d => k = h.state.after g ∧ s.det.Keeps d) := by
  obtain ⟨place, channel, state⟩ := h.take_lies m (s.stageRecord m) g
  have marked : (s.modWindow (fun k => k.take m (s.stageRecord m) g)).stays r h
      (fun k d => k = h.state.after g ∧ d = s.det) :=
    ⟨_, _, Part.modWindow_windowHead _ found, rfl, rfl, place, channel, state, s.modWindow_det _⟩
  unfold Part.takeStage
  cases g with
  | leading => exact marked.modDet rfl (fun k had => ⟨had.1, had.2 ▸ ⟨rfl, rfl, rfl, rfl, fun _ => rfl⟩⟩)
  | midpoint => exact marked.modDet rfl (fun k had => ⟨had.1, had.2 ▸ ⟨rfl, rfl, rfl, rfl, id⟩⟩)
  | trailing => exact marked.mono (fun k d had => ⟨had.1, had.2 ▸ .refl _⟩)

theorem Part.foldl_takeStage_stays (m : Method) (stages : List Stage) (found : s.windowHead = some (r, h)) :
    (stages.foldl (Part.takeStage m) s).stays r h
      (fun k d => k = stages.foldl HeadState.after h.state ∧ s.det.Keeps d) := by
  induction stages generalizing s r h with
  | nil => exact .of_windowHead found ⟨rfl, .refl _⟩
  | cons g rest ih =>
    refine (Part.takeStage_stays m g found).trans (fun x e next _ _ had => ?_)
    obtain ⟨state, keeps⟩ := had
    exact (ih next).mono (fun k d had => ⟨by rw [had.1, state]; rfl, keeps.trans had.2⟩)

section
variable (law : s.lawful) (found : s.windowHead = some (r, h)) (m : Method)
include law

theorem Part.lawful.stagesTaken (stages : List Stage) : (stages.foldl (Part.takeStage m) s).lawful :=
  law.next (.foldl (Part.takeStage m) (fun t g => t.takeStage_law m g) stages s)
    (PassingFrame.foldl (Part.takeStage m) (Part.takeStage_passing m) stages s).incoming

theorem Part.lawful.takeStages (stages : List Stage) : (s.takeStages m stages).lawful :=
  law.next (s.takeStages_law m stages) (Part.takeStages_passing law.idle m stages).incoming

include found

/-- A step with a trailing edge completes the interface (R91). -/
theorem Part.takeStages_gone {stages : List Stage} (last : stages.getLast? = some .trailing) :
    (s.takeStages m stages).gone r.batch h.channel := by
  obtain ⟨x, g, marked, batch, -, -, channel, -⟩ := Part.foldl_takeStage_stays m stages found
  have still := law.stagesTaken m stages
  have completed := Part.complete_gone still.idle still.ordered marked
  simp only [Part.takeStages, last]
  rwa [← batch, ← channel]

/-- A step without a trailing edge leaves the interface the window (R83). -/
theorem Part.takeStages_stays {stages : List Stage} (last : stages.getLast? ≠ some .trailing) :
    (s.takeStages m stages).stays r h (fun k d => k = stages.foldl HeadState.after h.state ∧ s.det.Keeps d) := by
  have marked := Part.foldl_takeStage_stays m stages found
  have still := law.stagesTaken m stages
  have after := law.takeStages m stages
  have handed (g : Stage) (l : (((stages.foldl (Part.takeStage m) s).planStep g).handPlanned).holdEvent.lawful) :
      (((stages.foldl (Part.takeStage m) s).planStep g).handPlanned).holdEvent.stays r h
        (fun k d => k = stages.foldl HeadState.after h.state ∧ s.det.Keeps d) :=
    marked.trans (fun x e next _ _ had =>
      ((Part.planStep_handed_quiet still.idle g).stays still.ordered l next).mono (fun k d now =>
        ⟨now.1.trans had.1, now.2 ▸ had.2⟩))
  cases is : stages.getLast? with
  | none =>
    obtain rfl := List.getLast?_eq_none_iff.mp is
    exact .of_windowHead found ⟨rfl, .refl _⟩
  | some g =>
    cases g with
    | trailing => exact absurd is last
    | leading =>
      simp only [Part.takeStages, is] at after ⊢
      exact handed .leading after
    | midpoint =>
      simp only [Part.takeStages, is] at after ⊢
      exact handed .midpoint after

end

/-! ### Which stages are due -/

/-- The stages due in a state where the conditions of the three hold or not: each asks for those before it (R83). -/
def HeadState.due (k : HeadState) (lead mid trail : Bool) : List Stage :=
  let trailing := if trail then [Stage.trailing] else []
  let midpoint := if mid then Stage.midpoint :: trailing else []
  match k with
  | .distant => if lead then Stage.leading :: midpoint else []
  | .armed => if lead then Stage.leading :: midpoint else []
  | .inMix => midpoint
  | .pastMid => trailing
  | .cleared => []

theorem HeadInterface.volumeDue_eq (h : HeadInterface) :
    h.volumeDue = h.state.due (decide (h.d ≤ (h.w / 2 : Nat))) (decide (h.d ≤ 0))
      (decide (h.d ≤ -((h.w / 2 : Nat) : Int))) := by
  unfold HeadInterface.volumeDue HeadState.due
  cases h.state <;> simp only [decide_eq_true_eq]

theorem Detector.analyserDue_eq (make : Nat) (state : HeadState) (d : Detector) :
    d.analyserDue make state = state.due (decide (make ≤ d.leadCount)) (decide (make ≤ d.midCount))
      (decide (make ≤ d.trailCount)) := by
  unfold Detector.analyserDue HeadState.due
  cases state <;> simp only [decide_eq_true_eq]

/-- A trailing edge is the last stage of its step. -/
theorem HeadState.due_trailing (k : HeadState) (lead mid trail : Bool) :
    (k.due lead mid trail).contains .trailing = true → (k.due lead mid trail).getLast? = some .trailing := by
  revert lead mid trail
  cases k <;> decide

/-- After a step without a trailing edge no stage is due. -/
theorem HeadState.due_taken (k : HeadState) (lead mid trail : Bool) :
    ¬ (k.due lead mid trail).contains .trailing = true →
      ((k.due lead mid trail).foldl HeadState.after k).due lead mid trail = [] := by
  revert lead mid trail
  cases k <;> decide

/-- An interface that waits after a step has taken no stage. -/
theorem HeadState.due_waits (k : HeadState) (lead mid trail : Bool) :
    ((k.due lead mid trail).foldl HeadState.after k).waits → (k.due lead mid trail).foldl HeadState.after k = k := by
  revert lead mid trail
  cases k <;> decide

theorem not_trailing_last {stages : List Stage} (due : ¬ stages.contains .trailing = true) :
    stages.getLast? ≠ some .trailing :=
  fun last => due (List.contains_iff_mem.mpr (List.mem_of_getLast? last))

/-! ## Evaluations (R84, R86) -/

/-- An interface `h` in the state `k` has nothing left to do: while it is not DEGRADED no stage is due by volume, and
on an analyser no late stage. -/
def Part.rests (h : HeadInterface) (k : HeadState) (s : Part) : Prop :=
  s.degraded { h with state := k } = false →
    if h.channel = some .volume then ({ h with state := k } : HeadInterface).volumeDue = []
    else ¬ (k.waits ∧ s.past h = true)

theorem HeadInterface.place_inj {g h : HeadInterface} (place : g.place = h.place) :
    g.leading = h.leading ∧ g.d = h.d ∧ g.w = h.w ∧ g.u = h.u ∧ g.restartMark = h.restartMark := by
  simp only [HeadInterface.place, Prod.mk.injEq] at place
  tauto

/-- Whether an interface rests goes by how it lies, its channel and its state. -/
theorem Part.rests_congr {g : HeadInterface} {k : HeadState} (place : g.place = h.place)
    (channel : g.channel = h.channel) (image : t.image = s.image) (table : t.peer.table = s.peer.table) : t.rests g k ↔ s.rests h k := by
  obtain ⟨-, d, w, u, mark⟩ := HeadInterface.place_inj place
  have cfg : t.cfg = s.cfg := by rw [Part.cfg, image]; rfl
  simp only [Part.rests, Part.degraded, Part.past, armingDistance, HeadInterface.volumeDue_eq, cfg, table, d, w,
    u, mark, channel]
  exact Iff.rfl

/-- A hand-off of the window keeps the laws (R67, R83). -/
theorem Part.lawful.evaluate (law : s.lawful) : s.evaluate.lawful :=
  law.next s.evaluate_law (Part.evaluate_passing law.idle).incoming

section
variable (law : s.lawful) (found : s.windowHead = some (r, h))
include law found

/-- An evaluation leaves the window interface at rest, or has completed it; on an analyser it stays in its state. -/
theorem Part.evaluateWith_carries (fuel : Nat) (waited : Bool) :
    (s.evaluateWith (fuel + 1) waited).carries r h (fun k d =>
      s.det.Keeps d ∧ (h.channel ≠ some .volume → k = h.state) ∧ s.rests h k) := by
  have marked (again : Bool) : (s.markOverdue again h).stays r h (fun k d => k = h.state ∧ d = s.det) :=
    ⟨_, _, Part.markOverdue_windowHead again h found, rfl, rfl, rfl, rfl, rfl, by
      rw [Part.markOverdue, (Part.raiseIf_line _ _ _).det, Part.modWindow_det]⟩
  have idle (held : s.degraded h = true) : s.rests h h.state := fun free => absurd held (by rw [free]; nofun)
  unfold Part.evaluateWith
  simp only [found]
  split
  · rename_i channel
    split
    · rename_i held
      split
      · exact .inr ((marked false).mono (fun k d had => ⟨had.2 ▸ .refl _, fun _ => had.1, had.1 ▸ idle held⟩))
      · exact .inr (.of_windowHead found ⟨.refl _, fun _ => rfl, idle held⟩)
    · split
      · rename_i due
        have last : h.volumeDue.getLast? = some .trailing := by
          rw [h.volumeDue_eq] at due ⊢
          exact HeadState.due_trailing _ _ _ _ due
        have taken := Part.takeStages_gone law found .volume last
        exact .inl ((Part.evaluateWith_passing _ _ _ (law.takeStages _ _).idle).gone _ _ taken)
      · rename_i due
        refine .inr ((Part.takeStages_stays law found .volume (not_trailing_last due)).mono (fun k d had =>
          ⟨had.2, fun other => absurd channel other, fun _ => ?_⟩))
        rw [if_pos channel, had.1, h.volumeDue_eq, HeadInterface.volumeDue_eq]
        rw [h.volumeDue_eq] at due
        exact HeadState.due_taken _ _ _ _ due
  · rename_i channel
    split
    · rename_i late
      split
      · rename_i held
        exact .inr ((marked _).mono (fun k d had => ⟨had.2 ▸ .refl _, fun _ => had.1, had.1 ▸ idle held⟩))
      · obtain ⟨x, g, next, batch, -, -, same, -⟩ := marked (waited && !s.degraded h)
        have overdue := law.next (s.markOverdue_live (waited && !s.degraded h) h).law
          (s.markOverdue_passing (waited && !s.degraded h) h).incoming
        have taken := Part.takeStages_gone overdue next .late (stages := [.leading, .midpoint, .trailing]) rfl
        rw [batch, same] at taken
        exact .inl ((Part.evaluateWith_passing _ _ _ (overdue.takeStages _ _).idle).gone _ _ taken)
    · rename_i early
      refine .inr (.of_windowHead found ⟨.refl _, fun _ => rfl, fun _ => ?_⟩)
      rw [if_neg channel]
      exact early

theorem Part.evaluate_carries : s.evaluate.carries r h (fun k d =>
    s.det.Keeps d ∧ (h.channel ≠ some .volume → k = h.state) ∧ s.rests h k) :=
  Part.evaluateWith_carries law found _ _

end

end

end Sys2Proof.Machine
end

section
/-! SUPPORT. A report of readiness to the window interface, and the readings taken of it (R77, R78 to R83). -/

open Sys2Proof

namespace Sys2Proof.Machine

/-! ## The report of readiness (R77) -/

/-- The channel that a report of readiness gives the window interface `h` of `r`, where it is another than its own. -/
def Part.newChannel (r : BatchRecord) (h : HeadInterface) (s : Part) : Option (Channel × Option RefSet) :=
  if h.state.waits then
    if h.channel = some (s.chooseChannel h.leading r.product).1 then none
    else some (s.chooseChannel h.leading r.product)
  else
    match h.channel with
    | some c => if s.channelReady c then none else some (.volume, none)
    | none => none

/-- The reference set, with the four counts at 0. -/
structure Detector.Fresh (refs : Option RefSet) (d : Detector) : Prop where
  refs : d.refs = refs
  lead : d.leadCount = 0
  mid : d.midCount = 0
  trail : d.trailCount = 0
  breakRun : d.breakRun = 0

theorem Detector.Fresh.keeps {refs : Option RefSet} {d e : Detector} (fresh : d.Fresh refs) (keeps : d.Keeps e) :
    e.Fresh refs :=
  ⟨keeps.refs.trans fresh.refs, keeps.lead.trans fresh.lead, keeps.mid.trans fresh.mid, keeps.trail.trans fresh.trail,
    keeps.breakRun fresh.breakRun⟩

section
variable {r : BatchRecord} {h : HeadInterface} {s : Part} {ch : Channel × Option RefSet} (law : s.lawful)
  (found : s.windowHead = some (r, h))

theorem Part.newChannel_waits (waits : h.state.waits) :
    s.newChannel r h = if h.channel = some (s.chooseChannel h.leading r.product).1 then none
      else some (s.chooseChannel h.leading r.product) := if_pos waits

theorem Part.newChannel_mixes {c : Channel} (mixes : ¬ h.state.waits) (channel : h.channel = some c) :
    s.newChannel r h = if s.channelReady c then none else some (.volume, none) := by
  unfold Part.newChannel
  rw [if_neg mixes, channel]

theorem Part.newChannel_unset (mixes : ¬ h.state.waits) (channel : h.channel = none) : s.newChannel r h = none := by
  unfold Part.newChannel
  rw [if_neg mixes, channel]

section
include found

theorem Part.readinessReport_waits (waits : h.state.waits) :
    s.readinessReport = if h.channel = some (s.chooseChannel h.leading r.product).1 then s
      else ((s.setChannel (s.chooseChannel h.leading r.product)).zeroCounts).evaluate := by
  simp only [Part.readinessReport, Part.choiceNow, found]
  exact if_pos waits

theorem Part.readinessReport_mixes {c : Channel} (mixes : ¬ h.state.waits) (channel : h.channel = some c) :
    s.readinessReport = if s.channelReady c then s else ((s.setChannel (.volume, none)).zeroCounts).evaluate := by
  simp only [Part.readinessReport, found]
  rw [if_neg mixes, channel]

theorem Part.readinessReport_unset (mixes : ¬ h.state.waits) (channel : h.channel = none) :
    s.readinessReport = s := by
  simp only [Part.readinessReport, found]
  rw [if_neg mixes, channel]

/-- What a report does is to set the new channel, where there is one, and to evaluate the window (R77). -/
theorem Part.readinessReport_eq : s.readinessReport =
    ((s.newChannel r h).map (fun ch => ((s.setChannel ch).zeroCounts).evaluate)).getD s := by
  by_cases waits : h.state.waits
  · rw [Part.readinessReport_waits found waits, Part.newChannel_waits waits]
    split <;> rfl
  · cases channel : h.channel with
    | none => rw [Part.readinessReport_unset found waits channel, Part.newChannel_unset waits channel]; rfl
    | some c =>
      rw [Part.readinessReport_mixes found waits channel, Part.newChannel_mixes waits channel]
      split <;> rfl

theorem Part.readinessReport_same (same : s.newChannel r h = none) : s.readinessReport = s := by
  rw [Part.readinessReport_eq found, same]
  rfl

theorem Part.readinessReport_new (new : s.newChannel r h = some ch) :
    s.readinessReport = ((s.setChannel ch).zeroCounts).evaluate := by
  rw [Part.readinessReport_eq found, new]
  rfl

/-- The window interface with its channel set and the counts at 0. -/
theorem Part.setChannel_stays : ((s.setChannel ch).zeroCounts).stays r { h with channel := some ch.1 }
    (fun k d => k = h.state ∧ d.Fresh ch.2) := by
  have set : (s.modWindow (fun h => { h with channel := some ch.1 })).stays r { h with channel := some ch.1 }
      (fun k _ => k = h.state) := ⟨_, _, Part.modWindow_windowHead _ found, rfl, rfl, rfl, rfl, rfl⟩
  have refs : (s.setChannel ch).stays r { h with channel := some ch.1 } (fun k d => k = h.state ∧ d.refs = ch.2) :=
    set.modDet rfl (fun _ state => ⟨state, rfl⟩)
  exact refs.modDet rfl (fun _ had => ⟨had.1, had.2, rfl, rfl, rfl, rfl⟩)

end

theorem Part.lawful.setChannel (law : s.lawful) (ch : Channel × Option RefSet) :
    ((s.setChannel ch).zeroCounts).lawful :=
  law.next ((s.setChannel_live ch).trans (Part.zeroCounts_live _)).law
    ((s.setChannel_passing ch).trans (Part.zeroCounts_passing _)).incoming

theorem Part.setChannel_zeroCounts_stage (ch : Channel × Option RefSet) (s : Part) :
    StageFrame s ((s.setChannel ch).zeroCounts) := (s.setChannel_stage ch).trans (Part.modDet_stage _ _)

/-- What a change of channel leaves of a window interface that was in the state `k`: the new channel's references with
the counts at 0, the state on an analyser, and nothing left to do (R77, R84, R86). -/
def Part.retold (h : HeadInterface) (ch : Channel × Option RefSet) (s : Part) (k : HeadState) (d : Detector) : Prop :=
  d.Fresh ch.2 ∧ (ch.1 ≠ .volume → k = h.state) ∧ s.rests { h with channel := some ch.1 } k

theorem Part.lawful.readinessReport (law : s.lawful) : s.readinessReport.lawful :=
  law.next s.readinessReport_law (Part.readinessReport_passing law.idle).incoming

theorem Part.lawful.reported (law : s.lawful) (readiness : Bool) :
    (if readiness then s.readinessReport else s).lawful := by
  split
  · exact law.readinessReport
  · exact law

theorem Part.reported_stage (readiness : Bool) (s : Part) :
    StageFrame s (if readiness then s.readinessReport else s) := by
  split
  · exact s.readinessReport_stage
  · exact .refl s

theorem Part.lawful.handedOver (law : s.lawful) (readiness moved : Bool) : (s.handedOver readiness moved).lawful := by
  have reported := law.reported readiness
  unfold Part.handedOver
  simp only
  generalize (if readiness then s.readinessReport else s) = t at *
  split
  · exact reported.evaluate
  · exact reported

include law found

theorem Part.rechosen_carries :
    (((s.setChannel ch).zeroCounts).evaluate).carries r { h with channel := some ch.1 } (s.retold h ch) := by
  have set := law.setChannel ch
  have stage := s.setChannel_zeroCounts_stage ch
  refine Part.carries.trans (.inr (Part.setChannel_stays found)) (Part.evaluate_passing set.idle)
    (fun x g next _ _ place channel had => ?_)
  obtain ⟨state, fresh⟩ := had
  refine (Part.evaluate_carries set next).mono (fun k d now => ?_)
  obtain ⟨keeps, analyser, rests⟩ := now
  refine ⟨fresh.keeps keeps, fun other => (analyser ?_).trans state, ?_⟩
  · rw [channel]
    simpa using other
  · exact (Part.rests_congr place channel stage.image stage.table).mp rests

/-- A report that gives another channel, and the hand-off after it. -/
theorem Part.handedOver_new (new : s.newChannel r h = some ch) (moved : Bool) :
    (s.handedOver true moved).carries r { h with channel := some ch.1 } (s.retold h ch) := by
  have reported : s.readinessReport.carries r { h with channel := some ch.1 } (s.retold h ch) := by
    rw [Part.readinessReport_new found new]
    exact Part.rechosen_carries law found
  have after := law.readinessReport
  have stage := s.readinessReport_stage
  unfold Part.handedOver
  simp only [if_true]
  split
  · refine reported.trans (Part.evaluate_passing after.idle) (fun x g next _ _ place channel had => ?_)
    obtain ⟨fresh, state, -⟩ := had
    refine (Part.evaluate_carries after next).mono (fun k d now => ?_)
    obtain ⟨keeps, analyser, rests⟩ := now
    refine ⟨fresh.keeps keeps, fun other => (analyser ?_).trans (state other), ?_⟩
    · rw [channel]
      simpa using other
    · exact (Part.rests_congr place channel stage.image stage.table).mp rests
  · exact reported

/-- No report, or one that leaves the channel, and the hand-off after it. -/
theorem Part.handedOver_same {readiness : Bool} (same : readiness = true → s.newChannel r h = none) (moved : Bool) :
    (s.handedOver readiness moved).carries r h (fun _ d => d.refs = s.det.refs) := by
  have reported : (if readiness then s.readinessReport else s) = s := by
    split
    · rename_i told
      exact Part.readinessReport_same found (same told)
    · rfl
  unfold Part.handedOver
  simp only [reported]
  split
  · exact (Part.evaluate_carries law found).mono (fun _ _ now => now.1.refs)
  · exact .inr (.of_windowHead found rfl)

end

/-! ## The readings (R78 to R83) -/

/-- The value that the event hands on the channel of an interface (R78). -/
def HeadInterface.reading (density marker : Option Int) (h : HeadInterface) : Option Int :=
  match h.channel with
  | some .density => density
  | some .marker => marker
  | _ => none

section
variable {r : BatchRecord} {h : HeadInterface} {s : Part} {density marker : Option Int}
  (found : s.windowHead = some (r, h))

/-- A value taken of the window interface `h` on its channel's references (R78 to R83). -/
def Part.readingTaken (h : HeadInterface) (f : RefSet) (v : Int) (s : Part) : Part :=
  let counted := s.modDet (Detector.count s.cfg h.state f v)
  let due := counted.det.analyserDue s.cfg.makeCount h.state
  if h.state = .inMix ∧ s.cfg.breakCount ≤ counted.det.breakRun then counted.withdraw
  else if due.contains .trailing then (counted.takeStages .analyser due).evaluate
  else counted.takeStages .analyser due

theorem Part.takeReadings_eq {f : RefSet} (found : s.windowHead = some (r, h)) (refs : s.det.refs = some f) :
    s.takeReadings density marker = ((h.reading density marker).map (s.readingTaken h f)).getD s := by
  unfold Part.takeReadings HeadInterface.reading
  simp only [found, refs]
  cases h.channel with
  | none => rfl
  | some c => cases c <;> cases density <;> cases marker <;> rfl

/-- The window interface without a reference set, or without a value on its channel, takes no reading. -/
theorem Part.takeReadings_unread (found : s.windowHead = some (r, h))
    (none : s.det.refs = none ∨ h.reading density marker = none) : s.takeReadings density marker = s := by
  cases refs : s.det.refs with
  | none =>
    unfold Part.takeReadings
    simp only [found, refs]
  | some f =>
    rw [Part.takeReadings_eq found refs, none.resolve_left (by rw [refs]; nofun)]
    rfl

theorem Part.takeReadings_read {f : RefSet} {v : Int} (found : s.windowHead = some (r, h))
    (refs : s.det.refs = some f) (value : h.reading density marker = some v) :
    s.takeReadings density marker = s.readingTaken h f v := by
  rw [Part.takeReadings_eq found refs, value]
  rfl

theorem Part.lawful.counted (law : s.lawful) (state : HeadState) (f : RefSet) (v : Int) :
    (s.modDet (Detector.count s.cfg state f v)).lawful :=
  law.next (s.modDet_live _).law rfl

theorem Part.withdrawn_stays (found : s.windowHead = some (r, h)) :
    s.withdrawn.stays r h (fun _ d => d.refs = s.det.refs) := by
  have back : (s.modWindow (fun h => { h with leadRec := none, early := false, state := armedState s.cfg h })).stays r h
      (fun _ d => d.refs = s.det.refs) :=
    ⟨_, _, Part.modWindow_windowHead _ found, rfl, rfl, rfl, rfl, by rw [Part.modWindow_det]⟩
  have zeroed := back.modDet (f := fun d => { d with leadCount := 0, midCount := 0, trailCount := 0, breakRun := 0 })
    (P := fun _ d => d.refs = s.det.refs) rfl (fun _ had => had)
  exact zeroed.modDet rfl (fun _ had => had)

theorem Part.lawful.withdrawn (law : s.lawful) : s.withdrawn.lawful := by
  refine law.next ?_ s.withdrawn_passing.incoming
  have back : LawFrame s (s.modWindow (fun h =>
      { h with leadRec := none, early := false, state := armedState s.cfg h })) :=
    s.modWindow_law (fun h _ => ⟨(armedState_awake s.cfg h).1, fun past => absurd past (armedState_awake s.cfg h).2⟩)
  exact back.trans ((Part.zeroCounts_live _).trans (Part.modDet_live _ _)).law

/-- A withdrawal leaves the interface the window (R80). -/
theorem Part.withdraw_stays (law : s.lawful) (found : s.windowHead = some (r, h)) :
    s.withdraw.stays r h (fun _ d => d.refs = s.det.refs) := by
  have still := law.withdrawn
  have after : s.withdraw.lawful := law.next s.withdraw_law (Part.withdraw_passing law.idle).incoming
  have planned := Part.planWithdrawal_quiet s.withdrawn
  have handed := planned.trans (Part.handPlanned_holdEvent_quiet (planned.idle still.idle))
  rw [Part.withdraw_eq] at after ⊢
  exact (Part.withdrawn_stays found).trans (fun x g next _ _ had =>
    (handed.stays still.ordered after next).mono (fun _ _ now => now.2 ▸ had))

section
variable (law : s.lawful)
include law found

/-- Readings leave the reference set while the interface is the window (R78). -/
theorem Part.takeReadings_refs (density marker : Option Int) :
    (s.takeReadings density marker).carries r h (fun _ d => d.refs = s.det.refs) := by
  have unread (none : s.det.refs = none ∨ h.reading density marker = none) :
      (s.takeReadings density marker).carries r h (fun _ d => d.refs = s.det.refs) := by
    rw [Part.takeReadings_unread found none]
    exact .inr (.of_windowHead found rfl)
  cases refs : s.det.refs with
  | none => exact refs ▸ unread (.inl refs)
  | some f =>
    cases value : h.reading density marker with
    | none => exact refs ▸ unread (.inr value)
    | some v =>
      rw [Part.takeReadings_read found refs value]
      have counted := law.counted h.state f v
      have next : (s.modDet (Detector.count s.cfg h.state f v)).windowHead = some (r, h) :=
        (Part.modDet_windowHead rfl).trans found
      unfold Part.readingTaken
      simp only
      split
      · exact .inr ((Part.withdraw_stays counted next).mono (fun _ _ now => now.trans refs))
      · split
        · rename_i due
          rw [Detector.analyserDue_eq] at due ⊢
          exact .inl ((Part.evaluate_passing (counted.takeStages _ _).idle).gone _ _
            (Part.takeStages_gone counted next .analyser (HeadState.due_trailing _ _ _ _ due)))
        · rename_i due
          exact .inr ((Part.takeStages_stays counted next .analyser (not_trailing_last due)).mono
            (fun _ _ now => now.2.refs.trans refs))

/-- What the first reading on a channel leaves of an interface that waited: the counts of the value, and the state where
it waits still (R78, R79). -/
theorem Part.takeReadings_fresh {f : RefSet} {v : Int} (waits : h.state.waits) (fresh : s.det.Fresh (some f))
    (value : h.reading density marker = some v) :
    (s.takeReadings density marker).carries r h (fun k d =>
      d.refs = some f ∧ d.breakRun = 0 ∧ (k.waits → k = h.state) ∧
        d.leadCount = runCount s.cfg.makeCount (f.leads v) 0 ∧
        d.midCount = runCount s.cfg.makeCount (f.crosses v) 0 ∧
        d.trailCount = runCount s.cfg.makeCount (f.trails v) 0) := by
  rw [Part.takeReadings_read found fresh.refs value]
  have counted := law.counted h.state f v
  have next : (s.modDet (Detector.count s.cfg h.state f v)).windowHead = some (r, h) :=
    (Part.modDet_windowHead rfl).trans found
  have apart : h.state ≠ .inMix := by
    rcases waits with state | state <;> rw [state] <;> nofun
  unfold Part.readingTaken
  simp only [apart, false_and, if_false]
  split
  · rename_i due
    rw [Detector.analyserDue_eq] at due ⊢
    exact .inl ((Part.evaluate_passing (counted.takeStages _ _).idle).gone _ _
      (Part.takeStages_gone counted next .analyser (HeadState.due_trailing _ _ _ _ due)))
  · rename_i due
    refine .inr ((Part.takeStages_stays counted next .analyser (not_trailing_last due)).mono (fun k d now => ?_))
    obtain ⟨state, keeps⟩ := now
    refine ⟨keeps.refs.trans fresh.refs, keeps.breakRun (if_neg apart), fun still => ?_, ?_, ?_, ?_⟩
    · rw [Detector.analyserDue_eq] at state
      rw [state] at still ⊢
      exact HeadState.due_waits _ _ _ _ still
    · exact keeps.lead.trans (by rw [← fresh.lead]; rfl)
    · exact keeps.mid.trans (by rw [← fresh.mid]; rfl)
    · exact keeps.trail.trans (by rw [← fresh.trail]; rfl)

end

/-- The detector's share, from what the report and the hand-off leave, while the interface is the window (R83). -/
theorem Part.detectorShare_carries {k : HeadInterface} {Q P : HeadState → Detector → Prop} {readiness moved : Bool}
    {e : Sample} {n : Counted} (law : s.lawful) (window : s.det.window = some r.batch)
    (handed : (s.handedOver readiness moved).carries r k Q)
    (read : ∀ x g, (s.handedOver readiness moved).windowHead = some (x, g) → g.place = k.place →
      g.channel = k.channel → Q g.state (s.handedOver readiness moved).det →
      ((s.handedOver readiness moved).takeReadings n.densityValue e.marker).carries x g P) :
    (s.detectorShare e n readiness moved).carries r k P := by
  have passing : PassingFrame (s.handedOver readiness moved) (s.detectorShare e n readiness moved) := by
    rw [Part.detectorShare_eq]
    split
    · exact Part.takeReadings_passing (law.handedOver readiness moved).idle _ _
    · exact .refl _
  refine handed.trans passing (fun x g next batch _ place channel q => ?_)
  have same : (s.handedOver readiness moved).det.window = s.det.window :=
    (Part.windowHead_eq_some.mp next).1.trans ((congrArg some batch).trans window.symm)
  rw [Part.detectorShare_eq, if_pos same]
  exact read x g next place channel q

end

end Sys2Proof.Machine
end

section
/-! SUPPORT. The window interface over a sample event's own flow (R51, R61, R63), and what reaches the detector from the
blocks ahead of it (R41, R83). -/

open Sys2Proof

namespace Sys2Proof.Machine

/-! ## A head interface over own flow -/

/-- `g` is the interface `h` nearer by flow, its D at most `d`: only its D, its clamp and its arming are others. -/
structure HeadInterface.Flowed (d : Int) (h g : HeadInterface) : Prop where
  channel : g.channel = h.channel
  leading : g.leading = h.leading
  w : g.w = h.w
  u : g.u = h.u
  mark : g.restartMark = h.restartMark
  le : g.d ≤ d
  waits : g.state.waits ↔ h.state.waits
  mixes : ¬ h.state.waits → g.state = h.state

theorem HeadInterface.Flowed.refl (h : HeadInterface) : h.Flowed h.d h :=
  ⟨rfl, rfl, rfl, rfl, rfl, le_refl _, Iff.rfl, fun _ => rfl⟩

theorem HeadInterface.Flowed.trans {d : Int} {h g k : HeadInterface} (x : h.Flowed d g) (y : g.Flowed g.d k) :
    h.Flowed d k :=
  ⟨y.channel.trans x.channel, y.leading.trans x.leading, y.w.trans x.w, y.u.trans x.u, y.mark.trans x.mark,
    y.le.trans x.le, y.waits.trans x.waits, fun mixes => (y.mixes (mt x.waits.mp mixes)).trans (x.mixes mixes)⟩

theorem armedState_waits (c : Config) (h : HeadInterface) : (armedState c h).waits := by
  unfold armedState
  split <;> simp [HeadState.waits]

theorem armHead_flowed (c : Config) (h : HeadInterface) : h.Flowed h.d (armHead c h) := by
  have armed := armedState_waits c h
  unfold armHead
  cases state : h.state with
  | distant => exact ⟨rfl, rfl, rfl, rfl, rfl, le_refl _, by simp [state, armed, HeadState.waits],
      by simp [state, HeadState.waits]⟩
  | armed => exact ⟨rfl, rfl, rfl, rfl, rfl, le_refl _, by simp [state, armed, HeadState.waits],
      by simp [state, HeadState.waits]⟩
  | inMix => exact .refl h
  | pastMid => exact .refl h
  | cleared => exact .refl h

/-- The clamp of own flow lowers a D (R63). -/
theorem lowered_flowed (d : Int) (h : HeadInterface) : h.Flowed h.d (if d < h.d then clampHead d h else h) := by
  split
  · rename_i lower
    exact ⟨rfl, rfl, rfl, rfl, rfl, lower.le, Iff.rfl, fun _ => rfl⟩
  · exact .refl h

theorem mem_flowClamp {recs : List BatchRecord} {y : BatchRecord} (mem : y ∈ flowClamp recs) :
    ∃ z ∈ recs, y = z ∨ ∃ d, y = lowerTo d z := by
  induction recs with
  | nil => cases mem
  | cons r rest ih =>
    have later (mem : y ∈ flowClamp rest) : ∃ z ∈ r :: rest, y = z ∨ ∃ d, y = lowerTo d z := by
      obtain ⟨z, here, is⟩ := ih mem
      exact ⟨z, List.mem_cons_of_mem r here, is⟩
    unfold flowClamp at mem
    simp only at mem
    split at mem
    · rename_i d _
      rcases List.mem_cons.mp mem with rfl | mem
      · exact ⟨r, List.mem_cons_self .., .inr ⟨d, rfl⟩⟩
      · exact later mem
    · rcases List.mem_cons.mp mem with rfl | mem
      · exact ⟨y, List.mem_cons_self .., .inl rfl⟩
      · exact later mem

section
variable {s : Part} {r : BatchRecord} {h : HeadInterface}

/-- A record of the flowed train has its head nearer than it was, where that was not CLEARED. -/
theorem Part.flowed_record {arrival trunk : Nat} {y : BatchRecord} (mem : y ∈ s.flowed arrival trunk) :
    ∃ z ∈ s.train.records, y.batch = z.batch ∧ y.product = z.product ∧ ∀ g, y.head = some g →
      ∃ k, z.head = some k ∧ (k.state ≠ .cleared → k.Flowed (holdD (k.d - arrival)) g) := by
  rw [Part.flowed_eq] at mem
  obtain ⟨m, moved, is⟩ := mem_flowClamp mem
  obtain ⟨z, was, rfl⟩ := List.mem_map.mp moved
  have near (k : HeadInterface) (live : k.state ≠ .cleared) : k.Flowed (holdD (k.d - arrival))
      { k with d := if k.state ≠ .cleared then holdD (k.d - arrival)
                    else if s.cfg.role = .end_ then k.d else holdD (k.d - trunk) } :=
    ⟨rfl, rfl, rfl, rfl, rfl, by simp only [if_pos live, le_refl], Iff.rfl, fun _ => rfl⟩
  rcases is with rfl | ⟨d, rfl⟩
  · refine ⟨z, was, rfl, rfl, fun g head => ?_⟩
    obtain ⟨k, present, rfl⟩ := Option.map_eq_some_iff.mp head
    exact ⟨k, present, near k⟩
  · refine ⟨z, was, rfl, rfl, fun g head => ?_⟩
    obtain ⟨x, present, rfl⟩ := Option.map_eq_some_iff.mp head
    obtain ⟨k, old, rfl⟩ := Option.map_eq_some_iff.mp present
    exact ⟨k, old, fun live => (near k live).trans (lowered_flowed d _)⟩

/-! ## The sample event ahead of the detector -/

theorem Part.creditMixList_frame (n : Nat) (s : Part) : (s.creditMixList n).port = s.port ∧
    (s.creditMixList n).planner = s.planner ∧ (s.creditMixList n).det.refs = s.det.refs := by
  unfold Part.creditMixList
  split
  · split <;> exact ⟨rfl, rfl, rfl⟩
  · exact ⟨rfl, rfl, rfl⟩

theorem Part.creditDelivered_frame (n : Nat) (s : Part) : (s.creditDelivered n).port = s.port ∧
    (s.creditDelivered n).planner = s.planner ∧ (s.creditDelivered n).det.refs = s.det.refs := by
  unfold Part.creditDelivered
  split <;> exact ⟨rfl, rfl, rfl⟩

theorem Part.countVolume_frame (e : Sample) (s : Part) : (s.countVolume e).port = s.port ∧
    (s.countVolume e).planner = s.planner ∧ (s.countVolume e).det.refs = s.det.refs := by
  obtain ⟨port, planner, refs⟩ := Part.creditMixList_frame (s.counted e).delivery
    (Part.creditDelivered (s.counted e).delivery { s with vol := s.volumeAfter e })
  obtain ⟨port', planner', refs'⟩ := Part.creditDelivered_frame (s.counted e).delivery
    { s with vol := s.volumeAfter e }
  exact ⟨port.trans port', planner.trans planner', refs.trans refs'⟩

theorem Part.flowMoved_live (set : SampleSet) (s : Part) : LiveFrame s (s.flowMoved set) :=
  ((((s.modInst_live _).trans (s.setTaken_line set).live).trans (Part.countVolume_live _ _)).trans
    (Part.moved_live (flowHead_sameLife _ (s.countOf set).arrival (s.countOf set).trunk) _))

theorem Part.flowMoved_frame (set : SampleSet) (s : Part) : SameLoss (s.setTaken set) (s.flowMoved set) ∧
    (s.flowMoved set).planner = s.planner ∧ (s.flowMoved set).det.refs = s.det.refs := by
  obtain ⟨port, planner, refs⟩ := Part.countVolume_frame (sampleOf set s.inst (s.setTaken set).inst) (s.setTaken set)
  have line := s.setTaken_line set
  exact ⟨.of_port port, planner.trans line.planner, refs.trans (by rw [line.det]; rfl)⟩

theorem Part.lawful.flowMoved (law : s.lawful) (set : SampleSet) : (s.flowMoved set).lawful :=
  law.next (s.flowMoved_live set).law (by rw [(s.flowMoved_frame set).2.1])

/-- Own flow brings the window interface nearer (R51, R63, R61). -/
theorem Part.flowMoved_window (law : s.lawful) (found : s.windowHead = some (r, h)) (set : SampleSet) :
    ∃ x g, (s.flowMoved set).windowHead = some (x, g) ∧ x.batch = r.batch ∧ x.product = r.product ∧
      h.Flowed (holdD (h.d - (s.countOf set).arrival)) g := by
  obtain ⟨window, here, head⟩ := Part.windowHead_eq_some.mp found
  have moved := law.flowMoved set
  obtain ⟨records, -⟩ := s.flowMoved_facts set
  obtain ⟨x, g, after, batch, mem, present, -⟩ := moved.window.found moved.ordered
    ((s.flowMoved_live set).window.trans window)
  rw [records] at mem
  obtain ⟨y, clamped, rfl⟩ := List.mem_map.mp mem
  obtain ⟨z, was, same, product, heads⟩ := Part.flowed_record clamped
  obtain ⟨e, lies, rfl⟩ := Option.map_eq_some_iff.mp present
  obtain ⟨k, old, flowed⟩ := heads e lies
  rw [law.ordered.record_unique was (findBatch_mem here).1 (same.symm.trans batch)] at old product
  rw [head, Option.some.injEq] at old
  subst old
  exact ⟨_, _, after, batch, product, (flowed (law.awake found)).trans (armHead_flowed s.cfg e)⟩

/-- The part as the sample event reaches the detector (R83). -/
def Part.reached (set : SampleSet) (s : Part) : Part := (s.flowRetired set).plannerShare (s.countOf set).trunk

theorem Part.reached_quiet (none : s.noLaunch) (set : SampleSet) : QuietFrame (s.flowMoved set) (s.reached set) := by
  have still : (s.flowMoved set).noLaunch := (s.flowMoved_live set).launches none
  have retired := Part.retire_quiet (s.flowMoved set)
  have handed := retired.trans (Part.handPlanned_quiet (retired.idle still.2))
  have down : QuietFrame (s.flowMoved set) (s.flowRetired set) :=
    handed.trans ⟨rfl, List.Subset.refl _, rfl, rfl, rfl⟩
  exact down.trans (Part.plannerShare_quiet (down.noLaunch still) _)

theorem Part.reached_law (set : SampleSet) (s : Part) : LawFrame (s.flowMoved set) (s.reached set) :=
  (((Part.retire_live _).trans (Part.handPlanned_routed _).live).trans (Part.countDown_live _ _)).law.trans
    (Part.plannerShare_law _ _)

theorem Part.reached_stage (set : SampleSet) (s : Part) :
    (s.reached set).inst = (s.flowMoved set).inst ∧ (s.reached set).peer.table = (s.flowMoved set).peer.table := by
  have handed := (Part.retire_stage (s.flowMoved set)).trans (Part.handPlanned_route _).stage
  have share := Part.plannerShare_stage (s.countOf set).trunk (s.flowRetired set)
  exact ⟨share.inst.trans handed.inst, share.table.trans handed.table⟩

end

/-! ## What the report of readiness finds -/

/-- Whether the analyser of an interface's own channel has lost READY between two moments (R28). -/
def HeadInterface.lostBy (i j : Instruments) (h : HeadInterface) : Bool :=
  match h.channel with
  | some c => lost c i j
  | none => false

/-- `t` is `s` as a change of readiness reaches the detector: the window interface `h` of `r` lies as `g` on `x`, with D
at most `d`, and ANALYSER_LOST has been judged (R28, R77). -/
structure Part.Reaches (r x : BatchRecord) (h g : HeadInterface) (d : Int) (s t : Part) : Prop where
  law : t.lawful
  found : t.windowHead = some (x, g)
  batch : x.batch = r.batch
  product : x.product = r.product
  flowed : h.Flowed d g
  awake : h.state ≠ .cleared
  refs : t.det.refs = s.det.refs
  image : t.image = s.image
  table : t.peer.table = s.peer.table
  loss : t.port.alarmSet .analyserLost = (s.port.alarmSet .analyserLost || h.lostBy s.inst t.inst)

/-- A loss of readiness is reported for the window interface's own channel (R28). -/
theorem Part.reportLoss_loss {s : Part} {r : BatchRecord} {h : HeadInterface} (found : s.windowHead = some (r, h))
    (before : Instruments) :
    (s.reportLoss before).port.alarmSet .analyserLost = (s.port.alarmSet .analyserLost || h.lostBy before s.inst) := by
  unfold Part.reportLoss HeadInterface.lostBy
  simp only [found]
  cases h.channel with
  | none => simp
  | some c =>
    simp only [Part.raiseIf_eq]
    cases lost c before s.inst <;> simp

theorem Part.reportLoss_empty {s : Part} (empty : s.windowHead = none) (before : Instruments) :
    s.reportLoss before = s := by
  unfold Part.reportLoss
  simp only [empty]

end Sys2Proof.Machine
end

section
/-! SUPPORT. What the window interface shows after a report of readiness (R28, R77). -/

open Sys2Proof

namespace Sys2Proof.Machine

/-! ## What is shown of an interface that was followed -/

section
variable {r : BatchRecord} {h : HeadInterface} {s t : Part} {Q : HeadState → Detector → Prop}

theorem QuietFrame.carries (quiet : QuietFrame s t) (before : s.lawful) (after : t.lawful) (had : s.carries r h Q) :
    t.carries r h Q :=
  had.trans quiet.passing (fun _ _ found _ _ _ _ q =>
    .inr ((quiet.stays before.ordered after found).mono (fun _ _ now => now.1 ▸ now.2 ▸ q)))

/-- The head interface on the batch, completed or the window still. -/
theorem Part.carries.shown (carries : t.carries r h Q) (law : t.lawful) {x : BatchRecord} {g : HeadInterface}
    (here : findBatch r.batch t.train.records = some x) (head : x.head = some g) :
    g.channel = h.channel ∧ (t.det.window = some r.batch → g.state ≠ .cleared ∧ Q g.state t.det) := by
  obtain ⟨mem, batch⟩ := findBatch_mem here
  rcases carries with ⟨passed, spent⟩ | ⟨y, e, found, same, -, -, channel, q⟩
  · exact ⟨(spent x mem batch g head).2, fun window => absurd window passed⟩
  · obtain ⟨-, is, present⟩ := Part.windowHead_eq_some.mp found
    rw [same, here, Option.some.injEq] at is
    subst is
    rw [head, Option.some.injEq] at present
    subst present
    exact ⟨channel, fun _ => ⟨law.awake found, q⟩⟩

/-! ## The channel of a report -/

theorem Part.chooseChannel_volume {l p : Product} (volume : (s.chooseChannel l p).1 = .volume) :
    (s.chooseChannel l p).2 = none := by
  unfold Part.chooseChannel at *
  split at volume
  · split at volume <;> cases volume
  · cases volume
  · cases volume
  · rfl

/-- The VOLUME channel has no references, and only an interface that waits is given an analyser (R74, R77). -/
theorem Part.newChannel_fits {ch : Channel × Option RefSet} (new : s.newChannel r h = some ch) :
    (ch.1 = .volume → ch.2 = none) ∧ (ch.2 ≠ none → h.state.waits) := by
  unfold Part.newChannel at new
  split at new
  · rename_i waits
    split at new
    · cases new
    · cases new
      exact ⟨Part.chooseChannel_volume, fun _ => waits⟩
  · split at new
    · split at new
      · cases new
      · cases new
        exact ⟨fun _ => rfl, fun some => absurd rfl some⟩
    · cases new

end

/-! ## The report, the hand-off and the first reading -/

/-- The value handed on a channel (R78). -/
def channelValue (density marker : Option Int) : Channel → Option Int
  | .density => density
  | .marker => marker
  | .volume => none

theorem HeadInterface.reading_eq {density marker : Option Int} {h : HeadInterface} {c : Channel}
    (channel : h.channel = some c) : h.reading density marker = channelValue density marker c := by
  unfold HeadInterface.reading
  rw [channel]
  cases c <;> rfl

/-- What a change of channel leaves of a window interface once the event's value `v` on it has been taken: counts that
begin with that value, and nothing left to do of an interface that waits or goes by volume (R77 to R79, R84, R86). -/
structure Part.Reread (h : HeadInterface) (ch : Channel × Option RefSet) (v : Option Int) (s : Part) (k : HeadState)
    (d : Detector) : Prop where
  refs : d.refs = ch.2
  breakRun : d.breakRun = 0
  fresh : v = none → d.Fresh ch.2
  counts : ∀ f x, ch.2 = some f → v = some x →
    d.leadCount = runCount s.cfg.makeCount (f.leads x) 0 ∧ d.midCount = runCount s.cfg.makeCount (f.crosses x) 0 ∧
      d.trailCount = runCount s.cfg.makeCount (f.trails x) 0
  rests : k.waits ∨ ch.1 = .volume → s.rests { h with channel := some ch.1 } k

section
variable {r : BatchRecord} {h : HeadInterface} {s : Part} {ch : Channel × Option RefSet} {k : HeadState} {d : Detector}

/-- Without a value to take, on references that are there, a change of channel is as the report leaves it. -/
theorem Part.Reread.of_retold {v : Option Int} (told : s.retold h ch k d) (unread : ch.2 = none ∨ v = none) :
    s.Reread h ch v k d := by
  obtain ⟨fresh, -, rests⟩ := told
  refine ⟨fresh.refs, fresh.breakRun, fun _ => fresh, fun f x refs value => ?_, fun _ => rests⟩
  rcases unread with none | none
  · rw [refs] at none; cases none
  · rw [value] at none; cases none

theorem Part.handedOver_stage (readiness moved : Bool) (s : Part) : StageFrame s (s.handedOver readiness moved) := by
  have reported := s.reported_stage readiness
  unfold Part.handedOver
  simp only
  generalize (if readiness then s.readinessReport else s) = t at *
  split
  · exact reported.trans t.evaluate_stage
  · exact reported

/-- The detector's share of a sample event that gives the window interface another channel (R77, R78). -/
theorem Part.detectorShare_new (law : s.lawful) (found : s.windowHead = some (r, h)) (new : s.newChannel r h = some ch)
    {readiness : Bool} (differs : readiness = true) (e : Sample) (n : Counted) (moved : Bool) :
    (s.detectorShare e n readiness moved).carries r { h with channel := some ch.1 }
      (s.Reread h ch (channelValue n.densityValue e.marker ch.1)) := by
  subst differs
  obtain ⟨byVolume, byAnalyser⟩ := Part.newChannel_fits new
  refine Part.detectorShare_carries law (Part.windowHead_eq_some.mp found).1 (Part.handedOver_new law found new moved)
    (fun x g next place channel told => ?_)
  have value : g.reading n.densityValue e.marker = channelValue n.densityValue e.marker ch.1 :=
    HeadInterface.reading_eq channel
  obtain ⟨fresh, state, rests⟩ := id told
  have unread (none : ch.2 = none ∨ channelValue n.densityValue e.marker ch.1 = none) :
      ((s.handedOver true moved).takeReadings n.densityValue e.marker).carries x g
        (s.Reread h ch (channelValue n.densityValue e.marker ch.1)) := by
    rw [Part.takeReadings_unread next (by rw [fresh.refs, value]; exact none)]
    exact .inr (.of_windowHead next (.of_retold told none))
  cases refs : ch.2 with
  | none => exact unread (.inl refs)
  | some f =>
    cases handed : channelValue n.densityValue e.marker ch.1 with
    | none => exact handed ▸ unread (.inr handed)
    | some v =>
      have analyser : ch.1 ≠ .volume := fun volume => by rw [byVolume volume] at refs; cases refs
      have waited : h.state.waits := byAnalyser (by rw [refs]; nofun)
      have cfg : (s.handedOver true moved).cfg = s.cfg := by
        rw [Part.cfg, (s.handedOver_stage true moved).image]; rfl
      refine (Part.takeReadings_fresh next (law.handedOver true moved) (state analyser ▸ waited) (refs ▸ fresh)
        (value.trans handed)).mono (fun k d now => ?_)
      obtain ⟨is, run, still, lead, mid, trail⟩ := now
      rw [cfg] at lead mid trail
      refine ⟨is.trans refs.symm, run, nofun, fun f' x refs' value' => ?_, fun waits => ?_⟩
      · rw [refs] at refs'
        cases refs'
        cases value'
        exact ⟨lead, mid, trail⟩
      · exact still (waits.resolve_right analyser) ▸ rests

/-- The detector's share of a sample event that leaves the window interface its channel (R77). -/
theorem Part.detectorShare_same {readiness : Bool} (law : s.lawful) (found : s.windowHead = some (r, h))
    (same : readiness = true → s.newChannel r h = none) (e : Sample) (n : Counted) (moved : Bool) :
    (s.detectorShare e n readiness moved).carries r h (fun _ d => d.refs = s.det.refs) :=
  Part.detectorShare_carries law (Part.windowHead_eq_some.mp found).1 (Part.handedOver_same law found same moved)
    (fun _ _ next _ _ refs => (Part.takeReadings_refs next (law.handedOver readiness moved) _ _).mono
      (fun _ _ now => now.trans refs))

end

/-! ## The bounds of an interface at rest -/

section
variable {r x : BatchRecord} {h g : HeadInterface} {d : Int} {s t : Part}

theorem silentBetween_mono {c : Config} {d e : Int} (le : e ≤ d) {p : PeerEntry} (silent : silentBetween c e p = true) :
    silentBetween c d p = true := by
  simp only [silentBetween, Bool.and_eq_true, decide_eq_true_eq] at silent ⊢
  obtain ⟨⟨delivers, upstream⟩, below⟩ := silent
  exact ⟨⟨delivers, by omega⟩, below⟩

theorem HeadState.due_nil (k : HeadState) (lead mid trail : Bool) : k.due lead mid trail = [] →
    (k.waits → lead = false) ∧ (k = .inMix → mid = false) ∧ (k = .pastMid → trail = false) := by
  revert lead mid trail
  cases k <;> decide

/-- Where no stage is due by volume, the next one is still to be reached (R84). -/
theorem HeadInterface.volumeDue_nil {h : HeadInterface} (none : h.volumeDue = []) :
    (h.state.waits → ((h.w / 2 : Nat) : Int) < h.d) ∧ (h.state = .inMix → 0 < h.d) ∧
      (h.state = .pastMid → -((h.w / 2 : Nat) : Int) < h.d) := by
  rw [HeadInterface.volumeDue_eq] at none
  simpa only [decide_eq_false_iff_not, not_le] using HeadState.due_nil _ _ _ _ none

/-- An interface that is not DEGRADED at a D is not DEGRADED nearer (R66). -/
theorem Part.Reaches.free (reaches : s.Reaches r x h g d t) (free : s.degraded { h with d := d } = false)
    (c : Option Channel) (k : HeadState) : t.degraded { g with channel := c, state := k } = false := by
  have cfg : t.cfg = s.cfg := by rw [Part.cfg, reaches.image]; rfl
  simp only [Part.degraded, Bool.and_eq_false_iff, Bool.or_eq_false_iff, decide_eq_false_iff_not, not_not,
    List.any_eq_false, cfg, reaches.table, reaches.flowed.mark] at free ⊢
  refine .inr ⟨(free.resolve_left reaches.awake).1, fun p mem silent => ?_⟩
  exact (free.resolve_left reaches.awake).2 p mem (silentBetween_mono reaches.flowed.le silent)

/-- An interface at rest that waits is short of its stages by volume, or of the late ones on an analyser. -/
theorem Part.Reaches.waits_bound (reaches : s.Reaches r x h g d t) {c : Channel} {k : HeadState} (waits : k.waits)
    (rests : t.rests { g with channel := some c } k) (free : s.degraded { h with d := d } = false) :
    if c = .volume then ((h.w / 2 : Nat) : Int) < d else -((h.w / 2 + h.u + s.cfg.margin : Nat) : Int) ≤ d := by
  have cfg : t.cfg = s.cfg := by rw [Part.cfg, reaches.image]; rfl
  have rest := rests (reaches.free free (some c) k)
  have near := reaches.flowed.le
  simp only [Option.some.injEq] at rest
  split
  · rename_i volume
    rw [if_pos volume] at rest
    have short : ((g.w / 2 : Nat) : Int) < g.d := (HeadInterface.volumeDue_nil rest).1 waits
    rw [reaches.flowed.w] at short
    omega
  · rename_i analyser
    rw [if_neg analyser] at rest
    have short : ¬ t.past { g with channel := some c } = true := fun past => rest ⟨waits, past⟩
    simp only [Part.past, armingDistance, decide_eq_true_eq, cfg, reaches.flowed.w, reaches.flowed.u] at short
    omega

/-- An interface at rest that goes by volume in its mix is short of its next stage. -/
theorem Part.Reaches.mixes_bound (reaches : s.Reaches r x h g d t) {k : HeadState} (awake : k ≠ .cleared)
    (rests : t.rests { g with channel := some .volume } k) (free : s.degraded { h with d := d } = false) :
    if k = .inMix then 0 < d else -((h.w / 2 : Nat) : Int) < d := by
  have rest := rests (reaches.free free (some .volume) k)
  have near := reaches.flowed.le
  rw [if_pos rfl] at rest
  obtain ⟨waits, inMix, pastMid⟩ := HeadInterface.volumeDue_nil rest
  simp only [reaches.flowed.w] at waits inMix pastMid
  split
  · rename_i mixes
    have short := inMix mixes
    omega
  · rename_i other
    cases k with
    | cleared => exact absurd rfl awake
    | inMix => exact absurd rfl other
    | pastMid =>
      have short := pastMid rfl
      omega
    | distant =>
      have short := waits (.inl rfl)
      omega
    | armed =>
      have short := waits (.inr rfl)
      omega

end

end Sys2Proof.Machine
end

section
/-! SUPPORT. Readiness at a sample event and at a fourth missed set, told to the window interface (R24, R28, R77). -/

open Sys2Proof

namespace Sys2Proof.Machine

/-! ## What a report tells -/

/-- `u` is what the detector leaves of `t`, where readiness differs from `s` as `differs` says: a new channel is told
with this event's value, and otherwise channel and references stand. -/
structure Part.Reported (x : BatchRecord) (g : HeadInterface) (value : Channel → Option Int) (differs : Bool)
    (t u : Part) : Prop where
  law : u.lawful
  image : u.image = t.image
  inst : u.inst = t.inst
  loss : SameLoss t u
  changed : ∀ ch, t.newChannel x g = some ch → differs = true →
    u.carries x { g with channel := some ch.1 } (t.Reread g ch (value ch.1))
  same : (differs = true → t.newChannel x g = none) → u.carries x g (fun _ d => d.refs = t.det.refs)

theorem readinessDiffers_iff (i j : Instruments) : readinessDiffers i j = true ↔
    i.densityReady ≠ j.densityReady ∨ i.markerReady ≠ j.markerReady := by
  simp [readinessDiffers]

/-- An analyser that has lost READY makes readiness differ. -/
theorem readinessDiffers_of_lost {s t : Part} {c : Channel} (was : s.channelReady c = true)
    (is : t.channelReady c = false) : readinessDiffers s.inst t.inst = true := by
  rw [readinessDiffers_iff]
  cases c with
  | density => exact .inl (by simp_all [Part.channelReady])
  | marker => exact .inr (by simp_all [Part.channelReady])
  | volume => cases is

theorem Part.chosenFor_congr {s t : Part} (image : t.image = s.image) (inst : t.inst = s.inst) (l p : Product) :
    t.chosenFor l p = s.chosenFor l p := by
  have cfg : t.cfg = s.cfg := by rw [Part.cfg, image]; rfl
  simp only [Part.chosenFor, cfg, inst]

/-- The first count of a condition (R78). -/
theorem runCount_zero {holds : Bool} {p : Prop} [Decidable p] (is : holds = true ↔ p) (make : Nat) :
    runCount make holds 0 = if p then min make 1 else 0 := by
  by_cases held : p
  · rw [if_pos held, is.mpr held]; rfl
  · rw [if_neg held, Bool.eq_false_iff.mpr (mt is.mp held)]; rfl

theorem RefSet.crosses_iff (f : RefSet) (v : Int) : f.crosses v = true ↔
    (f.rising = true ∧ (f.thr : Int) + f.p ≤ v) ∨ (f.rising = false ∧ v ≤ (f.thr : Int) - f.p) := by
  cases rising : f.rising <;> simp [RefSet.crosses, rising]

section
variable {r x : BatchRecord} {h g : HeadInterface} {d : Int} {s t u : Part} {value : Channel → Option Int}
  (reaches : s.Reaches r x h g d t) (reported : t.Reported x g value (readinessDiffers s.inst t.inst) u)
include reaches reported

theorem Part.Reported.choice : t.chooseChannel g.leading x.product = u.chosenFor h.leading r.product := by
  rw [Part.chooseChannel_eq, reaches.flowed.leading, reaches.product, Part.chosenFor_congr reported.image reported.inst]

/-- An interface that waited keeps its channel where that is the choice, with the references. -/
theorem Part.Reported.chosen_same (waits : h.state.waits)
    (kept : h.channel = some (u.chosenFor h.leading r.product).1) :
    u.carries x g (fun _ e => e.refs = s.det.refs) := by
  refine (reported.same (fun _ => ?_)).mono (fun _ _ now => now.trans reaches.refs)
  rw [Part.newChannel_waits (reaches.flowed.waits.mpr waits), reported.choice reaches, reaches.flowed.channel]
  exact if_pos kept

/-- An interface that waited takes the choice where that is another channel. -/
theorem Part.Reported.chosen_new (waits : h.state.waits) (differs : readinessDiffers s.inst t.inst = true)
    (other : h.channel ≠ some (u.chosenFor h.leading r.product).1) :
    u.carries x { g with channel := some (u.chosenFor h.leading r.product).1 }
      (t.Reread g (u.chosenFor h.leading r.product) (value (u.chosenFor h.leading r.product).1)) := by
  refine reported.changed _ ?_ differs
  rw [Part.newChannel_waits (reaches.flowed.waits.mpr waits), reported.choice reaches, reaches.flowed.channel]
  exact if_neg other

/-- An interface in its mix goes on by volume where its analyser has lost READY. -/
theorem Part.Reported.mixes_lost {c : Channel} (mixes : ¬ h.state.waits) (channel : h.channel = some c)
    (was : s.channelReady c = true) (is : t.channelReady c = false) :
    u.carries x { g with channel := some .volume } (t.Reread g (.volume, none) (value .volume)) := by
  refine reported.changed (.volume, none) ?_ (readinessDiffers_of_lost was is)
  rw [Part.newChannel_mixes (mt reaches.flowed.waits.mp mixes) (reaches.flowed.channel.trans channel), is]
  rfl

/-- No other change of readiness reaches an interface in its mix. -/
theorem Part.Reported.mixes_same {c : Channel} (mixes : ¬ h.state.waits) (channel : h.channel = some c)
    (is : t.channelReady c = true) : u.carries x g (fun _ e => e.refs = s.det.refs) := by
  refine (reported.same (fun _ => ?_)).mono (fun _ _ now => now.trans reaches.refs)
  rw [Part.newChannel_mixes (mt reaches.flowed.waits.mp mixes) (reaches.flowed.channel.trans channel), is]
  rfl

/-- A report of readiness is told as R28 and R77 have it. -/
theorem Part.Reported.told (unvalued : value .volume = none) : s.readinessTold r h d value u := by
  have inst := reported.inst
  have cfg : t.cfg = s.cfg := by rw [Part.cfg, reaches.image]; rfl
  have standing (c : Channel) : u.channelReady c = t.channelReady c := by
    cases c <;> simp only [Part.channelReady, inst]
  have differing : (s.inst.densityReady ≠ u.inst.densityReady ∨ s.inst.markerReady ≠ u.inst.markerReady) →
      readinessDiffers s.inst t.inst = true := by
    rw [readinessDiffers_iff, inst]
    exact id
  unfold Part.readinessTold
  simp only
  refine ⟨?_, fun y e here head => ⟨?_, ?_, ?_, ?_⟩⟩
  · refine Eq.trans reported.loss (reaches.loss.trans ?_)
    unfold HeadInterface.lostBy
    cases h.channel with
    | none => rfl
    | some c => cases c <;> simp [lost, inst]
  all_goals rw [← reaches.batch] at here
  · intro waits differs
    by_cases kept : h.channel = some (u.chosenFor h.leading r.product).1
    · exact (((reported.chosen_same reaches waits kept).shown reported.law here head).1.trans
        reaches.flowed.channel).trans kept
    · exact ((reported.chosen_new reaches waits (differing differs) kept).shown reported.law here head).1
  · intro waits _ kept window
    exact (((reported.chosen_same reaches waits kept).shown reported.law here head).2 (reaches.batch ▸ window)).2
  · intro waits differs other window
    obtain ⟨-, reread⟩ := ((reported.chosen_new reaches waits (differing differs) other).shown reported.law here
      head).2 (reaches.batch ▸ window)
    refine ⟨reread.refs, reread.breakRun, fun none => ?_, fun f v refs some => ?_, fun still free => ?_⟩
    · have fresh := reread.fresh none
      exact ⟨fresh.lead, fresh.mid, fresh.trail⟩
    · obtain ⟨lead, mid, trail⟩ := reread.counts f v refs some
      rw [lead, mid, trail, cfg]
      exact ⟨runCount_zero decide_eq_true_iff _, runCount_zero (f.crosses_iff v) _, runCount_zero decide_eq_true_iff _⟩
    · exact reaches.waits_bound still (reread.rests (.inl still)) free
  · intro c mixing channel was
    replace was : s.channelReady c = true := by cases c <;> exact was
    have mixes : ¬ h.state.waits := by
      rcases mixing with state | state <;> simp [HeadState.waits, state]
    refine ⟨fun gone => ?_, fun stays => ?_⟩
    · replace gone : t.channelReady c = false := by rw [← standing]; cases c <;> exact gone
      obtain ⟨byVolume, told⟩ := (reported.mixes_lost reaches mixes channel was gone).shown reported.law here head
      refine ⟨byVolume, fun window => ?_⟩
      obtain ⟨awake, reread⟩ := told (reaches.batch ▸ window)
      have fresh := reread.fresh unvalued
      exact ⟨fresh.refs, fresh.lead, fresh.mid, fresh.trail, fresh.breakRun,
        reaches.mixes_bound awake (reread.rests (.inr rfl))⟩
    · replace stays : t.channelReady c = true := by rw [← standing]; cases c <;> exact stays
      obtain ⟨kept, told⟩ := (reported.mixes_same reaches mixes channel stays).shown reported.law here head
      exact ⟨(kept.trans reaches.flowed.channel).trans channel, fun window => (told (reaches.batch ▸ window)).2⟩

end

/-! ## The sample event -/

section
variable {s : Part} {r : BatchRecord} {h : HeadInterface} (set : SampleSet)

theorem Part.trainLaw.lawful (train : s.trainLaw) (law : s.windowLaw) (idle : s.planner.incoming = none) :
    s.lawful := ⟨(s.trainLaw_iff.mp train).1, law, idle⟩

theorem Part.samples.running (samples : s.samples) : s.running = true := samples.1

theorem Part.samples.opened (samples : s.samples) : s.inst.transferOpen = true := samples.2.1

theorem Part.samples.noLaunch (samples : s.samples) : s.noLaunch := by
  obtain ⟨-, -, -, none⟩ := samples
  exact none

theorem Part.samples.lawful (samples : s.samples) (law : s.windowLaw) : s.lawful := by
  obtain ⟨-, -, train, -, idle⟩ := samples
  exact train.lawful law idle

theorem Part.setTaken_inst (s : Part) : (s.setTaken set).inst = Instruments.takeSet s.cfg set s.inst :=
  (s.setTaken_line set).inst

theorem Part.reached_inst (s : Part) : (s.reached set).inst = Instruments.takeSet s.cfg set s.inst :=
  (s.reached_stage set).1.trans ((Part.countVolume_inst _ _).trans (s.setTaken_inst set))

/-- What the detector and the guards are given of a sample event (R83). -/
theorem Part.sampleEvent_reached (s : Part) : ∃ moved, s.sampleEvent set =
    (((s.reached set).detectorShare (s.eventOf set) (s.countOf set)
      (readinessDiffers s.inst (s.reached set).inst) moved).evaluateGuards (s.eventOf set)
        (s.countOf set)).followRoute := by
  refine ⟨decide ((s.reached set).windowD ≠ (s.setTaken set).windowD), ?_⟩
  rw [Part.sampleEvent_eq, Part.setTaken_inst, Part.reached_inst]
  rfl

theorem Part.reached_loss (none : s.noLaunch) : SameLoss (s.setTaken set) (s.reached set) :=
  Eq.trans (Part.reached_quiet none set).loss (s.flowMoved_frame set).1

theorem Part.reached_reaches (none : s.noLaunch) (law : s.lawful) (found : s.windowHead = some (r, h)) :
    ∃ x g, s.Reaches r x h g (holdD (h.d - (s.countOf set).arrival)) (s.reached set) := by
  obtain ⟨x, g, moved, batch, product, flowed⟩ := Part.flowMoved_window law found set
  obtain ⟨-, -, peer, -⟩ := s.flowMoved_facts set
  have quiet := Part.reached_quiet none set
  have before := law.flowMoved set
  have after := before.next (s.reached_law set) quiet.incoming
  obtain ⟨y, e, window, batch', product', place, channel, state, det⟩ := quiet.stays before.ordered after moved
  obtain ⟨leading, d, w, u, mark⟩ := HeadInterface.place_inj place
  have still : g.Flowed g.d e :=
    ⟨channel, leading, w, u, mark, d.le, by rw [state], fun _ => state⟩
  have taken : (s.modInst (Instruments.takeSet s.cfg set)).windowHead = some (r, h) :=
    (Part.windowHead_congr rfl rfl).trans found
  refine ⟨y, e, after, window, batch'.trans batch, product'.trans product, flowed.trans still, law.awake found,
    (congrArg Detector.refs det).trans (s.flowMoved_frame set).2.2,
    (s.reached_law set).image.trans (s.flowMoved_live set).image, ?_, ?_⟩
  · rw [(s.reached_stage set).2, peer]
  · rw [Part.reached_inst]
    exact Eq.trans (Part.reached_loss set none) (Part.reportLoss_loss taken s.inst)

/-- The guards and the route drive after the detector's share (R131, R115). -/
theorem Part.afterDetector_quiet (none : s.noLaunch) (e : Sample) (n : Counted) :
    QuietFrame s (s.evaluateGuards e n).followRoute :=
  (Part.evaluateGuards_quiet none e n).trans (Part.followRoute_quiet _)

theorem Part.afterDetector_law (e : Sample) (n : Counted) (s : Part) :
    LawFrame s (s.evaluateGuards e n).followRoute :=
  (s.evaluateGuards_law e n).trans (Part.followRoute_outlet_frame _).live.law

theorem Part.sampleEvent_loss (none : s.noLaunch) : SameLoss (s.setTaken set) (s.sampleEvent set) := by
  obtain ⟨moved, is⟩ := s.sampleEvent_reached set
  have still := (Part.reached_quiet none set).noLaunch ((s.flowMoved_live set).launches none)
  have share := Part.detectorShare_passing still.2 (s.eventOf set) (s.countOf set)
    (readinessDiffers s.inst (s.reached set).inst) moved
  rw [is]
  exact Eq.trans (Part.afterDetector_quiet (share.noLaunch still) _ _).loss
    (Eq.trans share.loss (Part.reached_loss set none))

/-- A sample event reports readiness to its window interface. -/
theorem Part.sampleEvent_reported {x : BatchRecord} {g : HeadInterface} (none : s.noLaunch)
    (law : (s.reached set).lawful) (found : (s.reached set).windowHead = some (x, g)) :
    (s.reached set).Reported x g (channelValue (s.countOf set).densityValue (s.eventOf set).marker)
      (readinessDiffers s.inst (s.reached set).inst) (s.sampleEvent set) := by
  obtain ⟨moved, is⟩ := s.sampleEvent_reached set
  have still := (Part.reached_quiet none set).noLaunch ((s.flowMoved_live set).launches none)
  have share := Part.detectorShare_passing still.2 (s.eventOf set) (s.countOf set)
    (readinessDiffers s.inst (s.reached set).inst) moved
  have shared := law.next (Part.detectorShare_law (s.eventOf set) (s.countOf set)
    (readinessDiffers s.inst (s.reached set).inst) moved _) share.incoming
  have quiet := Part.afterDetector_quiet (share.noLaunch still) (s.eventOf set) (s.countOf set)
  have after := shared.next (Part.afterDetector_law (s.eventOf set) (s.countOf set) _) quiet.incoming
  have inst : (s.sampleEvent set).inst = (s.reached set).inst := by
    rw [Part.sampleEvent_inst, Part.reached_inst]
  rw [is] at inst ⊢
  refine ⟨after, (Part.afterDetector_law _ _ _).image.trans (Part.detectorShare_law _ _ _ _ _).image, inst,
    Eq.trans quiet.loss share.loss, fun ch new differs => ?_, fun same => ?_⟩
  · exact quiet.carries shared after (Part.detectorShare_new law found new differs _ _ moved)
  · exact quiet.carries shared after (Part.detectorShare_same law found same _ _ moved)

/-- A sample event tells its window interface of readiness (R27, R28, R77). -/
theorem Part.sampleEvent_told (samples : s.samples) (law : s.windowLaw) (found : s.windowHead = some (r, h))
    {value : Channel → Option Int}
    (given : ∀ c, value c = channelValue (s.countOf set).densityValue (s.eventOf set).marker c) :
    s.readinessTold r h (holdD (h.d - (s.countOf set).arrival)) value (s.sampleEvent set) := by
  obtain rfl := funext given
  have none := samples.noLaunch
  obtain ⟨x, g, reaches⟩ := Part.reached_reaches set none (samples.lawful law) found
  exact (Part.sampleEvent_reported set none reaches.law reaches.found).told reaches rfl

theorem Part.sampleEvent_loss_empty (samples : s.samples) (empty : s.windowHead = none) :
    SameLoss s (s.sampleEvent set) := by
  have untold : (s.modInst (Instruments.takeSet s.cfg set)).windowHead = none :=
    (Part.windowHead_congr rfl rfl).trans empty
  have loss := Part.sampleEvent_loss set samples.noLaunch
  rwa [Part.setTaken, Part.reportLoss_empty untold] at loss

end

/-! ## The time that has passed -/

section
variable (s : Part) (dt : Nat) (set : SampleSet)

theorem Part.elapse_countOf : (s.elapse dt).countOf set = s.countOf set := rfl

theorem Part.elapse_eventOf : (s.elapse dt).eventOf set = s.eventOf set := rfl

/-- What is told of readiness does not go by the time before. -/
theorem Part.elapse_told (r : BatchRecord) (h : HeadInterface) (d : Int) (value : Channel → Option Int) (t : Part) :
    (s.elapse dt).readinessTold r h d value t ↔ s.readinessTold r h d value t := Iff.rfl

end

/-! ## The fourth missed set (R24) -/

section
variable {s : Part} {r : BatchRecord} {h : HeadInterface}

theorem Part.readyDropped_reaches (law : s.lawful) (found : s.windowHead = some (r, h)) :
    s.Reaches r r h h h.d s.readyDropped := by
  have line := s.readyDropped_line
  have lost := Part.reportLoss_loss (s := ((s.modInst Instruments.countMissed).modInst Instruments.dropReady).raise
    .sampleMissed) ((Part.windowHead_congr rfl rfl).trans found) s.inst.countMissed
  refine ⟨law.next (LiveFrame.law ?_) ?_, ?_, rfl, rfl, .refl h, law.awake found, by rw [line.det]; rfl, line.image,
    line.table, ?_⟩
  · exact ((s.modInst_live _).trans (Part.modInst_live _ _)).trans ((Part.raise_line _ _).trans line).live
  · rw [line.planner]; rfl
  · exact (Part.windowHead_congr line.train line.det).trans ((Part.windowHead_congr rfl rfl).trans found)
  · refine lost.trans ?_
    rw [line.inst]
    simp
    rfl

/-- A fourth missed set reports readiness to the window interface. -/
theorem Part.missedSet_reported (law : s.readyDropped.lawful) (found : s.readyDropped.windowHead = some (r, h))
    (fourth : hold16 (s.inst.missedRun + 1) = 4) :
    s.readyDropped.Reported r h (fun _ => none) (readinessDiffers s.inst s.readyDropped.inst) s.missedSet := by
  have handed : s.missedSet = s.readyDropped.handedOver (readinessDiffers s.inst s.readyDropped.inst) false :=
    Part.missedSet_fourth fourth
  rw [handed]
  have stage := s.readyDropped.handedOver_stage (readinessDiffers s.inst s.readyDropped.inst) false
  refine ⟨law.handedOver _ _, stage.image, stage.inst, (Part.handedOver_passing law.idle _ _).loss,
    fun ch new differs => ?_, fun same => Part.handedOver_same law found same false⟩
  rw [differs]
  exact (Part.handedOver_new law found new false).mono (fun _ _ told => .of_retold told (.inr rfl))

/-- A fourth missed set tells the window interface of readiness (R24, R28, R77). -/
theorem Part.missedSet_told (law : s.lawful) (found : s.windowHead = some (r, h))
    (fourth : hold16 (s.inst.missedRun + 1) = 4) : s.readinessTold r h h.d (fun _ => none) s.missedSet :=
  have reaches := Part.readyDropped_reaches law found
  (Part.missedSet_reported reaches.law reaches.found fourth).told reaches rfl

/-- The request that follows changes nothing that is told of readiness. -/
theorem Part.openRequest_told {d : Int} {value : Channel → Option Int} {t : Part} (due : Nat) :
    s.readinessTold r h d value (t.openRequest due) ↔ s.readinessTold r h d value t := Iff.rfl

/-- A request that is due after three missed sets takes READY from both analysers, and tells the window interface. -/
theorem Part.requestDue_told {due : Nat} (next : s.inst.nextRequest = some due) (late : due ≤ s.now)
    (opened : s.inst.transferOpen = true) (fourth : hold16 (s.inst.missedRun + 1) = 4) (law : s.lawful)
    (found : s.windowHead = some (r, h)) :
    s.requestDue.inst.densityReady = false ∧ s.requestDue.inst.markerReady = false ∧
      s.readinessTold r h h.d (fun _ => none) s.requestDue := by
  have inst := s.missedSet_inst
  rw [if_pos fourth] at inst
  rw [Part.requestDue_due next late, if_pos opened]
  exact ⟨congrArg Instruments.densityReady inst, congrArg Instruments.markerReady inst,
    (Part.openRequest_told due).mpr (Part.missedSet_told law found fourth)⟩

end

end Sys2Proof.Machine

open Sys2Proof.Machine

/-- Settles O14. The window interface is followed through the event's own flow, the report of readiness, the hand-off
and the readings: it is completed on the channel reported, or lies in the window with what `Part.Reread` says. -/
theorem readinessReachesTheWindow : Obligations.ReadinessReachesTheWindow := by
  refine ⟨fun s dt set r h samples _ window found => ?_, fun s dt due r h run next late opened third law idle window
    found => ?_, fun s dt set samples empty => ?_⟩
  · have inst := (s.part.elapse dt).sampleEvent_inst set
    refine ⟨_, exec_sampleEvent_open dt set samples.running samples.opened, congrArg Instruments.densityReady inst,
      congrArg Instruments.markerReady inst, ?_⟩
    dsimp only
    rw [← s.part.elapse_told dt, ← s.part.elapse_countOf dt, ← s.part.elapse_eventOf dt]
    exact Part.sampleEvent_told (s := s.part.elapse dt) set samples window found (fun c => by cases c <;> rfl)
  · have fourth : hold16 ((s.part.elapse dt).inst.missedRun + 1) = 4 := by rw [Part.elapse_inst, third]; rfl
    have lawful := Part.trainLaw.lawful (s := s.part.elapse dt) law window idle
    have told := Part.requestDue_told (s := s.part.elapse dt) next late opened fourth lawful found
    exact ⟨_, State.run_running dt run, told⟩
  · exact ⟨_, exec_sampleEvent_open dt set samples.running samples.opened,
      Part.sampleEvent_loss_empty (s := s.part.elapse dt) set samples empty⟩
end

section
/-! SUPPORT. The volume unit over one step: all but a sample event and the two resets leaves it but for the tally, and a
sample event leaves what `Part.volumeAfter` counts (R35 to R44). -/

open Sys2Proof

namespace Sys2Proof.Machine

/-! ## The counts of the volume unit -/

/-- The volume unit of `t` is that of `s` but for the tally (R42). -/
def SameCounts (s t : Part) : Prop := { t.vol with tally := 0 } = { s.vol with tally := 0 }

theorem SameCounts.refl (s : Part) : SameCounts s s := rfl

theorem SameCounts.trans {s t u : Part} (h : SameCounts s t) (k : SameCounts t u) : SameCounts s u := Eq.trans k h

theorem SameCounts.of_vol {s t : Part} (h : t.vol = s.vol) : SameCounts s t := by rw [SameCounts, h]

theorem StageFrame.counts {s t : Part} (h : StageFrame s t) : SameCounts s t := h.vol

theorem RouteFrame.counts {s t : Part} (h : RouteFrame s t) : SameCounts s t := .of_vol h.vol

theorem LineFrame.counts {s t : Part} (h : LineFrame s t) : SameCounts s t := .of_vol h.vol

theorem SameCounts.respond {s t : Part} (h : SameCounts s t) (code : Octet) (r : Result) (p : List Octet) :
    SameCounts s (t.respond code r p) := h

/-- The law speaks of the counts alone. -/
theorem SameCounts.law {s t : Part} (h : SameCounts s t) (law : s.volumeLaw) : t.volumeLaw := by
  have same : ∀ {α : Type} (f : VolumeUnit → α), f { t.vol with tally := 0 } = f { s.vol with tally := 0 } :=
    fun f => congrArg f h
  obtain ⟨trunk, delivery, trunkAcc, deliveryAcc, window⟩ := law
  exact ⟨(same VolumeUnit.trunkResidue).trans_lt trunk, (same VolumeUnit.deliveryResidue).trans_lt delivery,
    (same VolumeUnit.trunkAcc).trans_lt trunkAcc, (same VolumeUnit.deliveryAcc).trans_lt deliveryAcc,
    (congrArg List.length (same VolumeUnit.flowWindow)).trans_le window⟩

theorem Part.whenDue_counts {f : Part → Part} (h : ∀ s, SameCounts s (f s)) (moment : Nat) (s : Part) :
    SameCounts s (s.whenDue moment f) := by
  unfold Part.whenDue
  split
  · exact h s
  · exact .refl s

theorem Part.whileRunning_counts {f : Part → Part} (h : ∀ s, SameCounts s (f s)) (s : Part) :
    SameCounts s (s.whileRunning f) := by
  unfold Part.whileRunning
  split
  · exact h s
  · exact .refl s

theorem Part.request_counts {serve : Part → Part} (h : ∀ s, SameCounts s (serve s)) (code : Octet)
    (states : List PartState) (roles : List Role) (s : Part) : SameCounts s (s.request code states roles serve) := by
  rcases s.request_cases code states roles serve with ⟨r, eq⟩ | ⟨-, -, eq⟩ <;> rw [eq]
  · exact (SameCounts.refl s).respond _ _ _
  · exact h s

/-! ## The requests' services -/

theorem Part.serveReadStatus_counts (mask : BitVec 24) (s : Part) : SameCounts s (s.serveReadStatus mask) := by
  have faults : ∀ t : Part, SameCounts t (if mask.getLsbD (Alarm.bit .valveFault) then t.clearFaults else t) := by
    intro t
    split <;> exact .of_vol rfl
  unfold Part.serveReadStatus
  simp only
  split
  · exact SameCounts.trans (faults { s.respond 0x02 .accepted s.statusPayload with
      port := (s.respond 0x02 .accepted s.statusPayload).port.clear mask }) (Part.reportConflict_route _).counts
  · exact faults { s.respond 0x02 .accepted s.statusPayload with
      port := (s.respond 0x02 .accepted s.statusPayload).port.clear mask }

theorem Part.serveStoreImage_counts (first last : Bool) (offset : Nat) (octets : List Octet) (s : Part) :
    SameCounts s (s.serveStoreImage first last offset octets) := by
  unfold Part.serveStoreImage
  split
  · exact .of_vol rfl
  · exact .of_vol rfl
  · cases last <;> exact .of_vol rfl

theorem Part.programmingEnds_counts (good : Bool) (s : Part) : SameCounts s (s.programmingEnds good) := by
  unfold Part.programmingEnds
  split
  · exact (SameCounts.of_vol (t := s.modImage _) rfl).trans (Part.raiseIf_line _ _ _).counts
  · exact .refl s

theorem Part.learnRoute_counts (m : Mode) (s : Part) : SameCounts s (s.learnRoute m) := by
  unfold Part.learnRoute
  exact (SameCounts.of_vol (t := s.modOutlet _) rfl).trans (Part.raiseIf_line _ _ _).counts

theorem Part.startBlocks_counts (m : Mode) (present : Option (BatchNo × Product)) (s : Part) :
    SameCounts s (s.startBlocks m present) := by
  have planned : SameCounts s (s.startPlan m present) :=
    Part.learnRoute_counts m ((s.modInst Instruments.atStart).openRequest s.now)
  exact (planned.trans (Part.handPlanned_route _).counts).trans (Part.enqueue_line _ _).counts

theorem Part.serveStart_counts (mode presence : Octet) (batch : BatchNo) (product : Octet) (s : Part) :
    SameCounts s (s.serveStart mode presence batch product) := by
  unfold Part.serveStart
  split
  · exact (SameCounts.of_vol (t := s.modImage _) rfl).trans (Part.startBlocks_counts _ _ _)
  · exact .of_vol rfl

theorem Part.acceptOrder_counts (o : Order) (s : Part) : SameCounts s (s.acceptOrder o) := by
  have queued : ∀ p, SameCounts s ((s.modPlanner p).modBatch o.batch (fun r => { r with orderLink := some o.number })) :=
    fun _ => .of_vol rfl
  unfold Part.acceptOrder
  simp only
  split
  · exact (queued _).trans (((Part.lateStart_stage _ _).trans (Part.handPlanned_route _).stage).trans
      (Part.holdEvent_route _).stage).counts
  · exact (queued _).trans ((Part.recompute_stage _).trans (Part.handPlanned_route _).stage).counts

theorem Part.serveQueueOrder_counts (batch : BatchNo) (outlet : Octet) (limit : Nat) (head tail : Octet) (s : Part) :
    SameCounts s (s.serveQueueOrder batch outlet limit head tail) := by
  unfold Part.serveQueueOrder
  split
  · exact .of_vol rfl
  · split
    · exact .of_vol rfl
    · exact s.acceptOrder_counts _

theorem Part.serveCancelOrder_counts (number : Nat) (s : Part) : SameCounts s (s.serveCancelOrder number) := by
  unfold Part.serveCancelOrder
  split
  · exact .of_vol rfl
  · exact ((s.endOrder_stage _ _).trans (Part.handPlanned_route _).stage).counts

theorem Part.serveQueueLaunch_counts (batch : BatchNo) (product : Octet) (volume : Nat) (outlet : Octet) (s : Part) :
    SameCounts s (s.serveQueueLaunch batch product volume outlet) := by
  unfold Part.serveQueueLaunch
  split
  · exact .of_vol rfl
  · split
    · exact .of_vol rfl
    · split
      · exact .of_vol rfl
      · split
        · exact .of_vol rfl
        · exact (Part.cutTest_stage (s.modPlanner _)).counts

theorem Part.serveForceLaunch_counts (s : Part) : SameCounts s s.serveForceLaunch := by
  unfold Part.serveForceLaunch
  split
  · exact .of_vol rfl
  · split
    · exact (s.decideCut_stage _ _).counts
    · exact .of_vol rfl

theorem Part.serveForceStage_counts (batch : BatchNo) (stage : Octet) (s : Part) :
    SameCounts s (s.serveForceStage batch stage) := by
  unfold Part.serveForceStage
  split
  · exact .of_vol rfl
  · split
    · exact .of_vol rfl
    · split
      · exact .of_vol rfl
      · split
        · exact .of_vol rfl
        · exact (s.force_stage _).counts

theorem Part.driveContact_counts (c : ChannelNo) (s : Part) : SameCounts s (s.driveContact c) := by
  unfold Part.driveContact
  split <;> exact .of_vol rfl

theorem Part.modChannel_counts (c : ChannelNo) (f : GuardChannel → GuardChannel) (s : Part) :
    SameCounts s (s.modChannel c f) := .of_vol rfl

theorem Part.guardMake_counts (c : ChannelNo) (s : Part) : SameCounts s (s.guardMake c) := by
  unfold Part.guardMake
  exact ((((s.modChannel_counts c _).trans (Part.writeRecord_route _ _).counts).trans (Part.raise_line _ _).counts).trans
    (Part.applyAction_stage c _ _).counts).trans (Part.driveContact_counts c _)

theorem Part.guardBreak_counts (event : GuardEvent) (c : ChannelNo) (s : Part) : SameCounts s (s.guardBreak event c) := by
  unfold Part.guardBreak
  exact (((s.modChannel_counts c _).trans (Part.writeRecord_route _ _).counts).trans
    (Part.withdrawAction_stage c _ _).counts).trans (Part.driveContact_counts c _)

theorem Part.serveReleaseGuard_counts (channel : Octet) (s : Part) : SameCounts s (s.serveReleaseGuard channel) := by
  unfold Part.serveReleaseGuard
  split
  · exact .of_vol rfl
  · split
    · exact s.guardBreak_counts _ _
    · exact .of_vol rfl

theorem Part.serveSyncFrom_counts (station : Nat) (s : Part) : SameCounts s (s.serveSyncFrom station) := by
  unfold Part.serveSyncFrom
  split
  · exact .of_vol rfl
  · split
    · exact .of_vol rfl
    · exact (Part.enqueue_line _ (s.modPeer _)).counts

theorem Part.serveReadTrain_counts (index : Nat) (s : Part) : SameCounts s (s.serveReadTrain index) := by
  unfold Part.serveReadTrain
  split <;> exact .of_vol rfl

/-! ## The events of the outlet controller and of the line -/

theorem Part.requestDue_counts (s : Part) : SameCounts s s.requestDue := by
  have missed : ∀ t : Part, SameCounts t t.missedSet := by
    intro t
    by_cases fourth : hold16 (t.inst.missedRun + 1) = 4
    · exact t.readyDropped_line.counts.trans (Part.missedSet_fourth_stage fourth).counts
    · rw [Part.missedSet_other fourth]
      exact (Part.raiseIf_line _ _ (t.modInst _)).counts
  unfold Part.requestDue
  split
  · refine Part.whenDue_counts (fun t => ?_) _ s
    cases t.inst.transferOpen with
    | false => exact .of_vol rfl
    | true => exact missed t
  · exact .refl s

theorem Part.limitTaken_counts (o : Outlet) (input : LimitInput) (active : Bool) (s : Part) :
    SameCounts s (s.limitTaken o input active) := by
  unfold Part.limitTaken
  split
  · exact .refl s
  · simp only
    split
    · exact (Part.limitEvent_route o input active (s.modInst _)).counts
    · exact .of_vol rfl

theorem Part.travelDue_counts (s : Part) : SameCounts s s.travelDue := by
  unfold Part.travelDue
  split
  · exact Part.whenDue_counts (fun t => t.travelExpired_route.counts) _ s
  · exact .refl s

theorem Part.checkWatermarks_counts (s : Part) : SameCounts s s.checkWatermarks := by
  unfold Part.checkWatermarks
  simp only
  split <;> split
  · exact (Part.enqueue_line _ _).counts
  · exact .refl s
  · exact (Part.enqueue_line _ _).counts
  · exact .refl s

theorem Part.transmitStart_counts (s : Part) : SameCounts s s.transmitStart := by
  have waited : ∀ (c : Prop) [Decidable c] (f : LinkStats → LinkStats),
      SameCounts s (if c then s.modStats f else s) := by
    intro c _ f
    split <;> exact .of_vol rfl
  unfold Part.transmitStart
  split
  · split
    · split
      · exact waited _ _
      · exact .refl s
    · exact .refl s
  · exact .refl s

theorem Part.requestLeft_counts (s : Part) : SameCounts s s.requestLeft := by
  unfold Part.requestLeft
  split <;> exact .of_vol rfl

theorem Part.frameCompletes_counts (s : Part) : SameCounts s s.frameCompletes := by
  have left : ∀ (c : Bool) (t : Part), SameCounts t (if c then t.requestLeft else t) := by
    intro c t
    split
    · exact t.requestLeft_counts
    · exact .refl t
  unfold Part.frameCompletes
  split
  · split
    · exact (left _ ((s.modStats _).setBuffer none)).trans (Part.arbitrate_line _).counts
    · exact .refl s
  · exact .refl s

theorem Part.giveUp_counts (b : TxBuffer) (s : Part) : SameCounts s (s.giveUp b) := by
  unfold Part.giveUp
  split
  · exact .of_vol rfl
  · exact ((Part.reportDiscarded_line _ (s.setBuffer none)).trans (Part.arbitrate_line _)).counts

theorem Part.collide_counts (bits : Nat) (s : Part) : SameCounts s (s.collide bits) := by
  unfold Part.collide
  split
  · split
    · simp only
      split
      · exact Part.giveUp_counts _ (((s.carrierUntil _).modStats _).modStats _)
      · split
        · exact .of_vol rfl
        · exact Part.giveUp_counts _ (((s.carrierUntil _).modStats _).modStats _)
    · exact .refl s
  · exact .refl s

theorem Part.setBuffer_counts (b : Option TxBuffer) (s : Part) : SameCounts s (s.setBuffer b) := .of_vol rfl

theorem Part.backoffEnds_counts (s : Part) : SameCounts s s.backoffEnds := by
  unfold Part.backoffEnds
  split
  · split
    · exact Part.whenDue_counts (fun t => t.setBuffer_counts _) _ s
    · exact .refl s
  · exact .refl s

theorem Part.hearFrame_counts (frame : List Octet) (s : Part) : SameCounts s (s.hearFrame frame) := by
  unfold Part.hearFrame
  split
  · exact .of_vol rfl
  · exact .of_vol rfl
  · exact .of_vol rfl
  · exact .of_vol rfl
  · split
    · exact .of_vol rfl
    · exact Part.checkWatermarks_counts _

theorem Part.frameHeard_counts (frame : List Octet) (s : Part) : SameCounts s (s.frameHeard frame) := by
  unfold Part.frameHeard
  split
  · exact Part.hearFrame_counts frame (s.carrierUntil s.now)
  · exact .refl s

theorem Part.endHold_counts (s : Part) : SameCounts s s.endHold := (Part.arbitrate_line _).counts

theorem Part.holdDue_counts (s : Part) : SameCounts s s.holdDue := by
  unfold Part.holdDue
  split
  · exact Part.whenDue_counts Part.endHold_counts _ s
  · exact .refl s

theorem Part.statusDue_counts (s : Part) : SameCounts s s.statusDue := by
  unfold Part.statusDue
  split
  · exact .refl s
  · exact Part.whenDue_counts (fun t => (Part.enqueue_line _ (t.modPeer _)).counts) _ s

theorem Part.syncExpired_counts (s : Part) : SameCounts s s.syncExpired := by
  unfold Part.syncExpired
  split
  · exact Part.whenDue_counts (fun t => (t.failSync_line _).counts) _ s
  · exact .refl s

theorem Part.silenceExpired_counts (station : Nat) (s : Part) : SameCounts s (s.silenceExpired station) := by
  unfold Part.silenceExpired
  split
  · exact .refl s
  · exact Part.whenDue_counts (fun t => (Part.handOffReleased_stage t ((t.modEntry _ _).raise _)).counts) _ s

/-! ## Notices (R150) -/

theorem Part.hearPeer_counts (n : Received) (s : Part) : SameCounts s (s.hearPeer n) := by
  unfold Part.hearPeer
  simp only
  split
  · exact .of_vol rfl
  · rename_i e _
    have told := (Part.raiseIf_line (decide (e.chainage ≠ n.chainage)) .chainageChanged
      (Part.modEntry n.source (PeerEntry.heard n)
        (s.modPeer (fun p => { p with table := withPeer n.source n.chainage p.table })))).counts
    split
    · exact SameCounts.trans told (Part.handOffReleased_stage _ _).counts
    · exact told

theorem Part.takeHold_counts (source slots : Nat) (s : Part) : SameCounts s (s.takeHold source slots) := by
  unfold Part.takeHold
  split
  · split
    · split
      · exact s.endHold_counts
      · exact .refl s
    · exact .refl s
  · simp only
    split <;> split <;> exact .of_vol rfl

theorem Part.mergeReport_counts (source chainage : Nat) (s : Part) : SameCounts s (s.mergeReport source chainage) := by
  unfold Part.mergeReport
  exact (mergeEntries_stage source chainage s.peer.buffer (s, _)).counts

theorem Part.takeSegmentNotice_counts (source chainage : Nat) (first last : Bool) (keyStation : Nat)
    (keyTag : BitVec 16) (declared : Nat) (entries : List ReportEntry) (s : Part) :
    SameCounts s (s.takeSegmentNotice source chainage first last keyStation keyTag declared entries) := by
  unfold Part.takeSegmentNotice
  split
  · exact .of_vol rfl
  · split
    · exact .of_vol rfl
    · split
      · exact (s.failSync_line _).counts
      · simp only
        split
        · exact (s.failSync_line _).counts
        · unfold Part.appendSegment
          simp only
          split
          · exact Part.mergeReport_counts _ _ (s.modPeer _)
          · exact .of_vol rfl

theorem Part.takeStatus_counts (source : Nat) (startCount : BitVec 16) (delivered : Counter) (rate : Nat)
    (atMeter : Option BatchNo) (flags : StatusFlags) (s : Part) :
    SameCounts s (s.takeStatus source startCount delivered rate atMeter flags) := by
  unfold Part.takeStatus
  split
  · exact .refl s
  · simp only
    split
    · exact .of_vol rfl
    · exact (Part.applyDelta_stage _ _ (s.modEntry source _)).counts
    · split
      · exact (Part.applyRestart_stage _ _ ((s.modEntry source _).raise _)).counts
      · exact .of_vol rfl

theorem Part.handleNotice_counts (n : Received) (s : Part) : SameCounts s (s.handleNotice n) := by
  unfold Part.handleNotice
  split
  · exact (s.takeLaunch_stage ..).counts
  · exact (s.takePassage_stage ..).counts
  · exact s.takeHold_counts _ _
  · exact (s.answerRequest_line _ _).counts
  · exact s.takeSegmentNotice_counts ..
  · exact s.takeStatus_counts ..

theorem Part.takeOldest_counts (kind : Nat) (s : Part) : SameCounts s (s.takeOldest kind) := by
  unfold Part.takeOldest
  split
  · exact .refl s
  · split
    · exact ((Part.checkWatermarks_counts _).trans (Part.hearPeer_counts _ s.leaveInbound)).trans
        (Part.handleNotice_counts _ _)
    · exact .refl s

/-! ## The sample event (R35 to R44) -/

theorem Part.evaluateChannel_counts (e : Sample) (n : Counted) (taken s : Part) (c : ChannelNo) :
    SameCounts s (Part.evaluateChannel e n taken s c) := by
  unfold Part.evaluateChannel
  simp only
  split
  · split
    · split
      · exact Part.guardMake_counts c (s.modChannel c _)
      · split
        · exact Part.guardBreak_counts .broken c (s.modChannel c _)
        · exact .of_vol rfl
    · exact .refl s
  · exact .refl s

theorem Part.evaluateGuards_counts (e : Sample) (n : Counted) (s : Part) : SameCounts s (s.evaluateGuards e n) :=
  List.foldlRecOn (motive := fun t => SameCounts s t) allChannels _ (.refl s)
    (fun t same c _ => same.trans (Part.evaluateChannel_counts e n s t c))

/-- The part that the volume unit finds on a sample event counts as the part before the set was taken. -/
theorem Part.setTaken_volumeAfter (set : SampleSet) (s : Part) :
    (s.setTaken set).volumeAfter (sampleOf set s.inst (s.setTaken set).inst) = s.volumeAfter (s.eventOf set) := by
  have line := s.setTaken_line set
  have event : sampleOf set s.inst (s.setTaken set).inst = s.eventOf set := by rw [line.inst]; rfl
  have cfg : (s.setTaken set).cfg = s.cfg := by rw [Part.cfg, line.image]; rfl
  have product : (s.setTaken set).meterProduct = s.meterProduct := by
    rw [Part.meterProduct, Part.atMeter_congr (s := s) line.train line.det]; rfl
  have vol : (s.setTaken set).vol = s.vol := line.vol
  have filling : (s.setTaken set).fillingOrder = s.fillingOrder := by rw [Part.fillingOrder, line.planner]; rfl
  have current : (s.setTaken set).outlet.current = s.outlet.current := by rw [line.outlet]; rfl
  simp only [event, Part.volumeAfter, Part.countTrunk, Part.countDelivery, Part.tallyAfter, cfg, product, vol, filling,
    current]

theorem Part.countVolume_vol (e : Sample) (s : Part) : (s.countVolume e).vol = s.volumeAfter e := by
  have credited : ∀ n t, (Part.creditDelivered n t).vol = t.vol := by
    intro n t
    unfold Part.creditDelivered
    split <;> rfl
  have listed : ∀ n t, (Part.creditMixList n t).vol = t.vol := by
    intro n t
    unfold Part.creditMixList
    split
    · split <;> rfl
    · rfl
  unfold Part.countVolume
  rw [listed, credited]

/-- After the count nothing of a sample event reaches the volume unit but its tally (R41, R42). -/
theorem Part.sampleEvent_counts (set : SampleSet) (s : Part) :
    { (s.sampleEvent set).vol with tally := 0 } = { s.volumeAfter (s.eventOf set) with tally := 0 } := by
  have counted : (s.flowMoved set).vol = s.volumeAfter (s.eventOf set) :=
    (Part.countVolume_vol _ _).trans (s.setTaken_volumeAfter set)
  have retired : SameCounts (s.flowMoved set) (s.flowRetired set) :=
    ((Part.retire_stage _).trans (Part.handPlanned_route _).stage).counts
  rw [Part.sampleEvent_eq, ← counted]
  refine SameCounts.trans retired ?_
  exact (((Part.plannerShare_stage _ _).trans (Part.detectorShare_stage _ _ _ _ _)).counts.trans
    (Part.evaluateGuards_counts _ _ _)).trans (Part.followRoute_route _).counts

theorem countMeter_bounds (pulses weight factor residue acc : Nat) :
    (countMeter pulses weight factor residue acc).residue < 1073741824 ∧
      (countMeter pulses weight factor residue acc).acc < 1000 :=
  ⟨Nat.mod_lt _ (by decide), Nat.mod_lt _ (by decide)⟩

theorem joinFlow_length (entry : Nat) {window : List Nat} (short : window.length ≤ 16) :
    (joinFlow entry window).length ≤ 16 := by
  unfold joinFlow
  split
  · simp only [List.length_append, List.length_tail, List.length_singleton]
    omega
  · simp only [List.length_append, List.length_singleton]
    omega

/-- A sample event keeps the bounds: what a used meter leaves is a remainder, and the other keeps its own (R34, R44). -/
theorem Part.sampleEvent_volumeLaw (set : SampleSet) {s : Part} (law : s.volumeLaw) : (s.sampleEvent set).volumeLaw := by
  obtain ⟨trunk, delivery, trunkAcc, deliveryAcc, window⟩ := law
  refine SameCounts.law (s := { s with vol := s.volumeAfter (s.eventOf set) }) (s.sampleEvent_counts set) ?_
  have trunkCount : ∀ p f, (s.countTrunk p f).residue < 1073741824 ∧ (s.countTrunk p f).acc < 1000 := by
    intro p f
    unfold Part.countTrunk
    split
    · exact countMeter_bounds _ _ _ _ _
    · exact ⟨trunk, trunkAcc⟩
  have deliveryCount : ∀ p f, (s.countDelivery p f).residue < 1073741824 ∧ (s.countDelivery p f).acc < 1000 := by
    intro p f
    unfold Part.countDelivery
    split
    · exact countMeter_bounds _ _ _ _ _
    · exact ⟨delivery, deliveryAcc⟩
  exact ⟨(trunkCount _ _).1, (deliveryCount _ _).1, (trunkCount _ _).2, (deliveryCount _ _).2, joinFlow_length _ window⟩

/-! ## Every command keeps the law -/

/-- Each command keeps the bounds of the volume unit. -/
theorem exec_keeps_volumeLaw (c : Instr) (s : State) :
    ∃ t, exec c s = .next t ∧ (s.part.volumeLaw → t.part.volumeLaw) := by
  have request : ∀ {dt code states roles} {serve : Part → Part}, (∀ s, SameCounts s (serve s)) →
      s.part.volumeLaw → ((s.part.elapse dt).request code states roles serve).volumeLaw :=
    fun h => (Part.request_counts h _ _ _ (s.part.elapse _)).law
  have event : ∀ {dt} {f : Part → Part}, (∀ s, SameCounts s (f s)) →
      s.part.volumeLaw → ((s.part.elapse dt).whileRunning f).volumeLaw :=
    fun h => (Part.whileRunning_counts h (s.part.elapse _)).law
  obtain ⟨-, -, -, -, -, -, atReset, -⟩ := lawsHoldAtReset
  have reset : ∀ cause dt, ((s.part.elapse dt).resetBy cause).volumeLaw := fun _ _ => atReset
  cases c with
  | powerOnReset dt => exact ⟨_, rfl, fun _ => reset _ dt⟩
  | resetLineReset dt => exact ⟨_, rfl, fun _ => reset _ dt⟩
  | identify dt => exact ⟨_, rfl, id⟩
  | readStatus dt mask => exact ⟨_, rfl, (Part.serveReadStatus_counts mask (s.part.elapse dt)).law⟩
  | storeImage dt first last offset octets => exact ⟨_, rfl, request (Part.serveStoreImage_counts _ _ _ _)⟩
  | programmingComplete dt good => exact ⟨_, rfl, (Part.programmingEnds_counts good (s.part.elapse dt)).law⟩
  | reloadImage dt => exact ⟨_, rfl, request fun _ => .of_vol rfl⟩
  | start dt mode presence batch product => exact ⟨_, rfl, request (Part.serveStart_counts _ _ _ _)⟩
  | queueOrder dt batch outlet limit head tail => exact ⟨_, rfl, request (Part.serveQueueOrder_counts _ _ _ _ _)⟩
  | cancelOrder dt number => exact ⟨_, rfl, request (Part.serveCancelOrder_counts _)⟩
  | queueLaunch dt batch product volume outlet => exact ⟨_, rfl, request (Part.serveQueueLaunch_counts _ _ _ _)⟩
  | forceLaunch dt => exact ⟨_, rfl, request Part.serveForceLaunch_counts⟩
  | forceStage dt batch stage => exact ⟨_, rfl, request (Part.serveForceStage_counts _ _)⟩
  | releaseGuard dt channel => exact ⟨_, rfl, request (Part.serveReleaseGuard_counts _)⟩
  | syncFrom dt station => exact ⟨_, rfl, request (Part.serveSyncFrom_counts _)⟩
  | readTrain dt index => exact ⟨_, rfl, request (Part.serveReadTrain_counts _)⟩
  | readOrders dt => exact ⟨_, rfl, request fun _ => .of_vol rfl⟩
  | takeRecord dt => exact ⟨_, rfl, request fun _ => .of_vol rfl⟩
  | unknownRequestCode dt code => exact ⟨_, rfl, id⟩
  | portFrameDiscarded dt => exact ⟨_, rfl, id⟩
  | sampleRequestDue dt => exact ⟨_, rfl, event Part.requestDue_counts⟩
  | sampleEvent dt set =>
    refine ⟨_, rfl, fun law => ?_⟩
    show ((s.part.elapse dt).whileRunning (Part.transferCompletes set)).volumeLaw
    unfold Part.whileRunning Part.transferCompletes
    split
    · split
      · exact Part.sampleEvent_volumeLaw set law
      · exact law
    · exact law
  | meterPulse dt meter => exact ⟨_, rfl, event fun _ => .of_vol rfl⟩
  | limitLevelTaken dt outlet input active =>
    exact ⟨_, rfl, (Part.limitTaken_counts outlet input active (s.part.elapse dt)).law⟩
  | travelTimeout dt => exact ⟨_, rfl, event Part.travelDue_counts⟩
  | lineFrameReceived dt octets => exact ⟨_, rfl, event (Part.frameHeard_counts octets)⟩
  | launchNoticeTaken dt => exact ⟨_, rfl, event (Part.takeOldest_counts 1)⟩
  | passageNoticeTaken dt => exact ⟨_, rfl, event (Part.takeOldest_counts 2)⟩
  | holdNoticeTaken dt => exact ⟨_, rfl, event (Part.takeOldest_counts 3)⟩
  | trainRequestTaken dt => exact ⟨_, rfl, event (Part.takeOldest_counts 4)⟩
  | trainReportSegmentTaken dt => exact ⟨_, rfl, event (Part.takeOldest_counts 5)⟩
  | statusNoticeTaken dt => exact ⟨_, rfl, event (Part.takeOldest_counts 6)⟩
  | frameTransmitStart dt => exact ⟨_, rfl, event Part.transmitStart_counts⟩
  | frameSent dt => exact ⟨_, rfl, event Part.frameCompletes_counts⟩
  | collision dt bits => exact ⟨_, rfl, event (Part.collide_counts bits)⟩
  | backoffEnd dt => exact ⟨_, rfl, event Part.backoffEnds_counts⟩
  | peerHoldExpiry dt => exact ⟨_, rfl, event Part.holdDue_counts⟩
  | statusIntervalDue dt => exact ⟨_, rfl, event Part.statusDue_counts⟩
  | peerSilenceExpiry dt station => exact ⟨_, rfl, event (Part.silenceExpired_counts station)⟩
  | syncTimeout dt => exact ⟨_, rfl, event Part.syncExpired_counts⟩

end Sys2Proof.Machine

open Sys2Proof.Machine

/-- Settles O57: a sample event leaves remainders, the resets leave 0, and every other command leaves the volume unit but
for the tally. -/
theorem volumeLawKept : Obligations.VolumeLawKept := by
  intro s t law next
  unfold step at next
  split at next
  · cases next
    exact law
  · rename_i c rest _
    obtain ⟨u, executed, keeps⟩ := exec_keeps_volumeLaw c { s with pending := rest }
    rw [executed] at next
    cases next
    exact keeps law
end

section
/-! SUPPORT. The correction factor and the volume of a sample event (R35 to R44). -/

open Sys2Proof

namespace Sys2Proof.Machine

/-! ## The correction factor (R37, R38) -/

/-- CTL within the range of its coefficient (R37). -/
theorem ctl_bounds {alpha : Nat} (bound : alpha ≤ 32767) (temperature : Int) :
    860756324 ≤ ctl alpha temperature ∧ ctl alpha temperature ≤ 1253960324 := by
  have low : -5500 ≤ clampTo (-4000) 8000 temperature - 1500 := by simp only [clampTo]; omega
  have high : clampTo (-4000) 8000 temperature - 1500 ≤ 6500 := by simp only [clampTo]; omega
  have above : (alpha : Int) * (clampTo (-4000) 8000 temperature - 1500) ≤ 32767 * 6500 :=
    (mul_le_mul_of_nonneg_left high (by omega)).trans (by omega)
  have below : (alpha : Int) * -5500 ≤ alpha * (clampTo (-4000) 8000 temperature - 1500) :=
    mul_le_mul_of_nonneg_left low (by omega)
  simp only [ctl, unity, Nat.cast_ofNat]
  omega

/-- CPL within the range of its coefficient (R37). -/
theorem cpl_bounds {beta : Nat} (bound : beta ≤ 4095) (pressure : Int) :
    1073741824 ≤ cpl beta pressure ∧ cpl beta pressure ≤ 1135166824 := by
  have low : 0 ≤ clampTo 0 15000 pressure := by simp only [clampTo]; omega
  have high : clampTo 0 15000 pressure ≤ 15000 := by simp only [clampTo]; omega
  have above : (beta : Int) * clampTo 0 15000 pressure ≤ 4095 * 15000 :=
    (mul_le_mul_of_nonneg_left high (by omega)).trans (by omega)
  have below : 0 ≤ (beta : Int) * clampTo 0 15000 pressure := mul_nonneg (by omega) low
  simp only [cpl, unity, Nat.cast_ofNat]
  omega

/-- VCF is the floor of CTL × CPL / 2^30, and its bounds are those of the product (R38). -/
theorem vcf_bounds {alpha beta : Nat} (alphaBound : alpha ≤ 32767) (betaBound : beta ≤ 4095)
    (temperature pressure : Int) :
    (vcf alpha beta temperature pressure : Int) = ctl alpha temperature * cpl beta pressure / 1073741824 ∧
      860756324 ≤ vcf alpha beta temperature pressure ∧ vcf alpha beta temperature pressure ≤ 1325700000 := by
  obtain ⟨ctlLow, ctlHigh⟩ := ctl_bounds alphaBound temperature
  obtain ⟨cplLow, cplHigh⟩ := cpl_bounds betaBound pressure
  have low : 860756324 * 1073741824 ≤ ctl alpha temperature * cpl beta pressure :=
    mul_le_mul ctlLow cplLow (by omega) (by omega)
  have high : ctl alpha temperature * cpl beta pressure ≤ 1253960324 * 1135166824 :=
    mul_le_mul ctlHigh cplHigh (by omega) (by omega)
  have floor : (vcf alpha beta temperature pressure : Int) = ctl alpha temperature * cpl beta pressure / 1073741824 :=
    Int.toNat_of_nonneg (by simp only [unity]; omega)
  omega

/-- Product 0 has no correction (R36). -/
theorem vcf_zero (temperature pressure : Int) : vcf 0 0 temperature pressure = 1073741824 := by
  simp [vcf, ctl, cpl, unity]

/-! ## The sample event (R35 to R44) -/

/-- The value that a set leaves in use on a channel: its own where it is valid, otherwise the last valid one (R26). -/
def Part.inUse (set : SampleSet) (i : Fin 8) (reference : Int) (s : Part) : Int :=
  if readingValid i set[i] then set[i].value else (s.inst.channels[i].lastValid).getD reference

theorem takeSet_inUse (set : SampleSet) (i : Fin 8) (reference : Int) (s : Part) :
    (((Instruments.takeSet s.cfg set s.inst).channels[i]).lastValid).getD reference = s.inUse set i reference := by
  simp only [Instruments.takeSet, Fin.getElem_fin, Vector.getElem_ofFn, ReadingChannel.judge, Part.inUse]
  split <;> rfl

/-- The factor of a sample event is that of the values that its set leaves in use (R36). -/
theorem Part.eventOf_factor (set : SampleSet) (s : Part) :
    vcfOf s.cfg s.meterProduct (s.eventOf set).temperature (s.eventOf set).pressure =
      vcfOf s.cfg s.meterProduct (s.inUse set 2 1500) (s.inUse set 3 0) := by
  rw [← takeSet_inUse set 2, ← takeSet_inUse set 3]
  rfl

theorem usesTrunk_eq (r : Role) : usesTrunk r = decide (r ≠ .end_) := by cases r <;> rfl

theorem delivers_eq (r : Role) : r.delivers = decide (r = .terminal ∨ r = .end_) := by cases r <;> rfl

/-- A meter that a role uses or does not, counted (R34, R39, R40). -/
theorem countMeter_if (used : Bool) (pulses weight factor residue acc : Nat) :
    (if used then countMeter pulses weight factor residue acc else unusedMeter residue acc) =
      let fine := pulses * weight * factor + residue
      let cl := if used then fine / 2 ^ 30 else 0
      { centilitres := cl, whole := if used then (acc + cl) / 1000 else 0,
        residue := if used then fine % 2 ^ 30 else residue, acc := if used then (acc + cl) % 1000 else acc } := by
  cases used <;> rfl

theorem joinFlow_short {window : List Nat} (entry : Nat) (short : window.length < 16) :
    joinFlow entry window = window ++ [entry] := by
  rw [joinFlow, if_neg (by omega)]

theorem joinFlow_full {window : List Nat} (entry : Nat) (full : window.length = 16) :
    joinFlow entry window = window.tail ++ [entry] := by
  rw [joinFlow, if_pos (by omega)]

/-- What a sample event leaves in a field of the volume unit other than the tally (R41). -/
theorem Part.sampleEvent_vol {α : Type} (f : VolumeUnit → α) (same : ∀ v, f { v with tally := 0 } = f v)
    (set : SampleSet) (s : Part) : f (s.sampleEvent set).vol = f (s.volumeAfter (s.eventOf set)) := by
  rw [← same, s.sampleEvent_counts set, same]

/-- The trunk meter counted at a sample event, with the factor of the values in use (R35, R39, R40). -/
theorem Part.countTrunk_eq (pulses factor : Nat) (s : Part) :
    s.countTrunk pulses factor =
      let used := decide (s.cfg.role ≠ .end_)
      let fine := pulses * s.cfg.trunkWeight * factor + s.vol.trunkResidue
      let cl := if used then fine / 2 ^ 30 else 0
      { centilitres := cl, whole := if used then (s.vol.trunkAcc + cl) / 1000 else 0,
        residue := if used then fine % 2 ^ 30 else s.vol.trunkResidue,
        acc := if used then (s.vol.trunkAcc + cl) % 1000 else s.vol.trunkAcc } := by
  rw [Part.countTrunk, usesTrunk_eq]
  exact countMeter_if _ _ _ _ _ _

/-- The delivery meter counted at a sample event (R35, R39, R40). -/
theorem Part.countDelivery_eq (pulses factor : Nat) (s : Part) :
    s.countDelivery pulses factor =
      let used := decide (s.cfg.role = .terminal ∨ s.cfg.role = .end_)
      let fine := pulses * s.cfg.deliveryWeight * factor + s.vol.deliveryResidue
      let cl := if used then fine / 2 ^ 30 else 0
      { centilitres := cl, whole := if used then (s.vol.deliveryAcc + cl) / 1000 else 0,
        residue := if used then fine % 2 ^ 30 else s.vol.deliveryResidue,
        acc := if used then (s.vol.deliveryAcc + cl) % 1000 else s.vol.deliveryAcc } := by
  rw [Part.countDelivery, delivers_eq]
  exact countMeter_if _ _ _ _ _ _

/-- The volume unit after a sample event, by what each meter counts with the factor of the values in use (R36 to R45). -/
theorem Part.volumeAfter_eq (set : SampleSet) (s : Part) :
    let factor := vcfOf s.cfg s.meterProduct (s.inUse set 2 1500) (s.inUse set 3 0)
    let trunk := s.countTrunk (min s.inst.trunkPending 65535) factor
    let delivery := s.countDelivery (min s.inst.deliveryPending 65535) factor
    s.volumeAfter (s.eventOf set) =
      { trunkResidue := trunk.residue, deliveryResidue := delivery.residue, trunkAcc := trunk.acc,
        deliveryAcc := delivery.acc, trunkCounter := s.vol.trunkCounter + BitVec.ofNat 32 trunk.whole,
        deliveredCounter := s.vol.deliveredCounter + BitVec.ofNat 32 delivery.whole,
        arrivalCounter := s.vol.arrivalCounter + BitVec.ofNat 32 (trunk.whole + delivery.whole),
        flowWindow := joinFlow (trunk.centilitres + delivery.centilitres) s.vol.flowWindow, lastVcf := some factor,
        lastDensity :=
          if readingValid 0 set[0] then
            some { value := correctDensity set[0].value factor,
                   usable := (Instruments.takeSet s.cfg set s.inst).densityReady, event := s.vol.sampleEvents + 1 }
          else s.vol.lastDensity,
        product := s.meterProduct, uncorrected := decide (s.meterProduct = 0),
        tally := s.tallyAfter delivery.whole, sampleEvents := s.vol.sampleEvents + 1 } := by
  intro factor trunk delivery
  have density : (s.eventOf set).density = if readingValid 0 set[0] then some set[0].value else none := rfl
  simp only [Part.volumeAfter, s.eventOf_factor set]
  cases valid : readingValid 0 set[0] <;> simp only [density, valid] <;> rfl

end Sys2Proof.Machine

open Sys2Proof.Machine

/-- Settles O27: both terms stay within the ranges of their coefficients, and the floor of their product with them. -/
theorem correctionFactorBounds : Obligations.CorrectionFactorBounds := by
  intro alpha beta temperature pressure alphaBound betaBound
  obtain ⟨floor, low, high⟩ := vcf_bounds alphaBound betaBound temperature pressure
  exact ⟨floor, low, high, vcf_zero temperature pressure⟩

/-- Settles O26: the fields of `Part.volumeAfter`, each meter counted as its role uses it. -/
theorem sampleEventCountsVolume : Obligations.SampleEventCountsVolume := by
  intro s dt set run opened
  have vol := s.part.volumeAfter_eq set
  dsimp only at vol
  rw [Part.countTrunk_eq, Part.countDelivery_eq] at vol
  have counts {α : Type} (f : VolumeUnit → α) (same : ∀ v, f { v with tally := 0 } = f v) :=
    ((s.part.elapse dt).sampleEvent_vol f same set).trans (congrArg f vol)
  have inst := (s.part.elapse dt).sampleEvent_inst set
  refine ⟨_, exec_sampleEvent_open dt set run opened, ?_⟩
  generalize (s.part.elapse dt).sampleEvent set = t at counts inst
  dsimp only
  refine ⟨counts VolumeUnit.trunkResidue fun _ => rfl, counts VolumeUnit.deliveryResidue fun _ => rfl,
    counts VolumeUnit.trunkAcc fun _ => rfl, counts VolumeUnit.deliveryAcc fun _ => rfl,
    counts VolumeUnit.trunkCounter fun _ => rfl, counts VolumeUnit.deliveredCounter fun _ => rfl,
    counts VolumeUnit.arrivalCounter fun _ => rfl,
    fun short => (counts VolumeUnit.flowWindow fun _ => rfl).trans (joinFlow_short _ short),
    fun full => (counts VolumeUnit.flowWindow fun _ => rfl).trans (joinFlow_full _ full),
    counts VolumeUnit.lastVcf fun _ => rfl, counts VolumeUnit.product fun _ => rfl,
    counts VolumeUnit.uncorrected fun _ => rfl,
    fun invalid => (counts VolumeUnit.lastDensity fun _ => rfl).trans (if_neg (by simp [invalid])),
    fun valid => (counts VolumeUnit.lastDensity fun _ => rfl).trans ((if_pos valid).trans ?_)⟩
  rw [inst]
  rfl
end

section
/-! SUPPORT. The delivery orders under the cut planner's operations (R96 to R104): what leaves them as they are, how an
order ends, and how the FILLING order gives way to the next. -/

open Sys2Proof

namespace Sys2Proof.Machine

/-! ## The newest cut records (R173) -/

/-- A cut record stands in the queue with at most `k` newer ones. -/
def Part.recent (k : Nat) (x : CutRecord) (s : Part) : Prop :=
  ∃ older newer, s.port.records = older ++ x :: newer ∧ newer.length ≤ k

theorem Part.recent.mem {k : Nat} {x : CutRecord} {s : Part} (recent : s.recent k x) : x ∈ s.port.records := by
  obtain ⟨older, newer, is, -⟩ := recent
  simp [is]

theorem Part.recent.mono {j k : Nat} {x : CutRecord} {s : Part} (recent : s.recent j x) (le : j ≤ k) : s.recent k x := by
  obtain ⟨older, newer, is, few⟩ := recent
  exact ⟨older, newer, is, few.trans le⟩

theorem Part.recent.congr {k : Nat} {x : CutRecord} {s t : Part} (recent : s.recent k x)
    (records : t.port.records = s.port.records) : t.recent k x := by
  rwa [Part.recent, records]

/-- The record written last is the newest. -/
theorem Part.writeRecord_recent (body : RecordBody) (s : Part) :
    (s.writeRecord body).recent 0 { seq := s.port.seq, stamp := s.vol.arrivalCounter, body := body } :=
  ⟨_, [], rfl, le_rfl⟩

/-- Another record moves one that is not among the oldest of a full queue by one place. -/
theorem Part.recent.write {k : Nat} {x : CutRecord} {s : Part} (recent : s.recent k x) (short : k + 1 < 32)
    (body : RecordBody) : (s.writeRecord body).recent (k + 1) x := by
  obtain ⟨older, newer, is, few⟩ := recent
  have keeps : ∃ left, (if maxRecords ≤ s.port.records.length then s.port.records.tail else s.port.records) =
      left ++ x :: newer := by
    split
    · rename_i full
      cases older with
      | nil =>
        simp only [is, maxRecords, List.nil_append, List.length_cons] at full
        omega
      | cons y left => exact ⟨left, by rw [is]; rfl⟩
    · exact ⟨older, is⟩
  obtain ⟨left, kept⟩ := keeps
  refine ⟨left, newer ++ [{ seq := s.port.seq, stamp := s.vol.arrivalCounter, body := body }], ?_, ?_⟩
  · simp only [Part.writeRecord, decide_eq_true_eq, kept, List.append_assoc, List.cons_append]
  · rw [List.length_append, List.length_singleton]
    omega

/-! ## Links (R97, R99) -/

/-- A record's batch and the order that its link names. -/
def BatchRecord.tie (r : BatchRecord) : BatchNo × Option Nat := (r.batch, r.orderLink)

/-- The batches and links of the train. -/
def Part.ties (s : Part) : List (BatchNo × Option Nat) := s.train.records.map BatchRecord.tie

/-- The link of a batch's record. -/
theorem Part.link_eq (b : BatchNo) (s : Part) :
    (findBatch b s.train.records).map BatchRecord.orderLink =
      (s.ties.find? (fun p => decide (p.1 = b))).map Prod.snd := by
  rw [findBatch, Part.ties, List.find?_map, Option.map_map]
  rfl

theorem Part.mem_ties {s : Part} {r : BatchRecord} (mem : r ∈ s.train.records) : (r.batch, r.orderLink) ∈ s.ties :=
  List.mem_map.mpr ⟨r, mem, rfl⟩

theorem updateBatch_ties {b : BatchNo} {f : BatchRecord → BatchRecord} (same : ∀ r, (f r).tie = r.tie)
    (recs : List BatchRecord) : (updateBatch b f recs).map BatchRecord.tie = recs.map BatchRecord.tie := by
  rw [updateBatch, List.map_map]
  refine List.map_congr_left (fun r _ => ?_)
  rw [Function.comp_apply]
  split
  · exact same r
  · rfl

/-- A batch's link set or cleared is all that changes of the links. -/
theorem Part.modBatch_link (b : BatchNo) (link : Option Nat) (s : Part) :
    (s.modBatch b (fun r => { r with orderLink := link })).ties =
      s.ties.map (fun p => if p.1 = b then (p.1, link) else p) := by
  show (updateBatch b _ s.train.records).map _ = _
  rw [updateBatch, Part.ties, List.map_map, List.map_map]
  refine List.map_congr_left (fun r _ => ?_)
  simp only [Function.comp_apply, BatchRecord.tie]
  by_cases same : r.batch = b <;> simp [same]

/-- The links of the other batches stand when one is changed. -/
theorem find_link_other {b c : BatchNo} (other : b ≠ c) (link : Option Nat) (ties : List (BatchNo × Option Nat)) :
    (ties.map (fun p => if p.1 = b then (p.1, link) else p)).find? (fun p => decide (p.1 = c)) =
      ties.find? (fun p => decide (p.1 = c)) := by
  induction ties with
  | nil => rfl
  | cons p rest ih =>
    rw [List.map_cons, List.find?_cons, List.find?_cons, ih]
    by_cases same : p.1 = b
    · simp [same, other]
    · simp [same]

/-! ## What leaves the orders as they are -/

/-- `t` has the orders, the tally and the links of `s`, with at most `n` cut records written, and alarm flags that only
rise. -/
structure OrdersKept (n : Nat) (s t : Part) : Prop where
  orders : t.planner.orders = s.planner.orders
  tally : t.vol.tally = s.vol.tally
  stamp : t.vol.arrivalCounter = s.vol.arrivalCounter
  ties : t.ties = s.ties
  alarms : ∀ a, s.port.alarmSet a = true → t.port.alarmSet a = true
  recent : ∀ k x, k + n < 32 → s.recent k x → t.recent (k + n) x

/-- The planned route stands too. -/
structure OrdersStand (n : Nat) (s t : Part) : Prop extends OrdersKept n s t where
  planned : t.planner.planned = s.planner.planned

section
variable {m n : Nat} {s t u : Part}

theorem OrdersKept.refl (s : Part) : OrdersKept 0 s s := ⟨rfl, rfl, rfl, rfl, fun _ => id, fun _ _ _ => id⟩

theorem OrdersKept.trans (h : OrdersKept n s t) (k : OrdersKept m t u) : OrdersKept (n + m) s u :=
  ⟨k.orders.trans h.orders, k.tally.trans h.tally, k.stamp.trans h.stamp, k.ties.trans h.ties,
    fun a => k.alarms a ∘ h.alarms a, fun i x few recent => by
      rw [← Nat.add_assoc] at few ⊢
      exact k.recent _ x few (h.recent i x (by omega) recent)⟩

theorem OrdersStand.refl (s : Part) : OrdersStand 0 s s := ⟨.refl s, rfl⟩

theorem OrdersStand.trans (h : OrdersStand n s t) (k : OrdersStand m t u) : OrdersStand (n + m) s u :=
  ⟨h.toOrdersKept.trans k.toOrdersKept, k.planned.trans h.planned⟩

/-- An operation that leaves the planner, the volume unit, the links and the record queue. -/
theorem OrdersStand.of_eq (planner : t.planner = s.planner) (vol : t.vol = s.vol) (ties : t.ties = s.ties)
    (records : t.port.records = s.port.records)
    (alarms : ∀ a, s.port.alarmSet a = true → t.port.alarmSet a = true := by exact fun _ => id) : OrdersStand 0 s t :=
  ⟨⟨by rw [planner], by rw [vol], by rw [vol], ties, alarms, fun _ _ _ recent => recent.congr records⟩, by rw [planner]⟩

theorem OutletFrame.stand (h : OutletFrame s t) : OrdersStand 0 s t :=
  .of_eq h.planner h.vol (by rw [Part.ties, h.train]; rfl) h.records h.alarms

theorem LineFrame.stand (h : LineFrame s t) : OrdersStand 0 s t :=
  .of_eq h.planner h.vol (by rw [Part.ties, h.train]; rfl) h.records h.alarms

end

theorem Part.modDet_stand (f : Detector → Detector) (s : Part) : OrdersStand 0 s (s.modDet f) := .of_eq rfl rfl rfl rfl

theorem Part.modHead_stand (b : BatchNo) (f : HeadInterface → HeadInterface) (s : Part) :
    OrdersStand 0 s (s.modHead b f) :=
  .of_eq rfl rfl (updateBatch_ties (by intro; rfl) _) rfl

theorem Part.modWindow_stand (f : HeadInterface → HeadInterface) (s : Part) : OrdersStand 0 s (s.modWindow f) := by
  unfold Part.modWindow
  split
  · exact s.modHead_stand _ _
  · exact .refl s

theorem Part.setPlan_stand (p : Option CutPlan) (s : Part) : OrdersStand 0 s (s.setPlan p) := by
  unfold Part.setPlan
  split
  · exact s.modHead_stand _ _
  · exact .refl s

theorem Part.writeRecord_stand (body : RecordBody) (s : Part) : OrdersStand 1 s (s.writeRecord body) :=
  ⟨⟨rfl, rfl, rfl, rfl, fun _ => id, fun _ _ few recent => recent.write few body⟩, rfl⟩

theorem Part.raiseIf_stand (c : Bool) (a : Alarm) (s : Part) : OrdersStand 0 s (s.raiseIf c a) :=
  (s.raiseIf_line c a).stand

theorem Part.setPlanned_kept (r : Route) (s : Part) : OrdersKept 0 s (s.setPlanned r) :=
  ⟨rfl, rfl, rfl, rfl, fun _ => id, fun _ _ _ => id⟩

theorem Part.takeRoute_kept (clean : Bool) (g : Segment) (s : Part) : OrdersKept 0 s (s.takeRoute clean g) :=
  (s.setPlanned_kept _).trans (Part.raiseIf_stand _ _ _).toOrdersKept

theorem Part.takeRoute_planned (clean : Bool) (g : Segment) (s : Part) :
    (s.takeRoute clean g).planner.planned = some g.route :=
  (Part.raiseIf_stand _ _ (s.setPlanned g.route)).planned

/-- A clean segment that no order owns sets UNPLANNED_BATCH at an END (R102). -/
theorem Part.takeRoute_unplanned {g : Segment} {s : Part} (unowned : g.owner = none) (role : s.cfg.role = .end_) :
    (s.takeRoute true g).port.alarmSet .unplannedBatch = true := by
  have shown : (true && g.owner.isNone && decide ((s.setPlanned g.route).cfg.role = .end_)) = true := by
    rw [Part.setPlanned_cfg]
    simp [unowned, role]
  show ((s.setPlanned g.route).raiseIf (true && g.owner.isNone && decide (s.cfg.role = .end_)) _).port.alarmSet _ = true
  rw [Part.setPlanned_cfg] at shown
  rw [shown]
  simp [Part.raiseIf]

/-- What a recompute can do (R102). -/
theorem Part.recompute_cases (s : Part) :
    s.recompute = s ∨ ∃ b, s.recompute = s.setPlan (some (s.freshPlan b)) ∨
      ∃ clean, s.recompute = (s.setPlan (some (s.freshPlan b))).takeRoute clean (s.freshPlan b).s0 := by
  unfold Part.recompute
  split
  · exact .inl rfl
  · split
    · exact .inl rfl
    · split
      · exact .inl rfl
      · simp only
        split
        · exact .inl rfl
        · split
          · exact .inr ⟨_, .inr ⟨_, rfl⟩⟩
          · exact .inr ⟨_, .inl rfl⟩

theorem Part.recompute_kept (s : Part) : OrdersKept 0 s s.recompute := by
  obtain is | ⟨b, is | ⟨clean, is⟩⟩ := s.recompute_cases
  · rw [is]
    exact .refl s
  · rw [is]
    exact (s.setPlan_stand _).toOrdersKept
  · rw [is]
    exact (s.setPlan_stand _).toOrdersKept.trans (Part.takeRoute_kept _ _ _)

theorem Part.setPlan_records (p : Option CutPlan) (s : Part) : (s.setPlan p).port.records = s.port.records := by
  unfold Part.setPlan
  split <;> rfl

theorem Part.takeRoute_records (clean : Bool) (g : Segment) (s : Part) :
    (s.takeRoute clean g).port.records = s.port.records := (Part.raiseIf_line _ _ (s.setPlanned g.route)).records

theorem Part.recompute_records (s : Part) : s.recompute.port.records = s.port.records := by
  obtain is | ⟨b, is | ⟨clean, is⟩⟩ := s.recompute_cases
  · rw [is]
  · rw [is, Part.setPlan_records]
  · rw [is, Part.takeRoute_records, Part.setPlan_records]

/-- The planned route of the FILLING order stands over a recompute: S0 is that order's (R101, R102). -/
theorem Part.recompute_planned {s : Part} {f : Order} (is : s.fillingOrder = some f)
    (planned : s.planner.planned = some (.outlet f.outlet)) : s.recompute.planner.planned = some (.outlet f.outlet) := by
  obtain same | ⟨b, same | ⟨clean, same⟩⟩ := s.recompute_cases
  · rw [same, planned]
  · rw [same, (s.setPlan_stand _).planned, planned]
  · rw [same, Part.takeRoute_planned]
    simp [Part.freshPlan, planFrom, is, Order.segment]

theorem Part.stripPlan_stand (n : Nat) (s : Part) : OrdersStand 0 s (s.stripPlan n) := by
  unfold Part.stripPlan
  split
  · split
    · exact s.setPlan_stand _
    · exact .refl s
  · exact .refl s

end Sys2Proof.Machine
end

section
/-! SUPPORT. How a delivery order ends, and how the FILLING order gives way to the owner of a segment (R98, R99, R103). -/

open Sys2Proof

namespace Sys2Proof.Machine

/-! ## The order law (R96, R97) -/

section
variable {s : Part}

theorem Part.fillingOrder_mem {f : Order} (is : s.fillingOrder = some f) : f ∈ s.planner.orders :=
  List.mem_of_find?_eq_some is

theorem Part.fillingOrder_filling {f : Order} (is : s.fillingOrder = some f) : f.filling = true :=
  List.find?_some is

theorem Part.not_filling {o : Order} (is : s.fillingOrder = none) (mem : o ∈ s.planner.orders) : o.filling = false := by
  have := List.find?_eq_none.mp is o mem
  simpa using this

/-- The numbers of the orders differ, and at most one is FILLING (R96). -/
def Part.orderly (s : Part) : Prop :=
  (s.planner.orders.map Order.number).Nodup ∧ s.planner.orders.countP Order.filling ≤ 1

theorem Part.orderLaw.orderly (law : s.orderLaw) : s.orderly := by
  obtain ⟨-, numbers, -, one⟩ := law
  exact ⟨numbers, one⟩

/-- No two orders have one number. -/
theorem Part.orderly.number_inj (law : s.orderly) {o e : Order} (mo : o ∈ s.planner.orders)
    (me : e ∈ s.planner.orders) (same : o.number = e.number) : o = e :=
  List.inj_on_of_nodup_map law.1 mo me same

/-- The FILLING order is the only one. -/
theorem Part.orderly.filling_eq (law : s.orderly) {f o : Order} (is : s.fillingOrder = some f)
    (mem : o ∈ s.planner.orders) (filling : o.filling = true) : o = f := by
  obtain ⟨-, one⟩ := law
  rw [List.countP_eq_length_filter] at one
  have inO : o ∈ s.planner.orders.filter Order.filling := List.mem_filter.mpr ⟨mem, filling⟩
  have inF : f ∈ s.planner.orders.filter Order.filling :=
    List.mem_filter.mpr ⟨Part.fillingOrder_mem is, Part.fillingOrder_filling is⟩
  exact List.mem_singleton.mp (by
    obtain ⟨x, only⟩ := List.length_eq_one_iff.mp (Nat.le_antisymm one (List.length_pos_of_mem inF))
    rw [only, List.mem_singleton] at inO inF
    rw [inO, inF]
    exact List.mem_singleton_self x)

end

/-! ## An order that ends (R99) -/

/-- An order leaves the queue with its DELIVERY record and its link, before the plan is looked at. -/
def Part.strikeOrder (o : Order) (reason : EndReason) (s : Part) : Part :=
  ((s.writeRecord (.delivery o.number o.batch o.outlet (if o.filling then s.vol.tally else 0) reason)).modBatch o.batch
    (fun r => { r with orderLink := none })).modPlanner
      (fun p => { p with orders := p.orders.filter (fun e => decide (e.number ≠ o.number)) })

/-- On the way from `s` to `t` the order `o` has ended with a reason: its DELIVERY record is the newest, its batch's link
is absent, and no other order or link has changed (R99). -/
structure OrderEnded (o : Order) (reason : EndReason) (s t : Part) : Prop where
  orders : t.planner.orders = s.planner.orders.filter (fun e => decide (e.number ≠ o.number))
  tally : t.vol.tally = s.vol.tally
  stamp : t.vol.arrivalCounter = s.vol.arrivalCounter
  ties : t.ties = s.ties.map (fun p => if p.1 = o.batch then (p.1, none) else p)
  alarms : ∀ a, s.port.alarmSet a = true → t.port.alarmSet a = true
  record : t.recent 0 { seq := s.port.seq, stamp := s.vol.arrivalCounter,
                        body := .delivery o.number o.batch o.outlet (if o.filling then s.vol.tally else 0) reason }

section
variable {s t u : Part} {o : Order} {reason : EndReason}

theorem Part.strikeOrder_ended (o : Order) (reason : EndReason) (s : Part) :
    OrderEnded o reason s (s.strikeOrder o reason) :=
  ⟨rfl, rfl, rfl, Part.modBatch_link o.batch none _, fun _ => id, s.writeRecord_recent _⟩

theorem OrderEnded.kept (h : OrderEnded o reason s t) (k : OrdersKept 0 t u) : OrderEnded o reason s u :=
  ⟨k.orders.trans h.orders, k.tally.trans h.tally, k.stamp.trans h.stamp, k.ties.trans h.ties,
    fun a => k.alarms a ∘ h.alarms a, k.recent 0 _ (by decide) h.record⟩

/-- The link of the batch of an ended order is absent. -/
theorem OrderEnded.unlinked (h : OrderEnded o reason s t) {p : BatchNo × Option Nat} (mem : p ∈ t.ties)
    (same : p.1 = o.batch) : p.2 = none := by
  rw [h.ties] at mem
  obtain ⟨x, -, rfl⟩ := List.mem_map.mp mem
  by_cases at_ : x.1 = o.batch
  · simp [at_]
  · simp [at_] at same

theorem Part.endOrder_done (filling : o.filling = true) : s.endOrder o .done = (s.strikeOrder o .done).recompute := by
  simp only [Part.endOrder, Part.strikeOrder, filling]

theorem Part.endOrder_early (filling : o.filling = true) (early : reason ≠ .done) :
    s.endOrder o reason = (((s.strikeOrder o reason).redirect).stripPlan o.number).recompute := by
  cases reason
  case done => exact absurd rfl early
  all_goals simp only [Part.endOrder, Part.strikeOrder, filling]

theorem Part.endOrder_queued (queued : o.filling = false) :
    s.endOrder o reason = ((s.strikeOrder o reason).stripPlan o.number).recompute := by
  simp only [Part.endOrder, Part.strikeOrder, queued]

theorem Part.endOrder_ended (o : Order) (reason : EndReason) (s : Part) : OrderEnded o reason s (s.endOrder o reason) := by
  have struck := s.strikeOrder_ended o reason
  by_cases filling : o.filling = true
  · by_cases done : reason = .done
    · subst done
      rw [Part.endOrder_done filling]
      exact struck.kept (Part.recompute_kept _)
    · rw [Part.endOrder_early filling done]
      exact ((struck.kept (Part.takeRoute_kept _ _ _)).kept (Part.stripPlan_stand _ _).toOrdersKept).kept
        (Part.recompute_kept _)
  · rw [Part.endOrder_queued (by simpa using filling)]
    exact (struck.kept (Part.stripPlan_stand _ _).toOrdersKept).kept (Part.recompute_kept _)

end

/-! ## The FILLING order gives way (R98, R103) -/

/-- Whether a segment belongs to an order (R101). -/
def Segment.owns (g : Segment) (o : Order) : Bool := decide (g.owner = some o.number)

theorem Segment.owns_iff {g : Segment} {o : Order} : g.owns o = true ↔ g.owner = some o.number := decide_eq_true_iff

theorem Part.endFilling_none {s : Part} (keep : Option Nat) (reason : EndReason) (is : s.fillingOrder = none) :
    s.endFilling keep reason = s := by
  simp only [Part.endFilling, is]

theorem Part.endFilling_kept {s : Part} {f : Order} {keep : Option Nat} (reason : EndReason)
    (is : s.fillingOrder = some f) (kept : some f.number = keep) : s.endFilling keep reason = s := by
  simp only [Part.endFilling, is, if_pos kept]

theorem Part.endFilling_ends {s : Part} {f : Order} {keep : Option Nat} (reason : EndReason)
    (is : s.fillingOrder = some f) (other : some f.number ≠ keep) : s.endFilling keep reason = s.endOrder f reason := by
  simp only [Part.endFilling, is, if_neg other]

/-- The orders, the tally and the links from `s` to `t`, where the FILLING order has ended DONE unless `keep` names it. -/
structure FillingEnded (keep : Option Nat) (s t : Part) : Prop where
  orders : t.planner.orders = s.planner.orders.filter (fun o => !o.filling || decide (keep = some o.number))
  tally : t.vol.tally = s.vol.tally
  stamp : t.vol.arrivalCounter = s.vol.arrivalCounter
  alarms : ∀ a, s.port.alarmSet a = true → t.port.alarmSet a = true
  ended : ∀ o ∈ s.planner.orders, o.filling = true → keep ≠ some o.number → OrderEnded o .done s t
  links : (∀ o ∈ s.planner.orders, o.filling = true → keep = some o.number) → t.ties = s.ties

theorem Part.orderly.endFilling {s : Part} (law : s.orderly) (keep : Option Nat) :
    FillingEnded keep s (s.endFilling keep .done) := by
  cases is : s.fillingOrder with
  | none =>
    rw [Part.endFilling_none _ _ is]
    refine ⟨(List.filter_eq_self.mpr fun o mem => ?_).symm, rfl, rfl, fun _ => id, fun o mem filling => ?_, fun _ => rfl⟩
    · simp [Part.not_filling is mem]
    · rw [Part.not_filling is mem] at filling
      cases filling
  | some f =>
    by_cases kept : some f.number = keep
    · rw [Part.endFilling_kept _ is kept]
      refine ⟨(List.filter_eq_self.mpr fun o mem => ?_).symm, rfl, rfl, fun _ => id,
        fun o mem filling other => ?_, fun _ => rfl⟩
      · by_cases filling : o.filling = true
        · simp [law.filling_eq is mem filling, kept]
        · simp [filling]
      · rw [law.filling_eq is mem filling] at other
        exact absurd kept.symm other
    · rw [Part.endFilling_ends _ is kept]
      have ended := s.endOrder_ended f .done
      refine ⟨ended.orders.trans (List.filter_congr fun o mem => ?_), ended.tally, ended.stamp, ended.alarms,
        fun o mem filling _ => ?_, fun all => ?_⟩
      · by_cases filling : o.filling = true
        · simp [law.filling_eq is mem filling, Part.fillingOrder_filling is, Ne.symm kept]
        · have other : o.number ≠ f.number := fun same => filling (by
            rw [law.number_inj mem (Part.fillingOrder_mem is) same]
            exact Part.fillingOrder_filling is)
          simp [filling, other]
      · rw [law.filling_eq is mem filling]
        exact ended
      · exact absurd (all f (Part.fillingOrder_mem is) (Part.fillingOrder_filling is)).symm kept

/-- The owner of a segment turns FILLING, where it is QUEUED (R103). -/
def Part.startOwner (g : Segment) (s : Part) : Part :=
  match g.owner.bind (fun n => orderNumbered n s.planner.orders) with
  | some o => if o.filling then s else s.turnFilling o.number
  | none => s

theorem Part.takeSegment_eq (clean : Bool) (g : Segment) (s : Part) :
    s.takeSegment clean g = ((s.endFilling g.owner .done).startOwner g).takeRoute clean g := rfl

/-- An order with a segment's owner FILLING. -/
def Segment.starts (g : Segment) (o : Order) : Order := if g.owns o then { o with filling := true } else o

theorem Segment.starts_of_filling {g : Segment} {o : Order} (filling : g.owns o = true → o.filling = true) :
    g.starts o = o := by
  unfold Segment.starts
  split
  · rename_i owned
    obtain ⟨number, batch, outlet, limit, head, tail, fills⟩ := o
    simp only [Order.mk.injEq, true_and]
    exact (filling owned).symm
  · rfl

theorem Segment.map_starts_of_filling {g : Segment} {orders : List Order}
    (filling : ∀ o ∈ orders, g.owns o = true → o.filling = true) : orders.map g.starts = orders := by
  rw [List.map_congr_left fun o mem => Segment.starts_of_filling (filling o mem), List.map_id']

/-- The orders and the tally of `t` where the owner of a segment, in `s` at most QUEUED, is FILLING. -/
structure OwnerStarted (g : Segment) (s t : Part) : Prop where
  orders : t.planner.orders = s.planner.orders.map g.starts
  tally : t.vol.tally = if s.planner.orders.any (fun o => g.owns o && !o.filling) then 0 else s.vol.tally
  stamp : t.vol.arrivalCounter = s.vol.arrivalCounter
  ties : t.ties = s.ties
  port : t.port = s.port

/-- An owner that fills already, or that has left the queue, leaves the orders and the tally. -/
theorem OwnerStarted.refl {g : Segment} {s : Part}
    (filling : ∀ o ∈ s.planner.orders, g.owns o = true → o.filling = true) : OwnerStarted g s s := by
  have nobody : s.planner.orders.any (fun o => g.owns o && !o.filling) = false := by
    simpa [List.any_eq_false] using filling
  exact ⟨(Segment.map_starts_of_filling filling).symm, by rw [nobody]; rfl, rfl, rfl, rfl⟩

theorem Part.startOwner_started {g : Segment} {s : Part}
    (unique : ∀ o ∈ s.planner.orders, ∀ e ∈ s.planner.orders, o.number = e.number → o = e) :
    OwnerStarted g s (s.startOwner g) := by
  unfold Part.startOwner
  split
  · rename_i o found
    obtain ⟨n, owner, numbered⟩ := Option.bind_eq_some_iff.mp found
    have mem : o ∈ s.planner.orders := List.mem_of_find?_eq_some numbered
    have number : o.number = n := by simpa using List.find?_some numbered
    have owned : g.owns o = true := Segment.owns_iff.mpr (owner.trans (by rw [number]))
    split
    · rename_i filling
      refine .refl fun e me owns => ?_
      have same : e.number = o.number := by simpa [owned, Segment.owns_iff.mp owned] using (Segment.owns_iff.mp owns).symm
      rw [unique e me o mem same]
      exact filling
    · rename_i queued
      have somebody : s.planner.orders.any (fun o => g.owns o && !o.filling) = true :=
        List.any_eq_true.mpr ⟨o, mem, by simp [owned, queued]⟩
      refine ⟨List.map_congr_left fun e _ => ?_, by rw [somebody]; rfl, rfl, rfl, rfl⟩
      have : (e.number = o.number) ↔ g.owns e = true := by
        rw [Segment.owns_iff, owner, ← number]
        simp [eq_comm]
      simp only [Segment.starts, this]
  · rename_i missing
    refine .refl fun o mem owns => ?_
    have absent := Option.bind_eq_none_iff.mp missing o.number (Segment.owns_iff.mp owns)
    exact absurd (List.find?_eq_none.mp absent o mem) (by simp)

/-- The planned route has taken a segment on the way to `t`, with the orders and the tally of before as given: a FILLING
order that does not own it has ended DONE, its record with at most `k` newer ones, and its owner is FILLING (R103). -/
structure Took (before : List Order) (poured : Nat) (g : Segment) (k : Nat) (t : Part) : Prop where
  planned : t.planner.planned = some g.route
  orders : t.planner.orders = (before.filter (fun o => !o.filling || g.owns o)).map g.starts
  tally : t.vol.tally = if before.any (fun o => g.owns o && !o.filling) then 0 else poured
  record : ∀ o ∈ before, o.filling = true → g.owns o = false →
    ∃ x, t.recent k x ∧ x.stamp = t.vol.arrivalCounter ∧
      x.body = .delivery o.number o.batch o.outlet poured .done
  links : ∀ o ∈ before, o.filling = true → g.owns o = false → ∀ p ∈ t.ties, p.1 = o.batch → p.2 = none

/-- What leaves the orders, the tally and the planned route leaves what a stage has done. -/
theorem Took.stand {orders : List Order} {tally k n : Nat} {g : Segment} {t u : Part} (h : Took orders tally g k t)
    (stand : OrdersStand n t u) (few : k + n < 32) : Took orders tally g (k + n) u := by
  refine ⟨stand.planned.trans h.planned, stand.orders.trans h.orders, stand.tally.trans h.tally,
    fun o mem filling other => ?_, fun o mem filling other p tied => ?_⟩
  · obtain ⟨x, recent, stamp, body⟩ := h.record o mem filling other
    exact ⟨x, stand.recent k x few recent, stamp.trans stand.stamp.symm, body⟩
  · rw [stand.ties] at tied
    exact h.links o mem filling other p tied

/-- A segment taken by the planned route (R103). -/
theorem Part.takeSegment_took {s : Part} (law : s.orderly) (clean : Bool) (g : Segment) :
    Took s.planner.orders s.vol.tally g 0 (s.takeSegment clean g) := by
  have ended := law.endFilling g.owner
  have same (o : Order) : decide (g.owner = some o.number) = g.owns o := rfl
  have left (o : Order) : o ∈ (s.endFilling g.owner .done).planner.orders → o ∈ s.planner.orders := by
    rw [ended.orders]
    exact List.mem_of_mem_filter
  have started := Part.startOwner_started (g := g) fun o mo e me => law.number_inj (left o mo) (left e me)
  have route := Part.takeRoute_kept clean g ((s.endFilling g.owner .done).startOwner g)
  rw [Part.takeSegment_eq]
  refine ⟨Part.takeRoute_planned _ _ _, ?_, ?_, fun o mem filling other => ?_, fun o mem filling other p tied => ?_⟩
  · rw [route.orders, started.orders, ended.orders]
    rfl
  · rw [route.tally, started.tally, ended.tally, ended.orders, List.any_filter]
    have alike (o : Order) : ((!o.filling || decide (g.owner = some o.number)) && (g.owns o && !o.filling)) =
        (g.owns o && !o.filling) := by
      rw [same]
      cases g.owns o <;> simp
    simp only [alike]
  · have gone := ended.ended o mem filling (by simpa [Segment.owns] using other)
    have recent := route.recent 0 _ (by decide) (gone.record.congr (by rw [started.port]))
    refine ⟨_, recent, ?_, ?_⟩
    · rw [route.stamp, started.stamp, ended.stamp]
    · simp [filling]
  · have gone := ended.ended o mem filling (by simpa [Segment.owns] using other)
    rw [route.ties, started.ties] at tied
    exact gone.unlinked tied

end Sys2Proof.Machine
end

section
/-! SUPPORT. QUEUE ORDER (R97): the order joins, and starts late where its batch is PRESENT (R98). -/

open Sys2Proof

namespace Sys2Proof.Machine

/-! ## Joining the queue (R97) -/

theorem insertOrder_perm (o : Order) (orders : List Order) : (insertOrder o orders).Perm (o :: orders) := by
  rw [insertOrder]
  exact List.perm_middle.trans (List.Perm.of_eq (by rw [List.takeWhile_append_dropWhile]))

/-- An order in its place, its number used and its batch linked, before it starts or the plan is looked at. -/
def Part.joined (o : Order) (s : Part) : Part :=
  (s.modPlanner (fun p =>
    { p with orders := insertOrder o s.planner.orders,
             nextOrder := nextNumber o.number (insertOrder o s.planner.orders) })).modBatch o.batch
    (fun r => { r with orderLink := some o.number })

section
variable {s : Part} {o : Order}

theorem Part.mem_joined {e : Order} : e ∈ (s.joined o).planner.orders ↔ e = o ∨ e ∈ s.planner.orders :=
  (insertOrder_perm o _).mem_iff.trans List.mem_cons

theorem Part.joined_orderly (law : s.orderLaw) (number : o.number = s.planner.nextOrder) (queued : o.filling = false) :
    (s.joined o).orderly := by
  obtain ⟨-, numbers, fresh, one⟩ := law
  have perm := insertOrder_perm o s.planner.orders
  refine ⟨(perm.map Order.number).nodup_iff.mpr (List.nodup_cons.mpr ⟨fun mem => ?_, numbers⟩), ?_⟩
  · obtain ⟨e, me, same⟩ := List.mem_map.mp mem
    exact fresh e me (same.trans number)
  · exact (perm.countP_eq Order.filling).le.trans (by simpa [queued] using one)

/-- The batch's record is found with its link. -/
theorem Part.joined_find {r : BatchRecord} (found : findBatch o.batch s.train.records = some r) :
    findBatch o.batch (s.joined o).train.records = some { r with orderLink := some o.number } := by
  show findBatch o.batch (updateBatch o.batch _ s.train.records) = _
  rw [findBatch, updateBatch, List.find?_map]
  have same : (fun r : BatchRecord => decide (r.batch = o.batch)) ∘
      (fun r => if r.batch = o.batch then { r with orderLink := some o.number } else r) =
      fun r => decide (r.batch = o.batch) := by
    funext x
    simp only [Function.comp_apply]
    split <;> rfl
  rw [same]
  have is : s.train.records.find? (fun r => decide (r.batch = o.batch)) = some r := found
  have at_ : r.batch = o.batch := by simpa using List.find?_some is
  rw [is, Option.map_some, if_pos at_]

theorem Part.acceptOrder_present {r : BatchRecord} (found : findBatch o.batch s.train.records = some r)
    (present : r.status = .present) : s.acceptOrder o = (((s.joined o).lateStart o).handPlanned).holdEvent := by
  have status : (findBatch o.batch (s.joined o).train.records).map BatchRecord.status = some .present := by
    rw [Part.joined_find found, Option.map_some, ← present]
  unfold Part.acceptOrder
  simp only
  split
  · rfl
  · rename_i other
    exact absurd status other

theorem Part.acceptOrder_approaching {r : BatchRecord} (found : findBatch o.batch s.train.records = some r)
    (approaching : r.status = .approaching) : s.acceptOrder o = ((s.joined o).recompute).handPlanned := by
  have status : (findBatch o.batch (s.joined o).train.records).map BatchRecord.status = some .approaching := by
    rw [Part.joined_find found, Option.map_some, ← approaching]
  unfold Part.acceptOrder
  simp only
  split
  · rename_i other
    have same := status.symm.trans other
    cases same
  · rfl

end

/-! ## A late start (R98) -/

/-- What a late start leaves: the order is the FILLING one, with nothing delivered and its outlet the planned route. -/
structure StartedLate (o : Order) (s t : Part) : Prop where
  mem : { o with filling := true } ∈ t.planner.orders
  only : ∀ e ∈ t.planner.orders, e.filling = true → e.number = o.number
  tally : t.vol.tally = 0
  planned : t.planner.planned = some (.outlet o.outlet)
  record : ∀ f ∈ s.planner.orders, f.filling = true →
    ∃ x ∈ t.port.records, x.body = .delivery f.number f.batch f.outlet s.vol.tally .done
  link : (∀ f ∈ s.planner.orders, f.filling = true → f.batch ≠ o.batch) →
    (findBatch o.batch t.train.records).map BatchRecord.orderLink =
      (findBatch o.batch s.train.records).map BatchRecord.orderLink

theorem StartedLate.stand {o : Order} {s t u : Part} (h : StartedLate o s t) (stand : OrdersStand 0 t u)
    (records : u.port.records = t.port.records) : StartedLate o s u := by
  refine ⟨by rw [stand.orders]; exact h.mem, by rw [stand.orders]; exact h.only, stand.tally.trans h.tally,
    stand.planned.trans h.planned, by rw [records]; exact h.record, fun others => ?_⟩
  rw [Part.link_eq, stand.ties, ← Part.link_eq]
  exact h.link others

/-- The links of a batch whose order does not end stand while the FILLING order ends. -/
theorem FillingEnded.link {s t : Part} {keep : Option Nat} (h : FillingEnded keep s t) {b : BatchNo}
    (others : ∀ f ∈ s.planner.orders, f.filling = true → f.batch ≠ b) :
    t.ties.find? (fun p => decide (p.1 = b)) = s.ties.find? (fun p => decide (p.1 = b)) := by
  by_cases all : ∀ o ∈ s.planner.orders, o.filling = true → keep = some o.number
  · rw [h.links all]
  · push Not at all
    obtain ⟨f, mem, filling, other⟩ := all
    rw [(h.ended f mem filling other).ties]
    exact find_link_other (others f mem filling) none _

theorem Part.lateStart_started {s : Part} {o : Order} (law : s.orderly) (mem : o ∈ s.planner.orders)
    (queued : o.filling = false) : StartedLate o s (s.lateStart o) := by
  have ended := law.endFilling (some o.number)
  set e := s.endFilling (some o.number) .done with is
  set u := (e.turnFilling o.number).setPlanned (.outlet o.outlet) with set
  have turned : u.planner.orders = e.planner.orders.map (fun x => if x.number = o.number then { x with filling := true } else x) :=
    rfl
  have inQueue : o ∈ e.planner.orders := by
    rw [ended.orders]
    exact List.mem_filter.mpr ⟨mem, by simp [queued]⟩
  have fills : { o with filling := true } ∈ u.planner.orders := by
    rw [turned]
    exact List.mem_map.mpr ⟨o, inQueue, by simp⟩
  have only : ∀ x ∈ u.planner.orders, x.filling = true → x = { o with filling := true } := by
    intro x mx filling
    rw [turned, ended.orders] at mx
    obtain ⟨y, my, rfl⟩ := List.mem_map.mp mx
    obtain ⟨my, left⟩ := List.mem_filter.mp my
    by_cases same : y.number = o.number
    · rw [law.number_inj my mem same, if_pos rfl]
    · rw [if_neg same] at filling
      simp [filling, Ne.symm same] at left
  have order : u.fillingOrder = some { o with filling := true } := by
    obtain ⟨x, found⟩ := Option.isSome_iff_exists.mp (List.find?_isSome (p := Order.filling) |>.mpr ⟨_, fills, rfl⟩)
    rw [Part.fillingOrder, found, only x (List.mem_of_find?_eq_some found) (List.find?_some found)]
  have kept := u.recompute_kept
  have planned := Part.recompute_planned order rfl
  show StartedLate o s u.recompute
  refine ⟨by rw [kept.orders]; exact fills, fun x mx filling => ?_, kept.tally,
    planned, fun f mf filling => ?_, fun others => ?_⟩
  · rw [kept.orders] at mx
    rw [only x mx filling]
  · have other : some o.number ≠ some f.number := fun same => by
      have := law.number_inj mem mf (Option.some.inj same)
      rw [this, filling] at queued
      cases queued
    have record := (ended.ended f mf filling other).record.mem
    refine ⟨_, by rw [Part.recompute_records]; exact record, by simp [filling]⟩
  · rw [Part.link_eq, kept.ties, Part.link_eq]
    exact congrArg _ (ended.link others)


/-! ## The checks of R97 -/

theorem policyOf?_isSome (n : Nat) : (policyOf? n).isSome = true ↔ 1 ≤ n ∧ n ≤ 3 := by
  unfold policyOf?
  split
  · simp
  · simp
  · simp
  · rename_i one two three
    simp only [Option.isSome_none, Bool.false_eq_true, false_iff]
    rintro ⟨low, high⟩
    obtain is | is | is : n = 1 ∨ n = 2 ∨ n = 3 := by omega
    exacts [one is, two is, three is]

theorem tankOutletOf?_number {n : Nat} {o : Outlet} (number : n = o.val + 1) (tank : o.val < 6) :
    tankOutletOf? n = some o := by
  subst number
  simp [tankOutletOf?, outletOf?, show o.val + 1 ≤ 6 by omega]

theorem Part.fittedOutlet_isSome (s : Part) (outlet : Octet) :
    (s.fittedOutlet outlet).isSome = true ↔
      1 ≤ outlet.toNat ∧ outlet.toNat ≤ 6 ∧ s.cfg.outletsFitted.getLsbD (outlet.toNat - 1) = true := by
  by_cases inRange : 1 ≤ outlet.toNat ∧ outlet.toNat ≤ 6
  · obtain ⟨low, high⟩ := inRange
    have is : tankOutletOf? outlet.toNat = some ⟨outlet.toNat - 1, by omega⟩ :=
      tankOutletOf?_number (show outlet.toNat = outlet.toNat - 1 + 1 by omega) (show outlet.toNat - 1 < 6 by omega)
    have tank : outlet.toNat - 1 ≠ 6 := by omega
    simp [Part.fittedOutlet, is, Config.fitted, tank, low, high, Option.filter_some]
  · have is : tankOutletOf? outlet.toNat = none := by
      by_cases high : outlet.toNat ≤ 6
      · simp [tankOutletOf?, outletOf?, show outlet.toNat = 0 by omega]
      · simp [tankOutletOf?, high]
    simp only [Part.fittedOutlet, is, Option.filter_none, Option.isSome_none, Bool.false_eq_true, false_iff]
    omega

/-- Step 1 of R97 made of operands: what a request for an order must keep. -/
def Part.orderFits (outlet : Octet) (limit : BitVec 32) (head tail : Octet) (s : Part) : Prop :=
  1 ≤ outlet.toNat ∧ outlet.toNat ≤ 6 ∧ s.cfg.outletsFitted.getLsbD (outlet.toNat - 1) = true ∧
    (1 ≤ head.toNat ∧ head.toNat ≤ 3) ∧ (1 ≤ tail.toNat ∧ tail.toNat ≤ 3) ∧
    limit.toNat ≤ 40000000 ∧ (s.cfg.role = .end_ → limit = 0)

theorem Part.orderOf_eq {s : Part} {outlet head tail : Octet} {o : Outlet} {hp tp : Policy} {limit : Nat}
    (batch : BatchNo) (fitted : s.fittedOutlet outlet = some o) (first : policyOf? head.toNat = some hp)
    (last : policyOf? tail.toNat = some tp) :
    s.orderOf batch outlet limit head tail =
      if maxDal < limit ∨ (s.cfg.role = .end_ ∧ limit ≠ 0) then none
      else some { number := s.planner.nextOrder, batch := batch, outlet := o, limit := limit, headPolicy := hp,
                  tailPolicy := tp, filling := false } := by
  simp only [Part.orderOf, fitted, first, last]

theorem Part.limit_fits {s : Part} {limit : BitVec 32} :
    ¬(maxDal < limit.toNat ∨ (s.cfg.role = .end_ ∧ limit.toNat ≠ 0)) ↔
      limit.toNat ≤ 40000000 ∧ (s.cfg.role = .end_ → limit = 0) := by
  rw [not_or, not_and, not_not, Nat.not_lt]
  exact and_congr Iff.rfl (imp_congr Iff.rfl ⟨fun zero => BitVec.eq_of_toNat_eq zero, fun zero => by rw [zero]; rfl⟩)

/-- Operands that fit make an order of the batch. -/
theorem Part.orderFits.orderOf {s : Part} {outlet head tail : Octet} {limit : BitVec 32}
    (fits : s.orderFits outlet limit head tail) (batch : BatchNo) :
    ∃ o, s.orderOf batch outlet limit.toNat head tail = some o ∧ o.batch = batch := by
  obtain ⟨low, high, fitted, first, last, limited⟩ := fits
  obtain ⟨o, isO⟩ := Option.isSome_iff_exists.mp ((s.fittedOutlet_isSome outlet).mpr ⟨low, high, fitted⟩)
  obtain ⟨hp, isH⟩ := Option.isSome_iff_exists.mp ((policyOf?_isSome head.toNat).mpr first)
  obtain ⟨tp, isT⟩ := Option.isSome_iff_exists.mp ((policyOf?_isSome tail.toNat).mpr last)
  exact ⟨_, (Part.orderOf_eq batch isO isH isT).trans (if_neg (Part.limit_fits.mpr limited)), rfl⟩

/-- Only operands that fit make an order. -/
theorem Part.orderFits_of_orderOf {s : Part} {outlet head tail : Octet} {limit : BitVec 32} {batch : BatchNo}
    {o : Order} (is : s.orderOf batch outlet limit.toNat head tail = some o) : s.orderFits outlet limit head tail := by
  unfold Part.orderOf at is
  split at is
  · rename_i x hp tp isO isH isT
    split at is
    · cases is
    · rename_i limited
      have first := (policyOf?_isSome head.toNat).mp (by rw [isH]; rfl)
      have last := (policyOf?_isSome tail.toNat).mp (by rw [isT]; rfl)
      obtain ⟨low, high, fitted⟩ := (s.fittedOutlet_isSome outlet).mp (by rw [isO]; rfl)
      exact ⟨low, high, fitted, first, last, Part.limit_fits.mp limited⟩
  · cases is

theorem orderFor_isSome {b : BatchNo} {orders : List Order} :
    (orderFor b orders).isSome = true ↔ ∃ e ∈ orders, e.batch = b := by
  simp [orderFor, List.find?_isSome]

theorem Part.orderRefusal_unknown {s : Part} {o : Order} (missing : findBatch o.batch s.train.records = none) :
    s.orderRefusal o = some .unknownBatch := by
  simp only [Part.orderRefusal, missing]

/-- Steps 3 to 5 of R97, for a batch of the train. -/
theorem Part.orderRefusal_known {s : Part} {o : Order} {r : BatchRecord}
    (found : findBatch o.batch s.train.records = some r) :
    s.orderRefusal o =
      if r.status = .departed ∨ (r.status = .present ∧ s.inMix = true) then some .sequence
      else if (orderFor o.batch s.planner.orders).isSome then some .duplicate
      else if 16 ≤ s.planner.orders.length then some .full
      else none := by
  simp only [Part.orderRefusal, found, maxOrders]

theorem Part.serveQueueOrder_value {s : Part} {batch : BatchNo} {outlet head tail : Octet} {limit : Nat}
    (bad : s.orderOf batch outlet limit head tail = none) :
    s.serveQueueOrder batch outlet limit head tail = s.respond 0x20 .value [] := by
  simp only [Part.serveQueueOrder, bad]

theorem Part.serveQueueOrder_refused {s : Part} {batch : BatchNo} {outlet head tail : Octet} {limit : Nat} {o : Order}
    {result : Result} (is : s.orderOf batch outlet limit head tail = some o) (refused : s.orderRefusal o = some result) :
    s.serveQueueOrder batch outlet limit head tail = s.respond 0x20 result [] := by
  simp only [Part.serveQueueOrder, is, refused]

theorem Part.serveQueueOrder_accepted {s : Part} {batch : BatchNo} {outlet head tail : Octet} {limit : Nat} {o : Order}
    (is : s.orderOf batch outlet limit head tail = some o) (passes : s.orderRefusal o = none) :
    s.serveQueueOrder batch outlet limit head tail = (s.acceptOrder o).respond 0x20 .accepted (be1 o.number) := by
  simp only [Part.serveQueueOrder, is, passes]

/-- The refusals of R97 in their order, as the request answers them. -/
theorem Part.serveQueueOrder_refusal {s : Part} {batch : BatchNo} {outlet head tail : Octet} {limit : BitVec 32}
    {result : Result}
    (applies : (¬s.orderFits outlet limit head tail ∧ result = .value) ∨
      (s.orderFits outlet limit head tail ∧ findBatch batch s.train.records = none ∧ result = .unknownBatch) ∨
      (s.orderFits outlet limit head tail ∧ ∃ r, findBatch batch s.train.records = some r ∧
        let late := r.status = .departed ∨ (r.status = .present ∧ s.inMix = true)
        (late ∧ result = .sequence) ∨
        (¬late ∧ (∃ e ∈ s.planner.orders, e.batch = batch) ∧ result = .duplicate) ∨
        (¬late ∧ (∀ e ∈ s.planner.orders, e.batch ≠ batch) ∧ 16 ≤ s.planner.orders.length ∧ result = .full))) :
    s.serveQueueOrder batch outlet limit.toNat head tail = s.respond 0x20 result [] := by
  obtain ⟨bad, rfl⟩ | ⟨fits, rest⟩ : (¬s.orderFits outlet limit head tail ∧ result = .value) ∨
      (s.orderFits outlet limit head tail ∧ s.orderFits outlet limit head tail) := by
    rcases applies with bad | ⟨fits, -⟩ | ⟨fits, -⟩
    exacts [.inl bad, .inr ⟨fits, fits⟩, .inr ⟨fits, fits⟩]
  · refine Part.serveQueueOrder_value ?_
    cases is : s.orderOf batch outlet limit.toNat head tail with
    | none => rfl
    | some o => exact absurd (Part.orderFits_of_orderOf is) bad
  · obtain ⟨o, is, rfl⟩ := fits.orderOf batch
    refine Part.serveQueueOrder_refused is ?_
    obtain ⟨bad, -⟩ | ⟨-, missing, rfl⟩ | ⟨-, r, found, refusal⟩ := applies
    · exact absurd fits bad
    · exact Part.orderRefusal_unknown missing
    · rw [Part.orderRefusal_known found]
      obtain ⟨late, rfl⟩ | ⟨timely, twice, rfl⟩ | ⟨timely, once, full, rfl⟩ := refusal
      · rw [if_pos late]
      · rw [if_neg timely, if_pos (orderFor_isSome.mpr twice)]
      · have only : ¬(orderFor o.batch s.planner.orders).isSome = true := fun twice => by
          obtain ⟨e, me, same⟩ := orderFor_isSome.mp twice
          exact once e me same
        rw [if_neg timely, if_neg only, if_pos full]


/-! ## What an accepted order leaves (R97, R98) -/

theorem VolumeUnit.eq_of_tally {v w : VolumeUnit} (rest : { v with tally := 0 } = { w with tally := 0 })
    (tally : v.tally = w.tally) : v = w := by
  have : { ({ v with tally := 0 } : VolumeUnit) with tally := v.tally } =
      { ({ w with tally := 0 } : VolumeUnit) with tally := w.tally } := by rw [rest, tally]
  exact this

section
variable {s : Part} {o : Order} {r : BatchRecord}

theorem Part.joined_link (found : findBatch o.batch s.train.records = some r) :
    (findBatch o.batch (s.joined o).train.records).map BatchRecord.orderLink = some (some o.number) := by
  rw [Part.joined_find found, Option.map_some]

/-- The order of a batch that approaches waits, the plan looked at (R97). -/
theorem Part.acceptOrder_waits (idle : s.planner.incoming = none)
    (found : findBatch o.batch s.train.records = some r) (approaching : r.status = .approaching) :
    (s.acceptOrder o).planner.nextOrder = nextNumber o.number (insertOrder o s.planner.orders) ∧
      (findBatch o.batch (s.acceptOrder o).train.records).map BatchRecord.orderLink = some (some o.number) ∧
      (s.acceptOrder o).planner.orders = insertOrder o s.planner.orders ∧ (s.acceptOrder o).vol = s.vol ∧
      (s.acceptOrder o).port.records = s.port.records := by
  rw [Part.acceptOrder_approaching found approaching]
  have plan := (s.joined o).recompute_kept
  have stage := (s.joined o).recompute_stage
  have hand := Part.handPlanned_outlet_frame (s.joined o).recompute ((Part.recompute_plan _).incoming.trans idle)
  refine ⟨?_, ?_, ?_, ?_, ?_⟩
  · rw [hand.planner, stage.nextOrder]
    rfl
  · rw [hand.train, Part.link_eq, plan.ties, ← Part.link_eq]
    exact Part.joined_link found
  · rw [hand.planner, plan.orders]
    rfl
  · rw [hand.vol, VolumeUnit.eq_of_tally stage.vol plan.tally]
    rfl
  · rw [hand.records, Part.recompute_records]
    rfl

/-- The order of the PRESENT batch starts late (R98). -/
theorem Part.acceptOrder_starts (law : s.orderLaw) (idle : s.planner.incoming = none)
    (number : o.number = s.planner.nextOrder) (queued : o.filling = false)
    (found : findBatch o.batch s.train.records = some r) (present : r.status = .present) :
    (s.acceptOrder o).planner.nextOrder = nextNumber o.number (insertOrder o s.planner.orders) ∧
      StartedLate o (s.joined o) (s.acceptOrder o) := by
  rw [Part.acceptOrder_present found present]
  have started := Part.lateStart_started (Part.joined_orderly law number queued) (Part.mem_joined.mpr (.inl rfl)) queued
  have stage := Part.lateStart_stage o (s.joined o)
  have handed := Part.handPlanned_outlet_frame _ ((Part.lateStart_plan o (s.joined o)).incoming.trans idle)
  have hold := Part.holdEvent_outlet_frame _ (by
    rw [handed.planner, (Part.lateStart_plan o (s.joined o)).incoming]
    exact idle)
  have frame := handed.trans hold
  refine ⟨?_, started.stand frame.stand frame.records⟩
  rw [frame.planner, stage.nextOrder]
  rfl

end

end Sys2Proof.Machine

open Sys2Proof.Machine

/-- Settles O13: an order that passes joins the queue and waits or starts late, by the status of its batch's record; any
other is answered with the first refusal that applies. -/
theorem queueOrderOutcome : Obligations.QueueOrderOutcome := by
  refine ⟨fun s dt batch outlet limit head tail o hp tp r run role law idle number tank fitted first last most open_ found
      stays timely others room => ?_,
    fun s dt batch outlet limit head tail result run role applies => ?_⟩
  · intro next queued
    have isO : s.part.fittedOutlet outlet = some o := by
      have tankless : ¬o.val = 6 := by omega
      simp [Part.fittedOutlet, tankOutletOf?_number number tank, Config.fitted, tankless, fitted, Option.filter_some]
    have is : s.part.orderOf batch outlet limit.toNat head tail = some queued :=
      (Part.orderOf_eq batch isO first last).trans (if_neg (Part.limit_fits.mpr ⟨most, open_⟩))
    have passes : s.part.orderRefusal queued = none := by
      have once : ¬(orderFor batch s.part.planner.orders).isSome = true := fun twice => by
        obtain ⟨e, me, same⟩ := orderFor_isSome.mp twice
        exact others e me same
      rw [Part.orderRefusal_known found, if_neg (by simp only [not_or]; exact ⟨stays, timely⟩), if_neg once,
        if_neg (Nat.not_le.mpr room)]
    refine ⟨_, State.run_request dt run (by simpa [deliveryRoles] using role), ?_⟩
    have served := Part.serveQueueOrder_accepted (s := s.part.elapse dt) is passes
    dsimp only
    rw [served]
    refine ⟨Part.answered_respond .., ?_⟩
    cases status : r.status with
    | departed => exact absurd status stays
    | approaching =>
      obtain ⟨advanced, link, orders, vol, records⟩ :=
        Part.acceptOrder_waits (s := s.part.elapse dt) (o := queued) idle found status
      exact ⟨advanced, link, fun _ => ⟨orders, vol, records⟩, nofun⟩
    | present =>
      obtain ⟨advanced, started⟩ :=
        Part.acceptOrder_starts (s := s.part.elapse dt) (o := queued) law idle rfl rfl found status
      refine ⟨advanced, (started.link fun f mf filling => ?_).trans (Part.joined_link found), nofun, fun _ =>
        ⟨started.mem, started.only, started.tally, started.planned, fun f is => ?_⟩⟩
      · obtain rfl | mf := Part.mem_joined.mp mf
        · cases filling
        · exact others f mf
      · exact started.record f (Part.mem_joined.mpr (.inr (Part.fillingOrder_mem is))) (Part.fillingOrder_filling is)
  · refine ⟨_, State.run_request dt run (by simpa [deliveryRoles] using role), ?_⟩
    have served := Part.serveQueueOrder_refusal (s := s.part.elapse dt) (limit := limit) applies
    dsimp only
    rw [served]
    exact ⟨Part.answered_respond .., Part.onlyAnswers_respond ..⟩

end

section
/-! SUPPORT. The guard unit beside the orders, and the blocks of a sample event ahead of the detector (R41, R83, R131). -/

open Sys2Proof

namespace Sys2Proof.Machine

/-! ## What the guard unit keeps on a sample event (R131 to R137) -/

theorem Part.modChannel_same (c : ChannelNo) (f : GuardChannel → GuardChannel) (s : Part) :
    (s.modChannel c f).guard.channels[c] = f s.guard.channels[c] := by
  simp

theorem Part.modChannel_other {c k : ChannelNo} (other : c ≠ k) (f : GuardChannel → GuardChannel) (s : Part) :
    (s.modChannel c f).guard.channels[k] = s.guard.channels[k] := by
  simp [Fin.val_ne_of_ne other]

/-- A sample leaves a channel as made as it was, and latched. -/
theorem GuardChannel.sample_made (g : GuardConfig) (v t : Int) (k : GuardChannel) :
    (k.sample g v t).made = k.made ∧ (k.sample g v t).latched = k.latched := by
  unfold GuardChannel.sample
  simp only
  split
  · split <;> exact ⟨rfl, rfl⟩
  · split <;> exact ⟨rfl, rfl⟩

/-- What one channel does on a sample event (R130 to R132): nothing, or it takes its sample, and then makes or breaks. -/
theorem Part.evaluateChannel_cases (e : Sample) (n : Counted) (taken s : Part) (c : ChannelNo) :
    Part.evaluateChannel e n taken s c = s ∨ (s.guardConfig c).enable = true ∧ ∃ v t,
      let seen := s.modChannel c (GuardChannel.sample (s.guardConfig c) v t)
      Part.evaluateChannel e n taken s c = seen ∨
        (seen.guard.channels[c].made = false ∧ Part.evaluateChannel e n taken s c = seen.guardMake c) ∨
        (seen.guard.channels[c].made = true ∧ seen.guard.channels[c].latched = false ∧
          Part.evaluateChannel e n taken s c = seen.guardBreak .broken c) := by
  unfold Part.evaluateChannel
  simp only
  split
  · rename_i enabled
    split
    · rename_i v t _ _
      refine .inr ⟨enabled, v, t, ?_⟩
      split
      · rename_i due
        simp only [GuardChannel.dueToMake, Bool.and_eq_true, Bool.not_eq_true', decide_eq_true_eq] at due
        obtain ⟨⟨broken, -⟩, -⟩ := due
        exact .inr (.inl ⟨broken, rfl⟩)
      · split
        · rename_i due
          simp only [GuardChannel.dueToBreak, Bool.and_eq_true, Bool.not_eq_true', decide_eq_true_eq] at due
          obtain ⟨⟨⟨made, free⟩, -⟩, -⟩ := due
          exact .inr (.inr ⟨made, free, rfl⟩)
        · exact .inl rfl
    · exact .inl rfl
  · exact .inl rfl

/-- The channels of `t` that `s` has made and latched stay so, and so do the configuration and the channels still to be
evaluated. -/
structure GuardPending (s t : Part) (later : List ChannelNo) : Prop where
  image : t.image = s.image
  left : ∀ c ∈ later, t.guard.channels[c] = s.guard.channels[c]
  held : ∀ c : ChannelNo, s.guard.channels[c].made = true → s.guard.channels[c].latched = true →
    t.guard.channels[c].made = true ∧ t.guard.channels[c].latched = true

/-- What is kept by each step of the guard unit on a sample event that finds it as in `s`, `P k` while it has written at
most `k` cut records. -/
structure Part.GuardKept (s : Part) (P : Nat → Part → Prop) : Prop where
  channel : ∀ k t c f, P k t → P k (t.modChannel c f)
  contact : ∀ k t c, P k t → P k (t.driveContact c)
  record : ∀ k t body, P k t → P (k + 1) (t.writeRecord body)
  shown : ∀ k t, P k t → P k (t.raise .guardMade)
  fewer : ∀ k t, P k t → P (k + 1) t
  applied : ∀ k t c, P k t → (s.guardConfig c).enable = true → P k (t.applyAction c (s.guardConfig c).action)
  withdrawn : ∀ k t (c : ChannelNo), P k t → s.guard.channels[c].made = true → s.guard.channels[c].latched = false →
    GuardPending s t [] → P k (t.withdrawAction c (s.guardConfig c).action)

theorem GuardPending.config {s t : Part} {left : List ChannelNo} (h : GuardPending s t left) (c : ChannelNo) :
    t.guardConfig c = s.guardConfig c := by
  rw [Part.guardConfig, Part.cfg, h.image]
  rfl

/-- What leaves the image and the channels leaves what is still to be evaluated. -/
theorem GuardPending.stage {s t u : Part} {left : List ChannelNo} (h : GuardPending s t left) (image : u.image = t.image)
    (channels : u.guard.channels = t.guard.channels) : GuardPending s u left :=
  ⟨image.trans h.image, by rw [channels]; exact h.left, by rw [channels]; exact h.held⟩

theorem Part.driveContact_fixed (c : ChannelNo) (s : Part) :
    (s.driveContact c).image = s.image ∧ (s.driveContact c).guard.channels = s.guard.channels := by
  unfold Part.driveContact
  split <;> exact ⟨rfl, rfl⟩

/-- A change of a channel that is not pending, and keeps it made and latched where it was, leaves what is. -/
theorem GuardPending.channel {s t : Part} {c : ChannelNo} {left : List ChannelNo} {f : GuardChannel → GuardChannel}
    (h : GuardPending s t left) (once : c ∉ left)
    (held : s.guard.channels[c].made = true → s.guard.channels[c].latched = true →
      (f t.guard.channels[c]).made = true ∧ (f t.guard.channels[c]).latched = true) :
    GuardPending s (t.modChannel c f) left := by
  refine ⟨h.image, fun k mem => ?_, fun k made latched => ?_⟩
  · have other : c ≠ k := fun same => once (same ▸ mem)
    rw [Part.modChannel_other other]
    exact h.left k mem
  · by_cases same : c = k
    · subst same
      rw [Part.modChannel_same]
      exact held made latched
    · rw [Part.modChannel_other same]
      exact h.held k made latched

section
variable {s t : Part} {P : Nat → Part → Prop} {k : Nat} {c : ChannelNo} {left : List ChannelNo}

theorem Part.GuardKept.make (kept : s.GuardKept P) (pending : GuardPending s t left) (once : c ∉ left)
    (free : s.guard.channels[c].made = false) (enabled : (s.guardConfig c).enable = true) (holds : P k t) :
    P (k + 1) (t.guardMake c) ∧ GuardPending s (t.guardMake c) left := by
  set make : GuardChannel → GuardChannel :=
    fun x => { x with made := true, makeRun := 0, breakRun := 0, latched := (t.guardConfig c).latch } with isMake
  set told := ((t.modChannel c make).writeRecord (.guard c .made (t.guardConfig c).action
    (t.modChannel c make).guard.channels[c].lastValue)).raise .guardMade with isTold
  have recorded : P (k + 1) told := kept.shown _ _ (kept.record _ _ _ (kept.channel _ _ _ _ holds))
  have still : GuardPending s told left :=
    (pending.channel once (f := make) (fun made => absurd made (Bool.eq_false_iff.mp free))).stage rfl rfl
  have applied := kept.applied _ _ _ recorded enabled
  rw [← pending.config] at applied
  have stage := told.applyAction_stage c (t.guardConfig c).action
  obtain ⟨image, channels⟩ := Part.driveContact_fixed c (told.applyAction c (t.guardConfig c).action)
  exact ⟨kept.contact _ _ _ applied,
    still.stage (image.trans stage.image) (channels.trans (congrArg GuardUnit.channels stage.guard))⟩

theorem Part.GuardKept.break_ (kept : s.GuardKept P) (pending : GuardPending s t left) (once : c ∉ left)
    (made : s.guard.channels[c].made = true) (free : s.guard.channels[c].latched = false) (holds : P k t) :
    P (k + 1) (t.guardBreak .broken c) ∧ GuardPending s (t.guardBreak .broken c) left := by
  set clear : GuardChannel → GuardChannel :=
    fun x => { x with made := false, makeRun := 0, breakRun := 0, latched := false } with isClear
  set told := (t.modChannel c clear).writeRecord (.guard c .broken (t.guardConfig c).action
    (t.modChannel c clear).guard.channels[c].lastValue) with isTold
  have recorded : P (k + 1) told := kept.record _ _ _ (kept.channel _ _ _ _ holds)
  have still : GuardPending s told left :=
    (pending.channel once (f := clear) (fun _ latched => absurd latched (Bool.eq_false_iff.mp free))).stage rfl rfl
  have withdrawn := kept.withdrawn _ _ _ recorded made free ⟨still.image, nofun, still.held⟩
  rw [← pending.config] at withdrawn
  have stage := told.withdrawAction_stage c (t.guardConfig c).action
  obtain ⟨image, channels⟩ := Part.driveContact_fixed c (told.withdrawAction c (t.guardConfig c).action)
  exact ⟨kept.contact _ _ _ withdrawn,
    still.stage (image.trans stage.image) (channels.trans (congrArg GuardUnit.channels stage.guard))⟩

theorem Part.GuardKept.evaluate (kept : s.GuardKept P) (pending : GuardPending s t (c :: left)) (once : c ∉ left)
    (e : Sample) (n : Counted) (taken : Part) (holds : P k t) :
    P (k + 1) (Part.evaluateChannel e n taken t c) ∧ GuardPending s (Part.evaluateChannel e n taken t c) left := by
  have later : GuardPending s t left := ⟨pending.image, fun x mem => pending.left x (List.mem_cons_of_mem c mem), pending.held⟩
  have here := pending.left c (List.mem_cons_self ..)
  obtain is | ⟨enabled, v, x, is⟩ := Part.evaluateChannel_cases e n taken t c
  · rw [is]
    exact ⟨kept.fewer _ _ holds, later⟩
  · have seen : P k (t.modChannel c (GuardChannel.sample (t.guardConfig c) v x)) := kept.channel _ _ _ _ holds
    obtain ⟨made, latched⟩ := GuardChannel.sample_made (t.guardConfig c) v x t.guard.channels[c]
    have still : GuardPending s (t.modChannel c (GuardChannel.sample (t.guardConfig c) v x)) left :=
      later.channel once (fun m l => ⟨made.trans (here ▸ m), latched.trans (here ▸ l)⟩)
    rw [pending.config] at enabled
    dsimp only at is
    rw [Part.modChannel_same, made, latched, here] at is
    obtain is | ⟨free, is⟩ | ⟨was, free, is⟩ := is
    · rw [is]
      exact ⟨kept.fewer _ _ seen, still⟩
    · rw [is]
      exact kept.make still once free enabled seen
    · rw [is]
      exact kept.break_ still once was free seen

theorem Part.GuardKept.foldl (kept : s.GuardKept P) (e : Sample) (n : Counted) (taken : Part) (nodup : left.Nodup)
    (pending : GuardPending s t left) (holds : P k t) :
    P (k + left.length) (left.foldl (Part.evaluateChannel e n taken) t) := by
  induction left generalizing t k with
  | nil => exact holds
  | cons c left ih =>
    obtain ⟨once, nodup⟩ := List.nodup_cons.mp nodup
    obtain ⟨next, still⟩ := kept.evaluate pending once e n taken holds
    rw [List.length_cons, Nat.add_comm left.length, ← Nat.add_assoc]
    exact ih nodup still next

/-- What each step of the guard unit keeps, the guard unit keeps, with at most eight cut records (R131). -/
theorem Part.GuardKept.all (kept : s.GuardKept P) (e : Sample) (n : Counted) (holds : P 0 s) :
    P 8 (s.evaluateGuards e n) := by
  have all := kept.foldl (left := allChannels) e n s (by decide)
    ⟨rfl, fun _ _ => rfl, fun _ made latched => ⟨made, latched⟩⟩ holds
  rwa [show 0 + allChannels.length = 8 by decide] at all

end

/-! ## The guard unit beside the orders -/

/-- `t` is `s` but for the outlets, the guard unit, the indications and at most `n` cut records; no order starts or ends, and
the train, the window and the launches stand. -/
structure OrdersBeside (n : Nat) (s t : Part) : Prop extends OrdersStand n s t where
  train : t.train = s.train
  det : t.det = s.det
  image : t.image = s.image
  launches : t.planner.launches = s.planner.launches
  incoming : t.planner.incoming = s.planner.incoming

section
variable {m n : Nat} {s t u : Part}

theorem OrdersBeside.refl (s : Part) : OrdersBeside 0 s s := ⟨.refl s, rfl, rfl, rfl, rfl, rfl⟩

theorem OrdersBeside.trans (h : OrdersBeside n s t) (k : OrdersBeside m t u) : OrdersBeside (n + m) s u :=
  ⟨h.toOrdersStand.trans k.toOrdersStand, k.train.trans h.train, k.det.trans h.det, k.image.trans h.image,
    k.launches.trans h.launches, k.incoming.trans h.incoming⟩

theorem OrdersKept.mono (h : OrdersKept n s t) (le : n ≤ m) : OrdersKept m s t :=
  ⟨h.orders, h.tally, h.stamp, h.ties, h.alarms, fun k x few recent => (h.recent k x (by omega) recent).mono (by omega)⟩

theorem OrdersBeside.mono (h : OrdersBeside n s t) (le : n ≤ m) : OrdersBeside m s t :=
  ⟨⟨h.toOrdersKept.mono le, h.planned⟩, h.train, h.det, h.image, h.launches, h.incoming⟩

theorem OrdersBeside.noLaunch (h : OrdersBeside n s t) (none : s.noLaunch) : t.noLaunch :=
  ⟨h.launches.trans none.1, h.incoming.trans none.2⟩

theorem OrdersBeside.of_outlet (h : OutletFrame s t) : OrdersBeside 0 s t :=
  ⟨h.stand, h.train, h.det, h.image, by rw [h.planner], by rw [h.planner]⟩

theorem OrdersBeside.of_line (h : LineFrame s t) : OrdersBeside 0 s t :=
  ⟨h.stand, h.train, h.det, h.image, by rw [h.planner], by rw [h.planner]⟩

end

theorem Part.writeRecord_beside (body : RecordBody) (s : Part) : OrdersBeside 1 s (s.writeRecord body) :=
  ⟨s.writeRecord_stand body, rfl, rfl, rfl, rfl, rfl⟩

theorem Part.modChannel_beside (c : ChannelNo) (f : GuardChannel → GuardChannel) (s : Part) :
    OrdersBeside 0 s (s.modChannel c f) := ⟨.of_eq rfl rfl rfl rfl, rfl, rfl, rfl, rfl, rfl⟩

theorem Part.driveContact_beside (c : ChannelNo) (s : Part) : OrdersBeside 0 s (s.driveContact c) := by
  unfold Part.driveContact
  split
  · exact ⟨.of_eq rfl rfl rfl rfl, rfl, rfl, rfl, rfl, rfl⟩
  · exact .refl s

theorem Part.showEmpty_beside (s : Part) : OrdersBeside 0 s s.showEmpty := by
  unfold Part.showEmpty
  split
  · have shown : OrdersBeside 0 s (s.modPlanner (fun p => { p with emptyShown := true })) :=
      ⟨⟨⟨rfl, rfl, rfl, rfl, fun _ => id, fun _ _ _ => id⟩, rfl⟩, rfl, rfl, rfl, rfl, rfl⟩
    exact shown.trans (.of_line (Part.raise_line _ _))
  · exact .refl s

/-- A cut test finds no launch to decide. -/
theorem Part.cutTest_beside {s : Part} (none : s.noLaunch) : OrdersBeside 0 s s.cutTest := by
  unfold Part.cutTest
  split
  · rw [none.1]
    exact s.showEmpty_beside
  · exact .refl s

section
variable {s : Part} (none : s.noLaunch)
include none

theorem Part.applyAction_beside (c : ChannelNo) (a : GuardAction) (ends : a = .endOrder → s.fillingOrder = .none) :
    OrdersBeside 0 s (s.applyAction c a) := by
  unfold Part.applyAction
  split
  · exact .of_outlet (Part.overrideMade_outlet_frame _ _ _ none.2)
  · split
    · rename_i is
      simp only [Part.guardEnd, ends is]
      exact .refl s
    · exact .refl s

theorem Part.withdrawAction_beside (c : ChannelNo) (a : GuardAction) : OrdersBeside 0 s (s.withdrawAction c a) := by
  unfold Part.withdrawAction
  split
  · exact .of_outlet (Part.overrideGone_outlet_frame _ _ none.2)
  · split
    · exact Part.cutTest_beside none
    · exact .refl s

end

theorem Part.applyAction_tally (c : ChannelNo) (a : GuardAction) (s : Part) : (s.applyAction c a).vol.tally = s.vol.tally := by
  unfold Part.applyAction
  split
  · rw [(s.overrideMade_route c _).vol]
  · split
    · unfold Part.guardEnd
      split
      · rw [(Part.handPlanned_route _).vol, (Part.endOrder_ended _ _ _).tally]
      · rfl
    · rfl

/-- The guard unit ends no order on a sample event where none fills, or where no channel in use has the action (R106). -/
theorem Part.evaluateGuards_beside {s : Part} (none : s.noLaunch)
    (ends : s.fillingOrder = .none ∨ ∀ c : ChannelNo, (s.guardConfig c).enable = true → (s.guardConfig c).action ≠ .endOrder)
    (e : Sample) (n : Counted) : OrdersBeside 8 s (s.evaluateGuards e n) := by
  have kept : s.GuardKept (fun k t => OrdersBeside k s t) := by
    refine ⟨fun k t c f h => h.trans (t.modChannel_beside c f), fun k t c h => h.trans (t.driveContact_beside c),
      fun k t body h => h.trans (t.writeRecord_beside body), fun k t h => h.trans (.of_line (t.raise_line _)),
      fun k t h => h.mono (Nat.le_succ k), fun k t c h enabled => ?_, fun k t c h _ _ _ => ?_⟩
    · refine h.trans (Part.applyAction_beside (h.noLaunch none) c _ fun is => ?_)
      rw [Part.fillingOrder, h.orders]
      exact ends.resolve_right fun unused => unused c enabled is
    · exact h.trans (Part.withdrawAction_beside (h.noLaunch none) c _)
  exact kept.all e n (.refl s)

/-- The guard unit leaves the tally on a sample event, whether it ends an order or not. -/
theorem Part.evaluateGuards_tally {s : Part} (none : s.noLaunch) (e : Sample) (n : Counted) :
    (s.evaluateGuards e n).vol.tally = s.vol.tally := by
  have kept : s.GuardKept (fun _ t => t.noLaunch ∧ t.vol.tally = s.vol.tally) := by
    refine ⟨fun _ _ _ _ => id, fun _ t c h => ?_, fun _ _ _ => id, fun _ _ => id, fun _ _ => id, fun _ t c h _ => ?_,
      fun _ t c h _ _ _ => ?_⟩
    · have beside := t.driveContact_beside c
      exact ⟨beside.noLaunch h.1, beside.tally.trans h.2⟩
    · have quiet := Part.applyAction_quiet h.1 c (s.guardConfig c).action
      exact ⟨quiet.noLaunch h.1, (t.applyAction_tally c _).trans h.2⟩
    · have beside := Part.withdrawAction_beside h.1 c (s.guardConfig c).action
      exact ⟨beside.noLaunch h.1, beside.tally.trans h.2⟩
  exact (kept.all e n ⟨none, rfl⟩).2

theorem Part.followRoute_beside (s : Part) : OrdersBeside 0 s s.followRoute :=
  .of_outlet s.followRoute_outlet_frame

/-! ## The sample event ahead of the cut planner (R41, R42, R51) -/

/-- What own flow leaves of a record: its batch, its status, its link and its head's plan. -/
def BatchRecord.bond (r : BatchRecord) : BatchNo × BatchStatus × Option Nat × Option (Option CutPlan) :=
  (r.batch, r.status, r.orderLink, r.head.map HeadInterface.plan)

/-- The bonds of the train. -/
def Part.bonds (s : Part) : List (BatchNo × BatchStatus × Option Nat × Option (Option CutPlan)) :=
  s.train.records.map BatchRecord.bond

theorem Part.ties_of_bonds {s t : Part} (bonds : t.bonds = s.bonds) : t.ties = s.ties := by
  have ties (u : Part) : u.ties = u.bonds.map (fun b => (b.1, b.2.2.1)) := by
    rw [Part.bonds, List.map_map]
    rfl
  rw [ties, ties, bonds]

theorem Part.statuses_of_bonds {s t : Part} (bonds : t.bonds = s.bonds)
    (near : ∀ r ∈ s.train.records, r.status ≠ .departed) : ∀ r ∈ t.train.records, r.status ≠ .departed := by
  intro r mem
  have inT : r.bond ∈ t.bonds := List.mem_map_of_mem mem
  rw [bonds] at inT
  obtain ⟨x, mx, same⟩ := List.mem_map.mp inT
  have status : x.status = r.status := congrArg (fun b => b.2.1) same
  rw [← status]
  exact near x mx

theorem BatchRecord.bond_mapHead {f : HeadInterface → HeadInterface} (plan : ∀ h, (f h).plan = h.plan) (r : BatchRecord) :
    ({ r with head := r.head.map f } : BatchRecord).bond = r.bond := by
  unfold BatchRecord.bond
  rw [Option.map_map]
  have same : HeadInterface.plan ∘ f = HeadInterface.plan := funext plan
  rw [same]

theorem flowClamp_bonds (recs : List BatchRecord) :
    (flowClamp recs).map BatchRecord.bond = recs.map BatchRecord.bond := by
  induction recs with
  | nil => rfl
  | cons r rest ih =>
    have lowered (d : Int) : (lowerTo d r).bond = r.bond :=
      BatchRecord.bond_mapHead (fun h => by split <;> rfl) r
    unfold flowClamp
    simp only
    split
    · rw [List.map_cons, List.map_cons, ih, lowered]
    · rw [List.map_cons, List.map_cons, ih]

theorem armHead_plan (c : Config) (h : HeadInterface) : (armHead c h).plan = h.plan := by
  unfold armHead
  split <;> rfl

theorem BatchRecord.finish_bond (c : Config) (b : Option BatchNo) (n : BitVec 32) (r : BatchRecord) :
    (r.finish c b n).bond = r.bond := by
  have credited : (creditBatch b n r).bond = r.bond := by
    unfold creditBatch
    split <;> rfl
  exact (BatchRecord.bond_mapHead (armHead_plan c) (creditBatch b n r)).trans credited

/-- Own flow leaves the bonds of the train. -/
theorem Part.flowMoved_bonds (set : SampleSet) (s : Part) : (s.flowMoved set).bonds = s.bonds := by
  obtain ⟨records, -⟩ := s.flowMoved_facts set
  have flow (role : Role) (arrival trunk : Nat) (h : HeadInterface) : (flowHead role arrival trunk h).plan = h.plan := by
    unfold flowHead
    split
    · split <;> rfl
    · rfl
  rw [Part.bonds, records, List.map_map]
  have finished : BatchRecord.bond ∘ BatchRecord.finish s.cfg (s.atMeter.map BatchRecord.batch)
      (BitVec.ofNat 32 (s.countOf set).delivery) = BatchRecord.bond := funext fun r => r.finish_bond _ _ _
  rw [finished, Part.flowed, flowClamp_bonds, ownFlow, List.map_map]
  exact List.map_congr_left fun r _ => BatchRecord.bond_mapHead (flow _ _ _) r

section
variable (set : SampleSet) (s : Part)

/-- Own flow has counted the tally and left the orders, the links and the records. -/
structure OrdersCounted (t : Part) : Prop where
  planner : t.planner = s.planner
  vol : t.vol = s.volumeAfter (s.eventOf set)
  ties : t.ties = s.ties
  records : t.port.records = s.port.records
  seq : t.port.seq = s.port.seq
  image : t.image = s.image

theorem Part.flowMoved_counted : OrdersCounted set s (s.flowMoved set) := by
  obtain ⟨port, -, -⟩ := Part.countVolume_frame (sampleOf set s.inst (s.setTaken set).inst) (s.setTaken set)
  obtain ⟨records, -, -, order⟩ := s.flowMoved_facts set
  have line := s.setTaken_line set
  have same : (s.flowMoved set).port = ((s.setTaken set).countVolume (sampleOf set s.inst (s.setTaken set).inst)).port :=
    rfl
  refine ⟨(s.flowMoved_frame set).2.1, (Part.countVolume_vol _ _).trans (s.setTaken_volumeAfter set), ?_,
    ((congrArg StationPort.records same).trans (congrArg _ port)).trans line.records,
    ((congrArg StationPort.seq same).trans (congrArg _ port)).trans line.seq, order.image⟩
  exact Part.ties_of_bonds (s.flowMoved_bonds set)

end

/-! ## Own flow with nothing to retire, and the volume limit (R15, R105) -/

section
variable {s : Part}

/-- Nothing retires while no record is DEPARTED (R15). -/
theorem Part.retire_none (near : ∀ r ∈ s.train.records, r.status ≠ .departed) : s.retire = s := by
  have gone : (splitRetired s.keepBehind s.train.records).1 = [] :=
    List.eq_nil_iff_forall_not_mem.mpr fun r mem => by
      have whole := splitRetired_append s.keepBehind s.train.records
      exact near r (whole ▸ List.mem_append_left _ mem) (departed_of_mem_splitRetired mem)
  have stay : (splitRetired s.keepBehind s.train.records).2 = s.train.records := by
    have whole := splitRetired_append s.keepBehind s.train.records
    rwa [gone, List.nil_append] at whole
  unfold Part.retire
  simp only [gone, stay]
  rfl

/-- Own flow with nothing to retire hands the planned route and moves the reassembly buffer (R107, R163). -/
theorem Part.flowRetired_beside (set : SampleSet) (none : s.noLaunch)
    (near : ∀ r ∈ s.train.records, r.status ≠ .departed) :
    OrdersBeside 0 (s.flowMoved set) (s.flowRetired set) ∧ (s.flowRetired set).port = (s.flowMoved set).port := by
  have idle : (s.flowMoved set).planner.incoming = .none := by
    rw [(s.flowMoved_counted set).planner]
    exact none.2
  have down (t : Part) (n : Nat) : OrdersBeside 0 t (t.countDown n) := ⟨.of_eq rfl rfl rfl rfl, rfl, rfl, rfl, rfl, rfl⟩
  rw [Part.flowRetired, Part.retire_none (Part.statuses_of_bonds (s.flowMoved_bonds set) near)]
  exact ⟨(OrdersBeside.of_outlet (Part.handPlanned_outlet_frame _ idle)).trans (down _ _), Part.handPlanned_port idle⟩

theorem Part.limitTest_none (is : s.fillingOrder = none) : s.limitTest = s := by
  simp only [Part.limitTest, is]

theorem Part.limitTest_under {o : Order} (is : s.fillingOrder = some o) (under : o.limit = 0 ∨ s.vol.tally < o.limit) :
    s.limitTest = s := by
  simp only [Part.limitTest, is]
  exact if_neg (by omega)

theorem Part.limitTest_reached {o : Order} (is : s.fillingOrder = some o) (limited : o.limit ≠ 0)
    (reached : o.limit ≤ s.vol.tally) : s.limitTest = (s.endOrder o .limit).handPlanned := by
  simp only [Part.limitTest, is]
  exact if_pos ⟨limited, reached⟩

theorem Part.windowHead_of_empty (empty : s.det.window = none) : s.windowHead = none := by
  simp only [Part.windowHead, empty]

/-- With the window empty an early end of the FILLING order gives the planned route back to the clean default (R99, R104). -/
theorem Part.endOrder_redirects {o : Order} {reason : EndReason} (empty : s.det.window = none) (filling : o.filling = true)
    (early : reason ≠ .done) :
    s.endOrder o reason = (s.strikeOrder o reason).takeRoute true (defaultSegment s.cfg.role) := by
  have nothing : (s.strikeOrder o reason).redirect.windowHead = none :=
    Part.windowHead_of_empty ((congrArg Detector.window (Part.takeRoute_plan _ _ _).det).trans empty)
  have unplanned : (s.strikeOrder o reason).redirect.windowPlan = none := by rw [Part.windowPlan, nothing]; rfl
  have plain : (s.strikeOrder o reason).inMix = false := by
    have gone : (s.strikeOrder o reason).windowHead = none := Part.windowHead_of_empty empty
    simp only [Part.inMix, Part.windowState, gone]
    rfl
  rw [Part.endOrder_early filling early, Part.stripPlan, unplanned]
  simp only
  rw [Part.recompute, nothing]
  simp only
  rw [Part.redirect, plain]
  rfl

end

end Sys2Proof.Machine
end

section
/-! SUPPORT. A sample event that finds the window empty, where the role delivers (R42, R99, R104, R105). -/

open Sys2Proof

namespace Sys2Proof.Machine

section
variable {s : Part}

/-- With the window empty the detector has no share in a sample event (R73, R83). -/
theorem Part.detectorShare_empty (empty : s.windowHead = none) (e : Sample) (n : Counted) (readiness moved : Bool) :
    s.detectorShare e n readiness moved = s := by
  have report : s.readinessReport = s := by simp only [Part.readinessReport, empty]
  have still : s.evaluate = s := by simp only [Part.evaluate, Part.evaluateWith, empty]
  have reading (d m : Option Int) : s.takeReadings d m = s := by simp only [Part.takeReadings, empty]
  unfold Part.detectorShare
  simp only [report, ite_self, still, reading]

/-- The confirmed delivery of a sample event, counted to the FILLING order (R42). -/
theorem Part.tallyAfter_filling {o : Order} (is : s.fillingOrder = some o)
    (role : s.cfg.role = .terminal ∨ s.cfg.role = .end_) (delivery : Nat) :
    s.tallyAfter delivery = if s.outlet.current = .known (.outlet o.outlet)
      then min (s.vol.tally + delivery) 4294967295 else s.vol.tally := by
  have delivers : s.cfg.role.delivers = true := by rw [delivers_eq]; simpa using role
  simp only [Part.tallyAfter, is, delivers, true_and]
  rfl

theorem Part.tallyAfter_none (is : s.fillingOrder = none) (delivery : Nat) : s.tallyAfter delivery = s.vol.tally := by
  simp only [Part.tallyAfter, is]

/-- What the cut planner finds on a sample event with nothing to retire: `u` has the orders, the planned route and the
records of `s`, and the tally counted. -/
structure OrdersFlowed (set : SampleSet) (s u : Part) : Prop where
  noLaunch : u.noLaunch
  image : u.image = s.image
  window : u.det.window = s.det.window
  planner : u.planner = s.planner
  tally : u.vol.tally = s.tallyAfter (s.countOf set).delivery
  seq : u.port.seq = s.port.seq

theorem Part.flowRetired_flowed (set : SampleSet) (none : s.noLaunch)
    (near : ∀ r ∈ s.train.records, r.status ≠ .departed) : OrdersFlowed set s (s.flowRetired set) := by
  obtain ⟨beside, port⟩ := s.flowRetired_beside set none near
  have counted := s.flowMoved_counted set
  have idle : (s.flowMoved set).planner.incoming = .none := by
    rw [counted.planner]
    exact none.2
  have still : (s.flowRetired set).planner = (s.flowMoved set).planner := by
    show ((s.flowMoved set).retire.handPlanned).planner = _
    rw [Part.retire_none (Part.statuses_of_bonds (s.flowMoved_bonds set) near)]
    exact (Part.handPlanned_outlet_frame _ idle).planner
  refine ⟨beside.noLaunch ⟨?_, idle⟩, beside.image.trans counted.image,
    (congrArg Detector.window beside.det).trans (s.flowMoved_live set).window, still.trans counted.planner,
    beside.tally.trans (congrArg VolumeUnit.tally counted.vol), (congrArg StationPort.seq port).trans counted.seq⟩
  rw [counted.planner]
  exact none.1

/-- After own flow a sample event that finds the window empty is the volume limit's and the guard unit's (R83, R105). -/
theorem Part.sampleEvent_limit (set : SampleSet) (flowed : OrdersFlowed set s (s.flowRetired set))
    (role : s.cfg.role = .terminal ∨ s.cfg.role = .end_) (empty : s.det.window = none) :
    s.sampleEvent set =
      ((s.flowRetired set).limitTest.evaluateGuards (s.eventOf set) (s.countOf set)).followRoute := by
  obtain ⟨moved, is⟩ := s.sampleEvent_reached set
  have cfg : (s.flowRetired set).cfg = s.cfg := by
    rw [Part.cfg, flowed.image]
    rfl
  have reached : s.reached set = (s.flowRetired set).limitTest := by
    rw [Part.reached, Part.plannerShare, cfg]
    exact if_neg (by rcases role with role | role <;> rw [role] <;> nofun)
  have window : (s.flowRetired set).limitTest.det.window = none := by
    unfold Part.limitTest
    split
    · split
      · rw [(Part.handPlanned_route _).det, (Part.endOrder_plan _ _ _).det, flowed.window, empty]
      · rw [flowed.window, empty]
    · rw [flowed.window, empty]
  rw [is, reached, Part.detectorShare_empty (Part.windowHead_of_empty window)]

/-- The FILLING order at its volume limit ends LIMIT on the way from `u` to `t`, at most `n` cut records later: the planned
route is the default, and the batch's link absent (R99, R104, R105). -/
structure LimitEnded (o : Order) (n : Nat) (u t : Part) : Prop where
  orders : t.planner.orders = u.planner.orders.filter (fun x => decide (x.number ≠ o.number))
  planned : t.planner.planned = some (defaultRoute u.cfg.role)
  record : ∃ x, t.recent n x ∧ x.seq = u.port.seq ∧ x.stamp = t.vol.arrivalCounter ∧
    x.body = .delivery o.number o.batch o.outlet u.vol.tally .limit
  links : ∀ p ∈ t.ties, p.1 = o.batch → p.2 = none
  unplanned : u.cfg.role = .end_ → t.port.alarmSet .unplannedBatch = true

theorem LimitEnded.stand {o : Order} {m n : Nat} {u t v : Part} (h : LimitEnded o m u t) (stand : OrdersStand n t v)
    (few : m + n < 32) : LimitEnded o (m + n) u v := by
  obtain ⟨x, recent, seq, stamp, body⟩ := h.record
  exact ⟨stand.orders.trans h.orders, stand.planned.trans h.planned,
    ⟨x, stand.recent m x few recent, seq, stamp.trans stand.stamp.symm, body⟩, by rw [stand.ties]; exact h.links,
    fun role => stand.alarms _ (h.unplanned role)⟩

theorem Part.limitTest_ended {u : Part} {o : Order} (none : u.noLaunch) (empty : u.det.window = .none)
    (is : u.fillingOrder = some o) (limited : o.limit ≠ 0) (full : o.limit ≤ u.vol.tally) :
    LimitEnded o 0 u u.limitTest := by
  have filling := Part.fillingOrder_filling is
  have ended := u.endOrder_ended o .limit
  have redirects := Part.endOrder_redirects (reason := .limit) empty filling nofun
  have hand := Part.handPlanned_outlet_frame (u.endOrder o .limit) ((u.endOrder_plan o .limit).incoming.trans none.2)
  rw [Part.limitTest_reached is limited full]
  refine LimitEnded.stand (m := 0) (n := 0) ⟨ended.orders, ?_, ⟨_, ended.record, rfl, ended.stamp.symm, by simp [filling]⟩,
    fun p mem => ended.unlinked mem, fun role => ?_⟩ hand.stand (by decide)
  · rw [redirects]
    exact Part.takeRoute_planned _ _ _
  · rw [redirects]
    exact Part.takeRoute_unplanned rfl role

/-- No order fills once the FILLING order has ended. -/
theorem LimitEnded.noneFills {o : Order} {n : Nat} {u t : Part} (h : LimitEnded o n u t) (law : u.orderly)
    (is : u.fillingOrder = some o) : t.fillingOrder = none := by
  rw [Part.fillingOrder, h.orders]
  refine List.find?_eq_none.mpr fun x mem filling => ?_
  obtain ⟨mem, other⟩ := List.mem_filter.mp mem
  rw [law.filling_eq is mem filling] at other
  simp at other

/-! ### What the sample event shows of the orders (R42, R105) -/

section
variable (set : SampleSet) (samples : s.samples) (role : s.cfg.role = .terminal ∨ s.cfg.role = .end_)
  (empty : s.det.window = none) (near : ∀ r ∈ s.train.records, r.status ≠ .departed)
include samples role empty near

/-- The tally is as counted, whether the order ends or not. -/
theorem Part.sampleEvent_tally : (s.sampleEvent set).vol.tally = s.tallyAfter (s.countOf set).delivery := by
  have flowed := s.flowRetired_flowed set samples.noLaunch near
  have test : (s.flowRetired set).limitTest.noLaunch ∧
      (s.flowRetired set).limitTest.vol.tally = (s.flowRetired set).vol.tally := by
    unfold Part.limitTest
    split
    · split
      · rename_i o _ _
        have plan := (s.flowRetired set).endOrder_plan o .limit
        have hand := Part.handPlanned_outlet_frame _ (plan.incoming.trans flowed.noLaunch.2)
        refine ⟨(OrdersBeside.of_outlet hand).noLaunch ⟨plan.launches.trans flowed.noLaunch.1,
          plan.incoming.trans flowed.noLaunch.2⟩, ?_⟩
        rw [hand.vol, (Part.endOrder_ended _ _ _).tally]
      · exact ⟨flowed.noLaunch, rfl⟩
    · exact ⟨flowed.noLaunch, rfl⟩
  rw [Part.sampleEvent_limit set flowed role empty, (Part.followRoute_beside _).tally,
    Part.evaluateGuards_tally test.1, test.2, flowed.tally]

/-- Where no limit is reached and no guard channel can end an order, the orders stand. -/
theorem Part.sampleEvent_ordersStand
    (under : ∀ o, s.fillingOrder = some o → o.limit = 0 ∨ s.tallyAfter (s.countOf set).delivery < o.limit)
    (ends : s.fillingOrder = none ∨ ∀ c : ChannelNo, s.cfg.guards[c].enable = true → s.cfg.guards[c].action ≠ .endOrder) :
    (s.sampleEvent set).planner.orders = s.planner.orders ∧ (s.sampleEvent set).planner.planned = s.planner.planned := by
  have flowed := s.flowRetired_flowed set samples.noLaunch near
  have order : (s.flowRetired set).fillingOrder = s.fillingOrder := by rw [Part.fillingOrder, flowed.planner]; rfl
  have test : (s.flowRetired set).limitTest = s.flowRetired set := by
    cases is : s.fillingOrder with
    | none => exact Part.limitTest_none (order.trans is)
    | some o => exact Part.limitTest_under (order.trans is) (flowed.tally ▸ under o is)
  have config (c : ChannelNo) : (s.flowRetired set).guardConfig c = s.cfg.guards[c] := by
    rw [Part.guardConfig, Part.cfg, flowed.image]
    rfl
  have guards := Part.evaluateGuards_beside flowed.noLaunch (by simpa only [order, config] using ends) (s.eventOf set)
    (s.countOf set)
  have stand := guards.trans (Part.followRoute_beside _)
  rw [Part.sampleEvent_limit set flowed role empty, test]
  exact ⟨stand.orders.trans (by rw [flowed.planner]), stand.planned.trans (by rw [flowed.planner])⟩

/-- An order at its limit has ended on the sample event, ahead of the guard unit (log entry 11). -/
theorem Part.sampleEvent_limitEnded (law : s.orderLaw) {o : Order} (is : s.fillingOrder = some o) (limited : o.limit ≠ 0)
    (full : o.limit ≤ s.tallyAfter (s.countOf set).delivery) :
    LimitEnded o 8 (s.flowRetired set) (s.sampleEvent set) := by
  have flowed := s.flowRetired_flowed set samples.noLaunch near
  have fills : (s.flowRetired set).fillingOrder = some o := by rw [Part.fillingOrder, flowed.planner]; exact is
  have orderly : (s.flowRetired set).orderly := by
    rw [Part.orderly, flowed.planner]
    exact law.orderly
  have ended := Part.limitTest_ended flowed.noLaunch (flowed.window.trans empty) fills limited (flowed.tally ▸ full)
  have none : (s.flowRetired set).limitTest.noLaunch := by
    rw [Part.limitTest_reached fills limited (flowed.tally ▸ full)]
    have plan := (s.flowRetired set).endOrder_plan o .limit
    exact (OrdersBeside.of_outlet (Part.handPlanned_outlet_frame _ (plan.incoming.trans flowed.noLaunch.2))).noLaunch
      ⟨plan.launches.trans flowed.noLaunch.1, plan.incoming.trans flowed.noLaunch.2⟩
  have guards := Part.evaluateGuards_beside none (.inl (ended.noneFills orderly fills)) (s.eventOf set) (s.countOf set)
  rw [Part.sampleEvent_limit set flowed role empty]
  exact ended.stand (guards.trans (Part.followRoute_beside _)).toOrdersStand (by decide)

end

end

end Sys2Proof.Machine
end

section
/-! SUPPORT. A sample event at the ORIGIN with the window empty: the launched volume and the cut test (R108 to R110), and the
guard unit after them (R136, R137). -/

open Sys2Proof

namespace Sys2Proof.Machine

/-! ## Own flow with no order in the queue -/

section
variable {s : Part}

theorem Part.endRetired_unordered (orders : s.planner.orders = []) (r : BatchRecord) : s.endRetired r = s := by
  have nobody (n : Nat) : orderNumbered n s.planner.orders = none := by rw [orders]; rfl
  unfold Part.endRetired
  cases r.orderLink with
  | none => rfl
  | some n => simp only [Option.bind_some, nobody]

theorem foldl_endRetired_unordered (gone : List BatchRecord) (orders : s.planner.orders = []) :
    gone.foldl Part.endRetired s = s := by
  induction gone with
  | nil => rfl
  | cons r rest ih => rw [List.foldl_cons, Part.endRetired_unordered orders, ih]

/-- Retirement with no order in the queue is the train store's alone (R15, R16). -/
theorem Part.retire_unordered (orders : s.planner.orders = []) : s.retire =
    { s with train := { records := (splitRetired s.keepBehind s.train.records).2,
                        horizon := horizonAfter s.train.horizon (splitRetired s.keepBehind s.train.records).1 } } :=
  foldl_endRetired_unordered _ orders

theorem Part.countVolume_guard (e : Sample) (s : Part) : (s.countVolume e).guard = s.guard := by
  have credited (n : Nat) (t : Part) : (t.creditDelivered n).guard = t.guard := by
    unfold Part.creditDelivered
    split <;> rfl
  have listed (n : Nat) (t : Part) : (t.creditMixList n).guard = t.guard := by
    unfold Part.creditMixList
    split
    · split <;> rfl
    · rfl
  unfold Part.countVolume
  rw [listed, credited]

/-- What the cut planner of an ORIGIN finds on a sample event with the window and the queue of orders empty: the planner, the
guard unit and the port as they were. -/
structure OriginFlowed (s u : Part) : Prop where
  planner : u.planner = s.planner
  guard : u.guard = s.guard
  port : u.port = s.port
  image : u.image = s.image
  window : u.det.window = none

theorem Part.flowRetired_origin (set : SampleSet) (empty : s.det.window = none) (orders : s.planner.orders = [])
    (idle : s.planner.incoming = none) : OriginFlowed s (s.flowRetired set) := by
  have counted := s.flowMoved_counted set
  have told : (s.modInst (Instruments.takeSet s.cfg set)).reportLoss s.inst = s.modInst (Instruments.takeSet s.cfg set) :=
    Part.reportLoss_empty (Part.windowHead_of_empty (s := s.modInst (Instruments.takeSet s.cfg set)) empty) _
  obtain ⟨port, -, -⟩ := Part.countVolume_frame (sampleOf set s.inst (s.setTaken set).inst) (s.setTaken set)
  have taken : (s.setTaken set).port = s.port := by
    rw [Part.setTaken, told]
    rfl
  have portM : (s.flowMoved set).port = s.port := Eq.trans port taken
  have guardM : (s.flowMoved set).guard = s.guard :=
    (Part.countVolume_guard _ _).trans (s.setTaken_line set).guard
  have none : (s.flowMoved set).planner.orders = [] := by rw [counted.planner, orders]
  have waits : (s.flowMoved set).planner.incoming = .none := by rw [counted.planner, idle]
  have hand := Part.handPlanned_outlet_frame (s.flowMoved set).retire (by rw [Part.retire_unordered none]; exact waits)
  have handPort := Part.handPlanned_port (s := (s.flowMoved set).retire) (by rw [Part.retire_unordered none]; exact waits)
  rw [Part.retire_unordered none] at hand handPort
  have same : s.flowRetired set = ((s.flowMoved set).retire.handPlanned).countDown (s.countOf set).arrival := rfl
  rw [same, Part.retire_unordered none]
  exact ⟨hand.planner.trans counted.planner, hand.guard.trans guardM, handPort.trans portM, hand.image.trans counted.image,
    (congrArg Detector.window hand.det).trans ((s.flowMoved_live set).window.trans empty)⟩

/-! ## The cut test (R110) -/

theorem Part.decideCut_det (e : LaunchEntry) (rest : List LaunchEntry) (s : Part) : (s.decideCut e rest).det = s.det := by
  have handed : (((s.decided e rest).handRoute (.outlet e.outlet)).holdEvent).det = s.det :=
    (Part.holdEvent_route _).det.trans (Part.handRoute_route _ _).det
  rw [Part.decideCut_eq]
  split
  · exact (Part.launchEffect_route _ _).det.trans handed
  · exact handed

theorem Part.cutTest_det (s : Part) : s.cutTest.det = s.det := by
  unfold Part.cutTest
  split
  · split
    · exact s.showEmpty_beside.det
    · split
      · rfl
      · exact s.decideCut_det _ _
  · rfl

theorem Part.cutTest_waits (undue : s.volumeCondition = false) : s.cutTest = s := by
  simp [Part.cutTest, undue]

theorem Part.cutTest_empty (due : s.volumeCondition = true) (launches : s.planner.launches = []) :
    s.cutTest = s.showEmpty := by
  simp only [Part.cutTest, due, launches, if_true]

theorem Part.cutTest_held {e : LaunchEntry} {rest : List LaunchEntry} (due : s.volumeCondition = true)
    (launches : s.planner.launches = e :: rest) (held : s.holdLaunchMade = true) : s.cutTest = s := by
  simp [Part.cutTest, due, launches, held]

theorem Part.cutTest_decides {e : LaunchEntry} {rest : List LaunchEntry} (due : s.volumeCondition = true)
    (launches : s.planner.launches = e :: rest) (idle : s.planner.incoming = none) (free : s.holdLaunchMade = false) :
    s.cutTest = s.decideCut e rest := by
  simp [Part.cutTest, due, launches, idle, free]

/-- The volume condition as R109 has it. -/
theorem Part.volumeCondition_iff : s.volumeCondition = true ↔
    ∀ c, s.planner.current = some c → ∃ v, c.nominated = some v ∧ v ≤ c.launched := by
  unfold Part.volumeCondition
  cases s.planner.current with
  | none => simp
  | some c => cases nominated : c.nominated <;> simp [nominated]

/-- LAUNCH_QUEUE_EMPTY is shown once for each current batch (R110). -/
theorem Part.showEmpty_shows (s : Part) :
    s.showEmpty.planner = { s.planner with emptyShown := s.planner.emptyShown || s.planner.current.isSome } ∧
      s.showEmpty.port.alarmSet .launchQueueEmpty =
        (s.port.alarmSet .launchQueueEmpty || (s.planner.current.isSome && !s.planner.emptyShown)) := by
  unfold Part.showEmpty
  split
  · rename_i new
    rw [new]
    simp only [Bool.and_eq_true] at new
    simp [new.1]
  · rename_i old
    rw [Bool.eq_false_iff.mpr old]
    refine ⟨?_, by simp⟩
    have : (s.planner.emptyShown || s.planner.current.isSome) = s.planner.emptyShown := by
      cases shown : s.planner.emptyShown <;> simp_all
    rw [this]

theorem Part.showEmpty_shown (shown : s.planner.emptyShown = true ∨ s.planner.current = none) : s.showEmpty = s := by
  unfold Part.showEmpty
  refine if_neg ?_
  rcases shown with shown | none
  · simp [shown]
  · simp [none]

end

/-! ## The guard unit after the cut test (R136, R137) -/

theorem Part.holdLaunchMade_of {s : Part} {c : ChannelNo} (action : s.cfg.guards[c].action = .holdLaunch)
    (made : s.guard.channels[c].made = true) : s.holdLaunchMade = true := by
  have all : ∀ k : ChannelNo, k ∈ allChannels := by decide
  exact List.any_eq_true.mpr ⟨c, all c, by rw [made, action]; rfl⟩

theorem Part.guardEnd_unordered {s : Part} (orders : s.planner.orders = []) : s.guardEnd = s := by
  have none : s.fillingOrder = none := by rw [Part.fillingOrder, orders]; rfl
  simp only [Part.guardEnd, none]

section
variable {s : Part}

/-- With no order in the queue an action at a make is at most a route override (R116, R136). -/
theorem Part.applyAction_unordered (orders : s.planner.orders = []) (c : ChannelNo) (a : GuardAction) :
    s.applyAction c a = s ∨ ∃ r, s.applyAction c a = s.overrideMade c r := by
  unfold Part.applyAction
  split
  · exact .inr ⟨_, rfl⟩
  · rw [Part.guardEnd_unordered orders, ite_self]
    exact .inl rfl

/-- An action withdrawn at a break is at most a route override, but for a cut test (R137). -/
theorem Part.withdrawAction_cases (c : ChannelNo) (a : GuardAction) (s : Part) :
    s.withdrawAction c a = s ∨ s.withdrawAction c a = s.overrideGone c ∨
      (a = .holdLaunch ∧ s.holdLaunchMade = false ∧ s.withdrawAction c a = s.cutTest) := by
  unfold Part.withdrawAction
  split
  · exact .inr (.inl rfl)
  · split
    · rename_i both
      exact .inr (.inr ⟨both.1, both.2, rfl⟩)
    · exact .inl rfl

theorem Part.driveContact_planner (c : ChannelNo) (s : Part) :
    (s.driveContact c).planner = s.planner ∧ (s.driveContact c).port = s.port := by
  unfold Part.driveContact
  split <;> exact ⟨rfl, rfl⟩

/-- The guard unit leaves the planner, and LAUNCH_QUEUE_EMPTY, where no cut test that it brings changes anything. -/
theorem Part.evaluateGuards_rests (orders : s.planner.orders = []) (idle : s.planner.incoming = none)
    (rests : ∀ t, t.planner = s.planner → GuardPending s t [] → t.holdLaunchMade = false → t.cutTest = t)
    (e : Sample) (n : Counted) :
    (s.evaluateGuards e n).planner = s.planner ∧
      (s.evaluateGuards e n).port.alarmSet .launchQueueEmpty = s.port.alarmSet .launchQueueEmpty := by
  have kept : s.GuardKept (fun _ t => t.planner = s.planner ∧
      t.port.alarmSet .launchQueueEmpty = s.port.alarmSet .launchQueueEmpty) := by
    refine ⟨fun _ _ _ _ => id, fun _ t c h => ?_, fun _ _ _ => id, fun _ t h => ⟨h.1, ?_⟩, fun _ _ => id,
      fun _ t c h _ => ?_, fun _ t c h _ _ pending => ?_⟩
    · obtain ⟨planner, port⟩ := t.driveContact_planner c
      exact ⟨planner.trans h.1, (by rw [port]; exact h.2)⟩
    · rw [← h.2]
      simp
    · have waits : t.planner.incoming = none := by rw [h.1, idle]
      obtain is | ⟨r, is⟩ := Part.applyAction_unordered (s := t) (by rw [h.1, orders]) c (s.guardConfig c).action
      · rw [is]
        exact h
      · have port : (t.overrideMade c r).port = t.port := Part.retarget_port waits
        rw [is, (Part.overrideMade_outlet_frame c r t waits).planner, port]
        exact h
    · have waits : t.planner.incoming = none := by rw [h.1, idle]
      obtain is | is | ⟨-, free, is⟩ := t.withdrawAction_cases c (s.guardConfig c).action
      · rw [is]
        exact h
      · have port : (t.overrideGone c).port = t.port := Part.retarget_port waits
        rw [is, (Part.overrideGone_outlet_frame c t waits).planner, port]
        exact h
      · rw [is, rests t h.1 pending free]
        exact h
  exact kept.all e n ⟨rfl, rfl⟩

/-- After a cut has been decided with no HOLD_LAUNCH channel made, the guard unit can only bring the cut that waits into
effect, by a route override (R111, R116). -/
theorem Part.evaluateGuards_decided {p : Planner} {l : LaunchEntry} (orders : p.orders = []) (waits : p.incoming = some l)
    (free : s.holdLaunchMade = false) (was : s.planner = p ∨ s.planner = p.took l) (e : Sample) (n : Counted) :
    (s.evaluateGuards e n).planner = p ∨ (s.evaluateGuards e n).planner = p.took l := by
  have routed {t u : Part} (h : t.planner = p ∨ t.planner = p.took l) (route : Routed t u) :
      u.planner = p ∨ u.planner = p.took l := by
    rcases route.planner with same | ⟨l', incoming, took⟩
    · rwa [same]
    · rcases h with h | h
      · rw [h, waits, Option.some.injEq] at incoming
        exact .inr (by rw [took, h, incoming])
      · rw [h] at incoming
        cases incoming
  have kept : s.GuardKept (fun _ t => t.planner = p ∨ t.planner = p.took l) := by
    refine ⟨fun _ _ _ _ => id, fun _ t c h => ?_, fun _ _ _ => id, fun _ _ => id, fun _ _ => id, fun _ t c h _ => ?_,
      fun _ t c h made _ _ => ?_⟩
    · rwa [(t.driveContact_planner c).1]
    · have none : t.planner.orders = [] := by rcases h with h | h <;> rw [h] <;> exact orders
      obtain is | ⟨r, is⟩ := Part.applyAction_unordered none c (s.guardConfig c).action
      · rwa [is]
      · rw [is]
        exact routed h (t.overrideMade_routed c r)
    · obtain is | is | ⟨hold, -, -⟩ := t.withdrawAction_cases c (s.guardConfig c).action
      · rwa [is]
      · rw [is]
        exact routed h (t.overrideGone_routed c)
      · rw [Part.holdLaunchMade_of hold made] at free
        cases free
  exact kept.all e n was

end


/-! ## The sample event at the ORIGIN (R108 to R110) -/

/-- The current batch with a trunk increment added to its launched volume (R108). -/
def Part.grownBy (trunk : Nat) (s : Part) : Option CurrentBatch :=
  s.planner.current.map (fun c => { c with launched := min (c.launched + trunk) 4294967295 })

/-- What the cut test finds on a sample event at an ORIGIN: the launched volume has grown. -/
def Part.launchGrown (set : SampleSet) (s : Part) : Part := (s.flowRetired set).addLaunched (s.countOf set).trunk

section
variable {s : Part} (set : SampleSet) (role : s.cfg.role = .origin) (empty : s.det.window = none)
  (orders : s.planner.orders = []) (idle : s.planner.incoming = none)

include empty orders idle in
theorem Part.launchGrown_facts :
    (s.launchGrown set).planner = { s.planner with current := s.grownBy (s.countOf set).trunk } ∧
      (s.launchGrown set).port = s.port ∧ (s.launchGrown set).guard = s.guard ∧ (s.launchGrown set).image = s.image ∧
      (s.launchGrown set).det.window = none := by
  have flowed := s.flowRetired_origin set empty orders idle
  refine ⟨?_, flowed.port, flowed.guard, flowed.image, flowed.window⟩
  show ({ (s.flowRetired set).planner with
    current := (s.flowRetired set).planner.current.map (fun c =>
      { c with launched := hold32 (c.launched + (s.countOf set).trunk) }) } : Planner) = _
  rw [flowed.planner]
  rfl

include role empty orders idle

/-- After own flow a sample event at an ORIGIN is the cut test's and the guard unit's (R83, R110). -/
theorem Part.sampleEvent_origin : s.sampleEvent set =
    ((s.launchGrown set).cutTest.evaluateGuards (s.eventOf set) (s.countOf set)).followRoute := by
  obtain ⟨moved, is⟩ := s.sampleEvent_reached set
  obtain ⟨-, -, -, -, window⟩ := Part.launchGrown_facts set empty orders idle
  have cfg : (s.flowRetired set).cfg = s.cfg := by
    rw [Part.cfg, (s.flowRetired_origin set empty orders idle).image]
    rfl
  have reached : s.reached set = (s.launchGrown set).cutTest := by
    rw [Part.reached, Part.plannerShare, cfg]
    exact if_pos role
  have gone : (s.launchGrown set).cutTest.windowHead = none :=
    Part.windowHead_of_empty ((congrArg Detector.window (Part.cutTest_det _)).trans window)
  rw [is, reached, Part.detectorShare_empty gone]

/-- A sample event whose cut test leaves the planner and the port as in `t`, with nothing for the guard unit to decide. -/
theorem Part.sampleEvent_rests {p : Planner} {shown : Bool} (planner : (s.launchGrown set).cutTest.planner = p)
    (alarm : (s.launchGrown set).cutTest.port.alarmSet .launchQueueEmpty = shown) (none : p.orders = [])
    (waits : p.incoming = .none)
    (rests : ∀ t, t.planner = p → GuardPending (s.launchGrown set).cutTest t [] → t.holdLaunchMade = false →
      t.cutTest = t) :
    (s.sampleEvent set).planner = p ∧ (s.sampleEvent set).port.alarmSet .launchQueueEmpty = shown := by
  obtain ⟨still, same⟩ := Part.evaluateGuards_rests (s := (s.launchGrown set).cutTest) (by rw [planner, none])
    (by rw [planner, waits]) (by rw [planner]; exact rests) (s.eventOf set) (s.countOf set)
  have port (t : Part) : t.followRoute.port = t.port := by
    unfold Part.followRoute
    split <;> rfl
  rw [Part.sampleEvent_origin set role empty orders idle, (Part.followRoute_outlet_frame _).planner, port]
  exact ⟨still.trans planner, same.trans alarm⟩

/-- While the launched volume falls short, no launch is decided (R109). -/
theorem Part.sampleEvent_short (short : ¬∀ c, s.grownBy (s.countOf set).trunk = some c →
      ∃ v, c.nominated = some v ∧ v ≤ c.launched) :
    (s.sampleEvent set).planner = { s.planner with current := s.grownBy (s.countOf set).trunk } := by
  obtain ⟨planner, -, -, -, -⟩ := Part.launchGrown_facts set empty orders idle
  have undue (t : Part) (same : t.planner = { s.planner with current := s.grownBy (s.countOf set).trunk }) :
      t.cutTest = t := by
    refine Part.cutTest_waits (Bool.eq_false_iff.mpr fun due => short ?_)
    have := Part.volumeCondition_iff.mp due
    rwa [same] at this
  exact (Part.sampleEvent_rests set role empty orders idle (p := { s.planner with current := s.grownBy (s.countOf set).trunk })
    (by rw [undue _ planner, planner]) rfl orders idle (fun t same _ _ => undue t same)).1

/-- A launch due with none queued shows LAUNCH_QUEUE_EMPTY, once for each current batch (R110). -/
theorem Part.sampleEvent_queueEmpty (due : ∀ c, s.grownBy (s.countOf set).trunk = some c →
      ∃ v, c.nominated = some v ∧ v ≤ c.launched) (launches : s.planner.launches = []) :
    (s.sampleEvent set).planner =
        { s.planner with current := s.grownBy (s.countOf set).trunk,
                         emptyShown := s.planner.emptyShown || (s.grownBy (s.countOf set).trunk).isSome } ∧
      (s.sampleEvent set).port.alarmSet .launchQueueEmpty =
        (s.port.alarmSet .launchQueueEmpty || ((s.grownBy (s.countOf set).trunk).isSome && !s.planner.emptyShown)) := by
  obtain ⟨planner, port, -, -, -⟩ := Part.launchGrown_facts set empty orders idle
  have test (t : Part) (current : t.planner.current = s.grownBy (s.countOf set).trunk) (queue : t.planner.launches = []) :
      t.cutTest = t.showEmpty :=
    Part.cutTest_empty (Part.volumeCondition_iff.mpr (by rwa [current])) queue
  have first : (s.launchGrown set).cutTest = (s.launchGrown set).showEmpty :=
    test _ (by rw [planner]) (by rw [planner]; exact launches)
  obtain ⟨after, alarm⟩ := (s.launchGrown set).showEmpty_shows
  rw [planner] at after alarm
  rw [port] at alarm
  refine Part.sampleEvent_rests set role empty orders idle (first ▸ after) (first ▸ alarm) orders idle
    (fun t same _ _ => ?_)
  rw [test t (by rw [same]) (by rw [same]; exact launches)]
  refine Part.showEmpty_shown ?_
  rw [same]
  cases (s.grownBy (s.countOf set).trunk) <;> simp

/-- A launch due is held while a HOLD_LAUNCH channel stays latched (R110, R133). -/
theorem Part.sampleEvent_held {e : LaunchEntry} {rest : List LaunchEntry}
    (due : ∀ c, s.grownBy (s.countOf set).trunk = some c → ∃ v, c.nominated = some v ∧ v ≤ c.launched)
    (launches : s.planner.launches = e :: rest) {c : ChannelNo} (action : s.cfg.guards[c].action = .holdLaunch)
    (made : s.guard.channels[c].made = true) (latched : s.guard.channels[c].latched = true) :
    (s.sampleEvent set).planner = { s.planner with current := s.grownBy (s.countOf set).trunk } := by
  obtain ⟨planner, -, guard, image, -⟩ := Part.launchGrown_facts set empty orders idle
  have holds (t : Part) (same : t.image = s.image) (still : t.guard.channels[c].made = true) : t.holdLaunchMade = true := by
    refine Part.holdLaunchMade_of (c := c) ?_ still
    rw [Part.cfg, same]
    exact action
  have first : (s.launchGrown set).cutTest = s.launchGrown set :=
    Part.cutTest_held (Part.volumeCondition_iff.mpr (by rw [planner]; exact due)) (by rw [planner]; exact launches)
      (holds _ image (by rw [guard]; exact made))
  refine (Part.sampleEvent_rests set role empty orders idle
    (p := { s.planner with current := s.grownBy (s.countOf set).trunk }) (by rw [first, planner]) rfl orders idle
    (fun t _ pending free => ?_)).1
  rw [first] at pending
  rw [holds t (pending.image.trans image) (pending.held c (by rw [guard]; exact made) (by rw [guard]; exact latched)).1]
    at free
  cases free

/-- A launch due and not held is decided: it waits for its source, or has taken effect (R110, R111). -/
theorem Part.sampleEvent_decides {e : LaunchEntry} {rest : List LaunchEntry}
    (due : ∀ c, s.grownBy (s.countOf set).trunk = some c → ∃ v, c.nominated = some v ∧ v ≤ c.launched)
    (launches : s.planner.launches = e :: rest) (free : s.holdLaunchMade = false) :
    let decided : Planner := { s.planner with
      current := s.grownBy (s.countOf set).trunk, launches := rest, incoming := some e, planned := some (.outlet e.outlet) }
    (s.sampleEvent set).planner = decided ∨ (s.sampleEvent set).planner = decided.took e := by
  intro decided
  obtain ⟨planner, -, guard, image, -⟩ := Part.launchGrown_facts set empty orders idle
  have holds (t : Part) (same : t.image = s.image) (still : t.guard = s.guard) : t.holdLaunchMade = s.holdLaunchMade := by
    unfold Part.holdLaunchMade
    rw [Part.cfg, same, still]
    rfl
  have test : (s.launchGrown set).cutTest = (s.launchGrown set).decideCut e rest :=
    Part.cutTest_decides (Part.volumeCondition_iff.mpr (by rw [planner]; exact due)) (by rw [planner]; exact launches)
      (by rw [planner]; exact idle) ((holds _ image guard).trans free)
  have cut := (s.launchGrown set).decideCut_planner e rest
  have is : ((s.launchGrown set).decided e rest).planner = decided := by
    show ({ (s.launchGrown set).planner with launches := rest, incoming := some e, planned := some (.outlet e.outlet) } :
      Planner) = _
    rw [planner]
  rw [is, ← test] at cut
  have stage := Part.cutTest_stage (s.launchGrown set)
  rw [Part.sampleEvent_origin set role empty orders idle, (Part.followRoute_outlet_frame _).planner]
  exact Part.evaluateGuards_decided (p := decided) orders rfl ((holds _ (stage.image.trans image) (stage.guard.trans guard)).trans free)
    cut _ _

end

end Sys2Proof.Machine

open Sys2Proof.Machine

/-- Settles O31: with the window empty the detector has no share; the volume limit and the cut test come ahead of the guard
unit, which changes no order that stands and decides no cut of its own. -/
theorem sampleEventEndsOrdersAndDecidesCuts : Obligations.SampleEventEndsOrdersAndDecidesCuts := by
  refine ⟨fun s dt set samples law role empty near => ?_, fun s dt set run opened role empty orders idle => ?_⟩
  · refine ⟨_, exec_sampleEvent_open dt set samples.running samples.opened, ?_⟩
    dsimp only
    have counts := Part.countOf_elapse dt set s.part
    have tally := Part.sampleEvent_tally (s := s.part.elapse dt) set samples role empty near
    have stand := Part.sampleEvent_ordersStand (s := s.part.elapse dt) set samples role empty near
    have ended (o : Order) := Part.sampleEvent_limitEnded (s := s.part.elapse dt) set samples role empty near law (o := o)
    have flowed := Part.flowRetired_flowed (s := s.part.elapse dt) set samples.noLaunch near
    have cfg : ((s.part.elapse dt).flowRetired set).cfg = s.part.cfg := by
      rw [Part.cfg, flowed.image]
      rfl
    rw [counts] at tally stand ended
    generalize (s.part.elapse dt).sampleEvent set = t at tally stand ended
    refine ⟨fun none => ?_, fun o is => ?_⟩
    · obtain ⟨orders, planned⟩ := stand (fun o is => by rw [show s.part.fillingOrder = _ from is] at none; cases none)
        (.inl none)
      exact ⟨tally.trans (Part.tallyAfter_none (s := s.part) none _), orders, planned⟩
    · have grown := Part.tallyAfter_filling (s := s.part) is role (s.part.countOf set).delivery
      have same : (s.part.elapse dt).tallyAfter = s.part.tallyAfter := rfl
      rw [same, grown] at tally stand ended
      refine ⟨tally, fun under unused => ?_, fun limited full => ?_⟩
      · refine stand (fun f found => ?_) (.inr unused)
        rw [show s.part.fillingOrder = _ from found, Option.some.injEq] at is
        exact is ▸ under
      · have limit := ended o is limited full
        obtain ⟨x, recent, seq, stamp, body⟩ := limit.record
        rw [flowed.tally, counts, same, grown] at body
        refine ⟨⟨x, recent.mem, seq.trans flowed.seq, stamp, body⟩, ?_, ?_, fun r mem batch => ?_, fun end_ => ?_⟩
        · rw [limit.orders, flowed.planner]
          rfl
        · rw [limit.planned, cfg]
          rcases role with role | role <;> rw [role] <;> rfl
        · exact limit.links _ (Part.mem_ties mem) batch
        · exact limit.unplanned (cfg ▸ end_)
  · intro grown due
    refine ⟨_, exec_sampleEvent_open dt set run opened, ?_⟩
    dsimp only
    have counts := Part.countOf_elapse dt set s.part
    have short := Part.sampleEvent_short (s := s.part.elapse dt) set role empty orders idle
    have queueEmpty := Part.sampleEvent_queueEmpty (s := s.part.elapse dt) set role empty orders idle
    have decides (e : LaunchEntry) (rest : List LaunchEntry) :=
      Part.sampleEvent_decides (s := s.part.elapse dt) set role empty orders idle (e := e) (rest := rest)
    have held (e : LaunchEntry) (rest : List LaunchEntry) (c : ChannelNo) :=
      Part.sampleEvent_held (s := s.part.elapse dt) set role empty orders idle (e := e) (rest := rest) (c := c)
    rw [counts] at short queueEmpty
    simp only [counts] at decides held
    generalize (s.part.elapse dt).sampleEvent set = t at short queueEmpty decides held
    refine ⟨short, queueEmpty, fun e rest reached launches => ⟨fun free => ?_, fun ⟨c, action, made, latched⟩ =>
      held e rest c reached launches action made latched⟩⟩
    rcases decides e rest reached launches free with is | is <;> rw [is]
    · exact ⟨rfl, rfl, .inl ⟨rfl, rfl⟩⟩
    · exact ⟨rfl, rfl, .inr ⟨rfl, rfl⟩⟩

end

section
/-! SUPPORT. The window interface with its cut plan, followed through the detector's share of a sample event until a step of
stages or a withdrawal moves the orders (R83, R102, R103). -/

open Sys2Proof

namespace Sys2Proof.Machine

/-! ## The window interface on its plan -/

/-- `t` has the orders, the tally, the planned route and the links of `u`, and its window interface is on the batch `b`, in
the state `k` with the plan `q`; where no other head was live, none is. -/
structure Part.OnPlan (u : Part) (b : BatchNo) (q : CutPlan) (k : HeadState) (t : Part) : Prop where
  orders : t.planner.orders = u.planner.orders
  tally : t.vol.tally = u.vol.tally
  planned : t.planner.planned = u.planner.planned
  ties : t.ties = u.ties
  image : t.image = u.image
  sole : u.soleLive b → t.soleLive b
  head : ∃ x g, t.windowHead = some (x, g) ∧ x.batch = b ∧ g.plan = some q ∧ g.state = k

theorem Part.setPlan_eq (p : Option CutPlan) (s : Part) : s.setPlan p = s.modWindow (fun h => { h with plan := p }) := by
  unfold Part.setPlan Part.modWindow
  cases s.det.window <;> rfl

/-- A change of the window interface leaves the other heads. -/
theorem Part.soleLive.modWindow {b : BatchNo} {s : Part} (sole : s.soleLive b) (window : s.det.window = some b)
    (f : HeadInterface → HeadInterface) : (s.modWindow f).soleLive b := by
  intro x mem other
  rw [Part.modWindow_window f window, Part.modHead_records] at mem
  obtain ⟨y, was, rfl⟩ := List.mem_map.mp mem
  split at other
  · rename_i same
    exact absurd same other
  · rename_i away
    rw [if_neg away]
    exact sole y was away

section
variable {u t : Part} {b : BatchNo} {q : CutPlan} {k : HeadState}

theorem Part.OnPlan.window (on : u.OnPlan b q k t) : t.det.window = some b := by
  obtain ⟨x, g, found, rfl, -⟩ := on.head
  exact (Part.windowHead_eq_some.mp found).1

theorem Part.OnPlan.windowPlan (on : u.OnPlan b q k t) : t.windowPlan = some q := by
  obtain ⟨x, g, found, -, plan, -⟩ := on.head
  rw [Part.windowPlan, found]
  exact plan

theorem Part.OnPlan.setPlan_orderly (on : u.OnPlan b q k t) (law : u.orderly) (p : Option CutPlan) :
    (t.setPlan p).orderly := by
  rw [Part.orderly, (t.setPlan_stand p).orders, on.orders]
  exact law

theorem Part.OnPlan.modWindow_head (on : u.OnPlan b q k t) {x : BatchRecord} {g : HeadInterface}
    (found : t.windowHead = some (x, g)) {f : HeadInterface → HeadInterface} (plan : (f g).plan = g.plan) :
    u.OnPlan b q (f g).state (t.modWindow f) := by
  have stand : OrdersStand 0 t (t.modWindow f) := t.modWindow_stand f
  refine ⟨stand.orders.trans on.orders, stand.tally.trans on.tally, stand.planned.trans on.planned,
    stand.ties.trans on.ties, (t.modWindow_order f).image.trans on.image, fun sole => (on.sole sole).modWindow on.window f,
    _, _, Part.modWindow_windowHead f found, ?_, plan.trans ?_, rfl⟩
  · obtain ⟨y, e, is, batch, -⟩ := on.head
    rw [found] at is
    cases is
    exact batch
  · have is := on.windowPlan
    rw [Part.windowPlan, found] at is
    exact is

/-- A change of the window interface but for its plan. -/
theorem Part.OnPlan.modWindow (on : u.OnPlan b q k t) {f : HeadInterface → HeadInterface} {next : HeadState}
    (plan : ∀ h, (f h).plan = h.plan) (state : ∀ h, h.state = k → (f h).state = next) :
    u.OnPlan b q next (t.modWindow f) := by
  obtain ⟨x, g, found, -, -, at_⟩ := id on.head
  exact state g at_ ▸ on.modWindow_head found (plan g)

/-- What leaves the train, the window, the tally and the planner. -/
theorem Part.OnPlan.congr (on : u.OnPlan b q k t) {v : Part} (train : v.train = t.train)
    (window : v.det.window = t.det.window) (planner : v.planner = t.planner) (tally : v.vol.tally = t.vol.tally)
    (image : v.image = t.image) : u.OnPlan b q k v := by
  have found : v.windowHead = t.windowHead := by simp only [Part.windowHead, train, window]
  refine ⟨by rw [planner, on.orders], tally.trans on.tally, by rw [planner, on.planned], ?_, image.trans on.image,
    fun sole => ?_, by rw [found]; exact on.head⟩
  · rw [Part.ties, train]
    exact on.ties
  · rw [Part.soleLive, train]
    exact on.sole sole

theorem Part.OnPlan.modDet (on : u.OnPlan b q k t) {f : Detector → Detector} (window : (f t.det).window = t.det.window) :
    u.OnPlan b q k (t.modDet f) := on.congr rfl window rfl rfl rfl

theorem Part.OnPlan.line (on : u.OnPlan b q k t) {v : Part} (line : LineFrame t v) : u.OnPlan b q k v :=
  on.congr line.train (by rw [line.det]) line.planner (by rw [line.vol]) line.image

theorem Part.OnPlan.setChannel (on : u.OnPlan b q k t) (ch : Channel × Option RefSet) :
    u.OnPlan b q k ((t.setChannel ch).zeroCounts) :=
  ((on.modWindow (f := fun h => { h with channel := some ch.1 }) (fun _ => rfl) (fun _ at_ => at_)).modDet
    (f := fun d => { d with refs := ch.2 }) rfl).modDet rfl

theorem Part.OnPlan.markOverdue (on : u.OnPlan b q k t) (again : Bool) (h : HeadInterface) :
    u.OnPlan b q k (t.markOverdue again h) :=
  (on.modWindow (f := fun x => { x with overdue := true }) (fun _ => rfl) (fun _ at_ => at_)).line (Part.raiseIf_line _ _ _)

theorem HeadInterface.take_plan (m : Method) (stamp : StageRecord) (g : Stage) (h : HeadInterface) :
    (h.take m stamp g).plan = h.plan := by
  cases g <;> rfl

theorem Part.OnPlan.takeStage (on : u.OnPlan b q k t) (m : Method) (g : Stage) :
    u.OnPlan b q (k.after g) (t.takeStage m g) := by
  have marked : u.OnPlan b q (k.after g) (t.modWindow (fun h => h.take m (t.stageRecord m) g)) :=
    on.modWindow (fun h => h.take_plan m _ g) (fun h at_ => (h.take_lies m _ g).2.2.trans (by rw [at_]))
  unfold Part.takeStage
  cases g with
  | leading => exact marked.modDet rfl
  | midpoint => exact marked.modDet rfl
  | trailing => exact marked

theorem Part.OnPlan.takeStages (on : u.OnPlan b q k t) (m : Method) (stages : List Stage) :
    u.OnPlan b q (stages.foldl HeadState.after k) (stages.foldl (Part.takeStage m) t) := by
  induction stages generalizing t k with
  | nil => exact on
  | cons g rest ih => exact ih (on.takeStage m g)

/-! ## The planned route after a step of stages (R103) -/

/-- The cut planner takes a step's last stage: the planned route takes the segment after it. -/
theorem Part.OnPlan.planStep (on : u.OnPlan b q k t) (law : u.orderly) (last : Stage) :
    Took u.planner.orders u.vol.tally (q.after last) 0 (t.planStep last) := by
  have stand := t.setPlan_stand (some { q with frozen := true })
  have took := Part.takeSegment_took (on.setPlan_orderly law (some { q with frozen := true })) (decide (last = .trailing)) (q.after last)
  rw [stand.orders, on.orders, stand.tally, on.tally] at took
  unfold Part.planStep
  rw [on.windowPlan]
  exact took

theorem Part.OnPlan.planStep_handed (on : u.OnPlan b q k t) (law : u.orderly) (idle : t.planner.incoming = none)
    (last : Stage) :
    Took u.planner.orders u.vol.tally (q.after last) 0 (((t.planStep last).handPlanned).holdEvent) := by
  have still : (t.planStep last).planner.incoming = none := (t.planStep_plan last).incoming.trans idle
  have hand := Part.handPlanned_outlet_frame _ still
  have hold := Part.holdEvent_outlet_frame (t.planStep last).handPlanned (by rw [hand.planner]; exact still)
  exact (on.planStep law last).stand (hand.trans hold).stand (by decide)

end

end Sys2Proof.Machine
end

section
/-! SUPPORT. The orders at the completion of the last live interface (R91, R102, R103): its trailing edge gives the route to
S3, no order starts late, and none retires. -/

open Sys2Proof

namespace Sys2Proof.Machine

/-- The interface on `b` is the last live one, and what it leaves claims no late start and no end at R15: every order is
FILLING or owns the segment `g`, whose owner is the order of `b`, and links name the orders of their batches (R97, R98,
R16). -/
structure Part.closing (u : Part) (b : BatchNo) (g : Segment) : Prop where
  sole : u.soleLive b
  fills : ∀ o ∈ u.planner.orders, o.filling = true ∨ g.owns o = true
  owner : ∀ o ∈ u.planner.orders, g.owns o = true → o.batch = b
  links : ∀ p ∈ u.ties, ∀ o ∈ u.planner.orders, p.2 = some o.number → o.batch = p.1

/-- The completion in `t` of the interface of `u` with the plan `q`: S3 is in force, and the window is empty. -/
structure Part.Closed (u : Part) (q : CutPlan) (t : Part) : Prop where
  took : Took u.planner.orders u.vol.tally q.s3 0 t
  unplanned : u.cfg.role = .end_ → q.s3.owner = none → t.port.alarmSet .unplannedBatch = true
  empty : t.windowHead = none

/-! ## Segments taken: the links and the orders left -/

/-- A segment taken clears links at most. -/
theorem Part.orderly.takeSegment_tied {s : Part} (law : s.orderly) {clean : Bool} {g : Segment}
    {p : BatchNo × Option Nat} (mem : p ∈ (s.takeSegment clean g).ties) : p.2 = none ∨ p ∈ s.ties := by
  have ended := law.endFilling g.owner
  have left (o : Order) : o ∈ (s.endFilling g.owner .done).planner.orders → o ∈ s.planner.orders := by
    rw [ended.orders]
    exact List.mem_of_mem_filter
  have started := Part.startOwner_started (g := g) fun o mo e me => law.number_inj (left o mo) (left e me)
  rw [Part.takeSegment_eq, (Part.takeRoute_kept _ _ _).ties, started.ties] at mem
  by_cases all : ∀ o ∈ s.planner.orders, o.filling = true → g.owner = some o.number
  · rw [ended.links all] at mem
    exact .inr mem
  · push Not at all
    obtain ⟨f, mf, filling, other⟩ := all
    rw [(ended.ended f mf filling other).ties] at mem
    obtain ⟨x, was, rfl⟩ := List.mem_map.mp mem
    split
    · exact .inl rfl
    · exact .inr was

section
variable {u t v : Part} {b : BatchNo} {g : Segment} {tally k : Nat}

/-- An order left after a segment is taken is one of before, which owns the segment or waited. -/
theorem Took.mem_orders {before : List Order} (took : Took before tally g k t) {o : Order} (mem : o ∈ t.planner.orders) :
    ∃ e ∈ before, (e.filling = false ∨ g.owns e = true) ∧ g.starts e = o ∧ e.number = o.number ∧ e.batch = o.batch := by
  rw [took.orders] at mem
  obtain ⟨e, me, rfl⟩ := List.mem_map.mp mem
  obtain ⟨me, left⟩ := List.mem_filter.mp me
  refine ⟨e, me, by simpa using left, rfl, ?_⟩
  unfold Segment.starts
  split <;> exact ⟨rfl, rfl⟩

/-- Where the last interface closes, an order left is FILLING, and the order of its batch. -/
theorem Part.closing.left (closing : u.closing b g) (took : Took u.planner.orders tally g k t) {o : Order}
    (mem : o ∈ t.planner.orders) :
    o.filling = true ∧ o.batch = b ∧ ∃ e ∈ u.planner.orders, e.number = o.number ∧ e.batch = o.batch := by
  obtain ⟨e, me, left, is, number, batch⟩ := took.mem_orders mem
  have owns : g.owns e = true := left.elim (fun waits => (closing.fills e me).resolve_left (by simp [waits])) id
  refine ⟨?_, batch ▸ closing.owner e me owns, e, me, number, batch⟩
  rw [← is, Segment.starts, if_pos owns]

/-- What leaves the orders, the tally, the planned route and the records, and of the links only takes. -/
theorem Took.shrink {before : List Order} (h : Took before tally g k t) (planner : v.planner = t.planner)
    (vol : v.vol = t.vol) (port : v.port = t.port) (ties : ∀ p ∈ v.ties, p ∈ t.ties) : Took before tally g k v := by
  refine ⟨by rw [planner, h.planned], by rw [planner, h.orders], by rw [vol, h.tally], fun o mem filling other => ?_,
    fun o mem filling other p tied => h.links o mem filling other p (ties p tied)⟩
  obtain ⟨x, recent, stamp, body⟩ := h.record o mem filling other
  exact ⟨x, recent.congr (by rw [port]), stamp.trans (by rw [vol]), body⟩

end

/-! ## Nothing starts late, and no order retires -/

theorem Part.lateStartFor_filling {s : Part} {b : BatchNo} (filling : ∀ o ∈ s.planner.orders, o.filling = true) :
    s.lateStartFor b = s := by
  unfold Part.lateStartFor
  split
  · rename_i o found
    exact if_pos (filling o (List.mem_of_find?_eq_some found))
  · rfl

theorem foldl_endRetired_kept {s : Part} {gone : List BatchRecord}
    (kept : ∀ r ∈ gone, ∀ o ∈ s.planner.orders, r.orderLink ≠ some o.number) : gone.foldl Part.endRetired s = s := by
  induction gone with
  | nil => rfl
  | cons r rest ih =>
    have first : s.endRetired r = s := by
      unfold Part.endRetired
      split
      · rename_i o found
        obtain ⟨n, link, numbered⟩ := Option.bind_eq_some_iff.mp found
        have number : o.number = n := by simpa using List.find?_some numbered
        exact absurd (link.trans (by rw [number])) (kept r (List.mem_cons_self ..) o (List.mem_of_find?_eq_some numbered))
      · rfl
    rw [List.foldl_cons, first]
    exact ih fun x mem => kept x (List.mem_cons_of_mem r mem)

/-- Retirement that ends no order is the train store's alone (R15, R16). -/
theorem Part.retire_kept {s : Part}
    (kept : ∀ r ∈ s.train.records, r.status = .departed → ∀ o ∈ s.planner.orders, r.orderLink ≠ some o.number) :
    s.retire = s.retiredTrain := by
  rw [Part.retire_eq]
  refine foldl_endRetired_kept fun r mem => ?_
  have whole := splitRetired_append s.keepBehind s.train.records
  exact kept r (whole ▸ List.mem_append_left _ mem) (departed_of_mem_splitRetired mem)

theorem Part.retiredTrain_ties {s : Part} {p : BatchNo × Option Nat} (mem : p ∈ s.retiredTrain.ties) : p ∈ s.ties := by
  obtain ⟨r, mr, rfl⟩ := List.mem_map.mp mem
  have whole := splitRetired_append s.keepBehind s.train.records
  exact Part.mem_ties (whole ▸ List.mem_append_right _ mr)

theorem makePresent_ties (b : BatchNo) (recs : List BatchRecord) :
    (makePresent b recs).map BatchRecord.tie = recs.map BatchRecord.tie := by
  induction recs using makePresent.induct b with
  | case1 => rfl
  | case2 r same => simp [makePresent, same, BatchRecord.tie]
  | case3 r other => simp [makePresent, other]
  | case4 r n rest same => simp [makePresent, same, BatchRecord.tie]
  | case5 r n rest other next ih => simpa [makePresent, other, next, BatchRecord.tie] using ih
  | case6 r n rest other next ih => simpa [makePresent, other, next, BatchRecord.tie] using ih

/-! ## The completion (R91) -/

theorem Part.takeSegment_unplanned {s : Part} {g : Segment} (unowned : g.owner = none) (role : s.cfg.role = .end_) :
    (s.takeSegment true g).port.alarmSet .unplannedBatch = true := by
  have nobody : (s.endFilling g.owner .done).startOwner g = s.endFilling g.owner .done := by
    simp [Part.startOwner, unowned]
  rw [Part.takeSegment_eq, nobody]
  refine Part.takeRoute_unplanned unowned ?_
  rw [Part.cfg, (s.endFilling_plan _ _).image]
  exact role

section
variable {u m : Part} {b : BatchNo} {q : CutPlan} {k : HeadState}

theorem Part.OnPlan.planStep_unplanned (on : u.OnPlan b q k m) (role : u.cfg.role = .end_) (unowned : q.s3.owner = none) :
    (m.planStep .trailing).port.alarmSet .unplannedBatch = true := by
  have same : (m.setPlan (some { q with frozen := true })).cfg.role = .end_ := by
    rw [Part.cfg, (m.setPlan_plan _).image, on.image]
    exact role
  unfold Part.planStep
  rw [on.windowPlan]
  exact Part.takeSegment_unplanned unowned same

theorem Part.OnPlan.planStep_tied (on : u.OnPlan b q k m) (law : u.orderly) (last : Stage) {p : BatchNo × Option Nat}
    (mem : p ∈ (m.planStep last).ties) : p.2 = none ∨ p ∈ u.ties := by
  have stand := m.setPlan_stand (some { q with frozen := true })
  unfold Part.planStep at mem
  rw [on.windowPlan] at mem
  rw [← on.ties, ← stand.ties]
  exact (on.setPlan_orderly law _).takeSegment_tied mem

theorem Part.OnPlan.reportPassage (on : u.OnPlan b q k m) : u.OnPlan b q k m.reportPassage := by
  unfold Part.reportPassage
  split
  · simp only
    split
    · exact on.congr rfl rfl rfl rfl rfl
    · exact (on.congr (v := m.writeRecord _) rfl rfl rfl rfl rfl).line (Part.enqueue_line _ _)
  · exact on

/-- The last live interface leaves no live head when it is CLEARED (R91). -/
theorem Part.OnPlan.cleared_none (on : u.OnPlan b q k m) (law : m.lawful) (sole : u.soleLive b) (degraded : Bool) :
    liveHeads (m.modWindow (HeadInterface.clear degraded)).train.records = [] := by
  obtain ⟨r, h, found, rfl, -⟩ := on.head
  refine liveHeads_eq_nil fun x mem => ?_
  by_cases same : x.batch = r.batch
  · have spent := Part.modWindow_clear_spent law.ordered found degraded x mem same
    cases head : x.head with
    | none => simp [BatchRecord.headLive, head]
    | some g => simp [BatchRecord.headLive, head, (spent g head).1]
  · exact (on.sole sole).modWindow on.window _ x mem same

/-- The completion of the last live interface up to R15's test: S3 is in force, and no record that may retire is linked to
an order. -/
theorem Part.OnPlan.completed (on : u.OnPlan b q k m) (law : m.lawful) (orderly : u.orderly) (closing : u.closing b q.s3)
    {r : BatchRecord} {h : HeadInterface} (found : m.windowHead = some (r, h)) :
    (m.completed r h).retire = (m.completed r h).retiredTrain ∧
      Took u.planner.orders u.vol.tally q.s3 0 (m.completed r h) ∧
      (u.cfg.role = .end_ → q.s3.owner = none → (m.completed r h).port.alarmSet .unplannedBatch = true) := by
  have batch : r.batch = b := by
    have := (Part.windowHead_eq_some.mp found).1.symm.trans on.window
    exact Option.some.inj this
  set cleared := m.modWindow (HeadInterface.clear (m.degraded h)) with isC
  set stepped := cleared.reportPassage.planStep .trailing with isS
  set present := (stepped.setPlan none).mapTrain (makePresent r.batch) with isP
  have onC : u.OnPlan b q .cleared cleared.reportPassage :=
    (on.modWindow (f := HeadInterface.clear (m.degraded h)) (fun _ => rfl) (fun _ _ => rfl)).reportPassage
  have order := ((Part.modWindow_clear_passed (batch ▸ on.window) (m.degraded h)).trans
    (((Part.reportPassage_live _).trans (Part.planStep_plan .trailing _).live).trans
      (Part.setPlan_plan none _).live).toTrainFrame).makePresent
  have inTrain : present.ordered := order.ordered law.ordered
  have ties : present.ties = stepped.ties :=
    (makePresent_ties r.batch _).trans (stepped.setPlan_stand none).ties
  have took : Took u.planner.orders u.vol.tally q.s3 0 present :=
    ((onC.planStep orderly .trailing).stand (stepped.setPlan_stand none) (by decide)).shrink rfl rfl rfl
      (fun p mem => by rwa [(stepped.setPlan_stand none).ties, ← ties])
  have late : present.lateStartFor r.batch = present :=
    Part.lateStartFor_filling fun o mem => (closing.left took mem).1
  have whole : m.completed r h = present := late
  rw [whole]
  refine ⟨Part.retire_kept fun x mem departed o mo link => ?_, took, fun role unowned =>
    (stepped.setPlan_stand none).alarms _ (onC.planStep_unplanned role unowned)⟩
  obtain ⟨-, ofB, e, me, number, same⟩ := closing.left took mo
  have tied : (x.batch, x.orderLink) ∈ u.ties := by
    refine (onC.planStep_tied orderly .trailing (p := (x.batch, x.orderLink)) (ties ▸ Part.mem_ties mem)).resolve_left ?_
    rw [link]
    nofun
  have here : x.batch = r.batch := ((closing.links _ tied e me (link.trans (by rw [number]))).symm.trans same).trans
    (ofB.trans batch.symm)
  have is := findBatch_of_mem (inOrder.nodup inTrain) mem
  rw [here] at is
  have now : findBatch r.batch present.train.records =
      (findBatch r.batch (stepped.setPlan none).train.records).map (fun r => { r with status := .present }) :=
    findBatch_makePresent r.batch _
  rw [is] at now
  obtain ⟨y, -, rfl⟩ := Option.map_eq_some_iff.mp now.symm
  cases departed

/-- No head is live after the completion of the last, ahead of the window entry. -/
theorem Part.OnPlan.settled_none (on : u.OnPlan b q k m) (law : m.lawful) (sole : u.soleLive b) (r : BatchRecord)
    (h : HeadInterface) : liveHeads (m.settledAfter r h).train.records = [] := by
  have none := on.cleared_none law sole (m.degraded h)
  have shown := (((Part.reportPassage_live (m.modWindow (HeadInterface.clear (m.degraded h)))).trans
    (Part.planStep_plan .trailing _).live).trans (Part.setPlan_plan .none _).live).live (by rw [none]; nofun)
  rw [none] at shown
  have present := makePresent_live (b := r.batch) (by rw [shown]; nofun)
  rw [shown] at present
  have settled := ((((Part.lateStartFor_plan r.batch (((m.modWindow (HeadInterface.clear (m.degraded h))).reportPassage.planStep
    .trailing).setPlan .none |>.mapTrain (makePresent r.batch))).live.trans (Part.retire_live _)).trans
    (Part.modDet_live (fun d => { d with midStamp := .none, mix := [] }) _)).trans
    ((Part.handPlanned_routed _).trans (Part.holdEvent_routed _)).live).live (by
      show ∀ k ∈ liveHeads (makePresent r.batch _), _
      rw [present]
      nofun)
  exact settled.trans present

/-- The completion of the last live interface (R91): its S3 is in force, and the window is empty. -/
theorem Part.OnPlan.complete (on : u.OnPlan b q k m) (law : m.lawful) (orderly : u.orderly) (closing : u.closing b q.s3) :
    u.Closed q m.complete := by
  obtain ⟨r, h, found, -⟩ := id on.head
  obtain ⟨retires, took, unplanned⟩ := on.completed law orderly closing found
  have quiet : QuietFrame (m.modWindow (HeadInterface.clear (m.degraded h))) (m.completed r h).retire :=
    (((((Part.reportPassage_quiet _).trans (Part.planStep_quiet .trailing _)).trans (Part.setPlan_quiet none _)).trans
      (Part.makePresent_quiet r.batch _)).trans (Part.lateStartFor_quiet r.batch _)).trans (Part.retire_quiet _)
  have idle : (m.completed r h).retire.planner.incoming = none := quiet.idle (by rw [Part.modWindow_planner]; exact law.idle)
  have next : (m.settledAfter r h).nextWindow = (m.settledAfter r h).modDet (fun _ => Detector.afterReset) := by
    have none : oldestLive (m.settledAfter r h).train.records = none := by
      rw [oldestLive_eq, on.settled_none law closing.sole]
      rfl
    simp only [Part.nextWindow, none]
  have hand := Part.handPlanned_outlet_frame ((m.completed r h).retire.modDet (fun d => { d with midStamp := none, mix := [] }))
    idle
  have hold := Part.holdEvent_outlet_frame ((m.completed r h).retire.modDet
    (fun d => { d with midStamp := none, mix := [] })).handPlanned (by rw [hand.planner]; exact idle)
  have stand : OrdersStand 0 (m.completed r h).retiredTrain m.complete := by
    rw [Part.complete_settled found, next, ← retires]
    exact ((Part.modDet_stand _ _).trans (hand.trans hold).stand).trans (Part.modDet_stand _ _)
  have left : Took u.planner.orders u.vol.tally q.s3 0 (m.completed r h).retiredTrain :=
    took.shrink rfl rfl rfl (fun p => Part.retiredTrain_ties)
  refine ⟨left.stand stand (by decide), fun role unowned =>
    stand.alarms _ (unplanned role unowned), ?_⟩
  rw [Part.complete_settled found, next]
  rfl

end

end Sys2Proof.Machine
end

section
/-! SUPPORT. What a sample event's share of the detector does to the orders: nothing, one step of stages, a withdrawal, or
the completion of the interface (R77, R80, R83, R84, R86). -/

open Sys2Proof

namespace Sys2Proof.Machine

/-- One step of stages without a trailing edge has been taken of the interface that was in the state `k`: the segment that
follows its last stage is in force (R103). -/
def Part.Staged (u : Part) (b : BatchNo) (q : CutPlan) (k : HeadState) (w : Part) : Prop :=
  ∃ x g, w.windowHead = some (x, g) ∧ x.batch = b ∧
    ((k.waits ∧ g.state = .inMix ∧ Took u.planner.orders u.vol.tally q.s1 0 w) ∨
      (k ≠ .pastMid ∧ g.state = .pastMid ∧ Took u.planner.orders u.vol.tally q.s2 0 w))

/-- The interface has been completed, and its S3 is in force where it was the last live one. -/
def Part.PassedBy (u : Part) (b : BatchNo) (q : CutPlan) (w : Part) : Prop :=
  (∃ c, w.gone b c) ∧ (u.closing b q.s3 → u.Closed q w)

/-- What an evaluation leaves of the interface on its plan. -/
def Part.Followed (u : Part) (b : BatchNo) (q : CutPlan) (k : HeadState) (w : Part) : Prop :=
  u.OnPlan b q k w ∨ u.Staged b q k w ∨ u.PassedBy b q w

/-- The interface has been withdrawn from its mix: the plan is computed anew, and its S0 in force (R80, R103). -/
structure Part.Withdrawn (u : Part) (b : BatchNo) (w : Part) : Prop where
  orders : w.planner.orders = u.planner.orders
  tally : w.vol.tally = u.vol.tally
  head : ∃ x g, w.windowHead = some (x, g) ∧ x.batch = b ∧ g.state.waits ∧ g.plan = some (w.freshPlan b)
  planned : w.planner.planned = some (w.freshPlan b).s0.route
  unplanned : u.cfg.role = .end_ → u.fillingOrder = none → w.port.alarmSet .unplannedBatch = true

/-! ## Steps of stages -/

/-- The steps that are due without a trailing edge, by their last stage (R83). -/
theorem HeadState.due_cases (k : HeadState) (lead mid trail : Bool) :
    ¬ (k.due lead mid trail).contains .trailing = true →
      k.due lead mid trail = [] ∨
      ((k.due lead mid trail).getLast? = some .leading ∧ (k = .distant ∨ k = .armed) ∧
        (k.due lead mid trail).foldl HeadState.after k = .inMix) ∨
      ((k.due lead mid trail).getLast? = some .midpoint ∧ k ≠ .pastMid ∧
        (k.due lead mid trail).foldl HeadState.after k = .pastMid) := by
  revert lead mid trail
  cases k <;> decide

theorem Part.takeStages_nil (m : Method) (s : Part) : s.takeStages m [] = s := rfl

theorem Part.evaluateWith_empty {s : Part} (empty : s.windowHead = none) (fuel : Nat) (waited : Bool) :
    s.evaluateWith fuel waited = s := by
  cases fuel with
  | zero => rfl
  | succ n => simp only [Part.evaluateWith, empty]

section
variable {u s : Part} {b : BatchNo} {q : CutPlan} {k : HeadState}

theorem Part.PassedBy.evaluateWith (passed : u.PassedBy b q s) (idle : s.planner.incoming = none) (fuel : Nat)
    (waited : Bool) : u.PassedBy b q (s.evaluateWith fuel waited) := by
  obtain ⟨⟨c, gone⟩, closed⟩ := passed
  refine ⟨⟨c, (s.evaluateWith_passing fuel waited idle).gone b c gone⟩, fun closing => ?_⟩
  rw [Part.evaluateWith_empty (closed closing).empty]
  exact closed closing

section
variable (on : u.OnPlan b q k s) (law : s.lawful) (orderly : u.orderly)
include on law orderly

/-- A step with a trailing edge completes the interface (R83, R91). -/
theorem Part.OnPlan.takeStages_passed (m : Method) {stages : List Stage} (last : stages.getLast? = some .trailing) :
    u.PassedBy b q (s.takeStages m stages) := by
  obtain ⟨r, h, found, rfl, -⟩ := id on.head
  refine ⟨⟨_, Part.takeStages_gone law found m last⟩, fun closing => ?_⟩
  have closed := (on.takeStages m stages).complete (law.stagesTaken m stages) orderly closing
  simpa only [Part.takeStages, last] using closed

/-- A step without one leaves the interface as it was, or takes a stage of it (R83, R103). -/
theorem Part.OnPlan.takeStages_followed (m : Method) (lead mid trail : Bool) {stages : List Stage}
    (is : stages = k.due lead mid trail) (due : ¬ stages.contains .trailing = true) :
    u.OnPlan b q k (s.takeStages m stages) ∨ u.Staged b q k (s.takeStages m stages) := by
  obtain ⟨r, h, found, batch, -, state⟩ := id on.head
  have handed (g : Stage) := (on.takeStages m stages).planStep_handed orderly (law.stagesTaken m stages).idle g
  obtain ⟨x, e, after, same, -, -, -, at_, -⟩ := Part.takeStages_stays law found m (not_trailing_last due)
  rw [state] at at_
  subst is
  obtain none | ⟨last, waits, now⟩ | ⟨last, early, now⟩ := k.due_cases lead mid trail due
  · rw [none, Part.takeStages_nil]
    exact .inl on
  · refine .inr ⟨x, e, after, same.trans batch, .inl ⟨waits, at_.trans now, ?_⟩⟩
    simpa only [Part.takeStages, last, CutPlan.after] using handed .leading
  · refine .inr ⟨x, e, after, same.trans batch, .inr ⟨early, at_.trans now, ?_⟩⟩
    simpa only [Part.takeStages, last, CutPlan.after] using handed .midpoint

/-! ## An evaluation (R84, R86) -/

theorem Part.OnPlan.evaluateWith (fuel : Nat) (waited : Bool) : u.Followed b q k (s.evaluateWith (fuel + 1) waited) := by
  obtain ⟨r, h, found, batch, -, state⟩ := id on.head
  unfold Part.evaluateWith
  simp only [found]
  split
  · split
    · split
      · exact .inl (on.markOverdue _ _)
      · exact .inl on
    · have is := h.volumeDue_eq
      rw [state] at is
      split
      · rename_i due
        have last : h.volumeDue.getLast? = some .trailing := by
          rw [is] at due ⊢
          exact HeadState.due_trailing _ _ _ _ due
        exact .inr (.inr ((on.takeStages_passed law orderly .volume last).evaluateWith (law.takeStages _ _).idle _ _))
      · rename_i due
        exact (on.takeStages_followed law orderly .volume _ _ _ is due).imp id .inl
  · split
    · have marked := on.markOverdue (waited && !s.degraded h) h
      have overdue := law.next (s.markOverdue_live (waited && !s.degraded h) h).law
        (s.markOverdue_passing (waited && !s.degraded h) h).incoming
      split
      · exact .inl marked
      · exact .inr (.inr ((marked.takeStages_passed overdue orderly .late rfl).evaluateWith
          (overdue.takeStages _ _).idle _ _))
    · exact .inl on

theorem Part.OnPlan.evaluate : u.Followed b q k s.evaluate := on.evaluateWith law orderly _ _

end

/-- The window interface goes by volume and has nothing left to do. -/
def Part.restsByVolume (w : Part) : Prop :=
  ∀ x g, w.windowHead = some (x, g) → g.channel = some .volume ∧ w.rests g g.state

/-- Only the volume method takes a stage in an evaluation that does not complete the interface, and takes all that are due
(R84, R86). -/
theorem Part.OnPlan.evaluate_rests (on : u.OnPlan b q k s) (law : s.lawful) (staged : u.Staged b q k s.evaluate) :
    s.evaluate.restsByVolume := by
  obtain ⟨r, h, found, rfl, -, state⟩ := on.head
  obtain ⟨x, g, after, batch, moved⟩ := staged
  obtain ⟨window, -⟩ := Part.windowHead_eq_some.mp after
  have other : g.state ≠ k := by
    rcases moved with ⟨waits, now, -⟩ | ⟨early, now, -⟩
    · rw [now]
      rcases waits with is | is <;> rw [is] <;> nofun
    · rw [now]
      exact Ne.symm early
  rcases Part.evaluate_carries law found with ⟨passed, -⟩ | ⟨y, e, is, -, -, place, channel, -, analyser, rests⟩
  · rw [batch] at window
    exact absurd window passed
  · intro z f here
    rw [is] at after here
    cases after
    cases here
    have stage := s.evaluate_stage
    refine ⟨channel.trans (by_contra fun not => other ((analyser not).trans state)), ?_⟩
    exact (Part.rests_congr place channel stage.image stage.table).mpr rests

/-- An evaluation of an interface that rests by volume marks it overdue at most. -/
theorem Part.restsByVolume.evaluate (rests : s.restsByVolume) : s.evaluate = s ∨ ∃ h, s.evaluate = s.markOverdue false h := by
  unfold Part.evaluate Part.evaluateWith
  cases found : s.windowHead with
  | none => exact .inl rfl
  | some w =>
    obtain ⟨x, g⟩ := w
    obtain ⟨channel, idle⟩ := rests x g found
    simp only [channel]
    split
    · split
      · exact .inr ⟨g, rfl⟩
      · exact .inl rfl
    · rename_i free
      have none := idle (by simpa using free)
      rw [if_pos channel] at none
      have due : g.volumeDue = [] := none
      rw [due]
      exact .inl rfl

/-- The window interface is on the VOLUME channel. -/
def Part.byVolume (w : Part) : Prop := ∀ x g, w.windowHead = some (x, g) → g.channel = some .volume

theorem Part.Staged.markOverdue (staged : u.Staged b q k s) (h : HeadInterface) : u.Staged b q k (s.markOverdue false h) := by
  obtain ⟨x, g, found, batch, moved⟩ := staged
  have stand : OrdersStand 0 s (s.markOverdue false h) := (s.modWindow_stand _).trans (Part.raiseIf_stand _ _ _)
  refine ⟨_, _, Part.markOverdue_windowHead false h found, batch, moved.imp ?_ ?_⟩
  · exact fun ⟨waits, now, took⟩ => ⟨waits, now, took.stand stand (by decide)⟩
  · exact fun ⟨early, now, took⟩ => ⟨early, now, took.stand stand (by decide)⟩

theorem Part.Staged.evaluate (staged : u.Staged b q k s) (rests : s.restsByVolume) :
    u.Staged b q k s.evaluate ∧ s.evaluate.byVolume := by
  obtain is | ⟨h, is⟩ := rests.evaluate
  · rw [is]
    exact ⟨staged, fun x g found => (rests x g found).1⟩
  · rw [is]
    refine ⟨staged.markOverdue h, fun x g found => ?_⟩
    obtain ⟨y, e, was, -⟩ := staged
    rw [Part.markOverdue_windowHead false h was] at found
    cases found
    exact (rests y e was).1

end

/-! ## The report of readiness and the hand-off (R77, R83) -/

section
variable {u s : Part} {b : BatchNo} {q : CutPlan} {k : HeadState}

theorem Part.PassedBy.window (passed : u.PassedBy b q s) : s.det.window ≠ some b := by
  obtain ⟨⟨c, gone, -⟩, -⟩ := passed
  exact gone

theorem Part.Staged.window (staged : u.Staged b q k s) : s.det.window = some b := by
  obtain ⟨x, g, found, rfl, -⟩ := staged
  exact (Part.windowHead_eq_some.mp found).1

section
variable (on : u.OnPlan b q k s) (law : s.lawful) (orderly : u.orderly)
include on law orderly

/-- A report of readiness leaves the interface on its plan, or has evaluated it on its new channel. -/
theorem Part.OnPlan.reported (readiness : Bool) :
    u.OnPlan b q k (if readiness then s.readinessReport else s) ∨
      (u.Staged b q k (if readiness then s.readinessReport else s) ∧
        (if readiness then s.readinessReport else s).restsByVolume) ∨
      u.PassedBy b q (if readiness then s.readinessReport else s) := by
  obtain ⟨r, h, found, -⟩ := id on.head
  cases readiness with
  | false => exact .inl on
  | true =>
    rw [if_pos rfl, Part.readinessReport_eq found]
    cases s.newChannel r h with
    | none => exact .inl on
    | some ch =>
      have set := law.setChannel ch
      have still := on.setChannel ch
      obtain stays | staged | passed := still.evaluate set orderly
      · exact .inl stays
      · exact .inr (.inl ⟨staged, still.evaluate_rests set staged⟩)
      · exact .inr (.inr passed)

/-- Ahead of the readings at most one step of stages has been taken, and then by volume. -/
theorem Part.OnPlan.handedOver (readiness moved : Bool) :
    u.OnPlan b q k (s.handedOver readiness moved) ∨
      (u.Staged b q k (s.handedOver readiness moved) ∧ (s.handedOver readiness moved).byVolume) ∨
      u.PassedBy b q (s.handedOver readiness moved) := by
  have window := on.window
  have reported := on.reported law orderly readiness
  have after := law.reported readiness
  unfold Part.handedOver
  simp only
  generalize (if readiness then s.readinessReport else s) = t at *
  obtain stays | ⟨staged, rests⟩ | passed := reported
  · split
    · obtain next | staged | passed := stays.evaluate after orderly
      · exact .inl next
      · exact .inr (.inl ⟨staged, fun x g found => (stays.evaluate_rests after staged x g found).1⟩)
      · exact .inr (.inr passed)
    · exact .inl stays
  · split
    · exact .inr (.inl (staged.evaluate rests))
    · exact .inr (.inl ⟨staged, fun x g found => (rests x g found).1⟩)
  · have left : ¬(moved && decide (t.det.window = s.det.window)) = true := by
      simp [window, passed.window]
    rw [if_neg left]
    exact .inr (.inr passed)

end

/-! ## A withdrawal (R80, R103) -/

theorem aheadOf_congr {b : BatchNo} {recs other : List BatchRecord}
    (same : recs.map BatchRecord.batch = other.map BatchRecord.batch) : aheadOf b recs = aheadOf b other := by
  induction recs generalizing other with
  | nil =>
    obtain rfl := List.map_eq_nil_iff.mp same.symm
    rfl
  | cons r rest ih =>
    obtain ⟨x, more, rfl, first, later⟩ := List.map_eq_cons_iff.mp same.symm
    cases rest with
    | nil =>
      obtain rfl := List.map_eq_nil_iff.mp later
      rfl
    | cons n rest =>
      have step := ih later.symm
      obtain ⟨y, more, rfl, next, -⟩ := List.map_eq_cons_iff.mp later
      simp only [aheadOf, first, next, step]

/-- A plan computed anew goes by the batches of the train, the orders and the role (R101). -/
theorem Part.freshPlan_congr {s t : Part} (batches : t.batches = s.batches) (orders : t.planner.orders = s.planner.orders)
    (image : t.image = s.image) (b : BatchNo) : t.freshPlan b = s.freshPlan b := by
  have role : t.cfg.role = s.cfg.role := by
    rw [Part.cfg, image]
    rfl
  unfold Part.freshPlan
  rw [aheadOf_congr batches, orders, role, Part.fillingOrder, orders]
  rfl

theorem Part.freshPlan_unfilled {s : Part} (none : s.fillingOrder = none) (b : BatchNo) : (s.freshPlan b).s0.owner = .none := by
  simp [Part.freshPlan, planFrom, none, defaultSegment]

theorem Part.OnPlan.withdrawn (on : u.OnPlan b q k s) : ∃ j : HeadState, j.waits ∧ u.OnPlan b q j s.withdrawn := by
  obtain ⟨x, g, found, -⟩ := id on.head
  have back := on.modWindow_head found
    (f := fun h => { h with leadRec := none, early := false, state := armedState s.cfg h }) rfl
  have zeroed : u.OnPlan b q _ ((s.modWindow (fun h =>
    { h with leadRec := none, early := false, state := armedState s.cfg h })).zeroCounts) := back.modDet rfl
  exact ⟨_, armedState_waits s.cfg g, zeroed.modDet rfl⟩

/-- A plan computed anew for an interface that waits, its S0 in force (R101, R103). -/
theorem Part.OnPlan.planWithdrawal (on : u.OnPlan b q k s) (waits : k.waits) : u.Withdrawn b s.planWithdrawal := by
  obtain ⟨x, g, found, batch, plan, state⟩ := id on.head
  have is : s.planWithdrawal = (s.setPlan (some (s.freshPlan b))).takeRoute true (s.freshPlan b).s0 := by
    simp only [Part.planWithdrawal, on.window, on.windowPlan]
  have set := s.setPlan_stand (some (s.freshPlan b))
  have taken := (s.setPlan (some (s.freshPlan b))).takeRoute_kept true (s.freshPlan b).s0
  have frame := (s.setPlan_plan (some (s.freshPlan b))).trans (Part.takeRoute_plan true (s.freshPlan b).s0 _)
  have same : s.planWithdrawal.freshPlan b = s.freshPlan b := by
    rw [is]
    exact Part.freshPlan_congr frame.batches (taken.orders.trans set.orders) frame.image b
  have head : (s.setPlan (some (s.freshPlan b))).windowHead =
      some ({ x with head := some { g with plan := some (s.freshPlan b) } }, { g with plan := some (s.freshPlan b) }) := by
    rw [Part.setPlan_eq]
    exact Part.modWindow_windowHead _ found
  have shown : s.planWithdrawal.windowHead = (s.setPlan (some (s.freshPlan b))).windowHead := by
    have line := Part.raiseIf_line (true && (s.freshPlan b).s0.owner.isNone &&
      decide ((s.setPlan (some (s.freshPlan b))).cfg.role = .end_)) .unplannedBatch
      ((s.setPlan (some (s.freshPlan b))).setPlanned (s.freshPlan b).s0.route)
    rw [is]
    exact Part.windowHead_congr line.train line.det
  refine ⟨?_, ?_, ⟨_, _, shown.trans head, batch, ?_, by rw [same]⟩, ?_, fun role none => ?_⟩
  · rw [is, taken.orders, set.orders, on.orders]
  · rw [is, taken.tally, set.tally, on.tally]
  · show g.state.waits
    rw [state]
    exact waits
  · rw [same, is]
    exact Part.takeRoute_planned _ _ _
  · rw [is]
    refine Part.takeRoute_unplanned (Part.freshPlan_unfilled ?_ b) ?_
    · rw [Part.fillingOrder, on.orders]
      exact none
    · rw [Part.cfg, (s.setPlan_plan _).image, on.image]
      exact role

theorem Part.Withdrawn.outlet (withdrawn : u.Withdrawn b s) {t : Part} (frame : OutletFrame s t) : u.Withdrawn b t := by
  obtain ⟨orders, tally, ⟨x, g, found, batch, waits, plan⟩, planned, unplanned⟩ := withdrawn
  have same : t.freshPlan b = s.freshPlan b :=
    Part.freshPlan_congr (by rw [Part.batches, frame.train]; rfl) (by rw [frame.planner]) frame.image b
  refine ⟨by rw [frame.planner, orders], by rw [frame.vol, tally],
    ⟨x, g, (Part.windowHead_congr frame.train frame.det).trans found, batch, waits, by rw [same, plan]⟩,
    by rw [frame.planner, same, planned], fun role none => frame.alarms _ (unplanned role none)⟩

theorem Part.OnPlan.withdraw (on : u.OnPlan b q k s) (law : s.lawful) : u.Withdrawn b s.withdraw := by
  obtain ⟨j, waits, back⟩ := on.withdrawn
  have idle : s.withdrawn.planWithdrawal.planner.incoming = none :=
    (Part.planWithdrawal_plan _).incoming.trans law.withdrawn.idle
  have hand := Part.handPlanned_outlet_frame _ idle
  have hold := Part.holdEvent_outlet_frame s.withdrawn.planWithdrawal.handPlanned (by rw [hand.planner]; exact idle)
  exact ((back.planWithdrawal waits).outlet hand).outlet hold

/-! ## The readings, and the whole share (R78 to R83) -/

/-- What a sample event's share of the detector leaves of the interface on its plan. -/
def Part.Shared (u : Part) (b : BatchNo) (q : CutPlan) (k : HeadState) (w : Part) : Prop :=
  u.Followed b q k w ∨ (k = .inMix ∧ u.Withdrawn b w)

/-- A value taken of the interface on its plan: counts, a withdrawal from its mix, or the stages due (R78 to R83). -/
theorem Part.OnPlan.readingTaken (on : u.OnPlan b q k s) (law : s.lawful) (orderly : u.orderly) {h : HeadInterface}
    (state : h.state = k) (f : RefSet) (v : Int) : u.Shared b q k (s.readingTaken h f v) := by
  subst state
  have counted : u.OnPlan b q h.state (s.modDet (Detector.count s.cfg h.state f v)) := on.modDet rfl
  have still := law.counted h.state f v
  unfold Part.readingTaken
  simp only
  split
  · rename_i back
    exact .inr ⟨back.1, counted.withdraw still⟩
  · have is := Detector.analyserDue_eq s.cfg.makeCount h.state (Detector.count s.cfg h.state f v s.det)
    split
    · rename_i due
      have last : ((s.modDet (Detector.count s.cfg h.state f v)).det.analyserDue s.cfg.makeCount h.state).getLast? =
          some .trailing := by
        rw [Detector.analyserDue_eq] at due ⊢
        exact HeadState.due_trailing _ _ _ _ due
      exact .inl (.inr (.inr ((counted.takeStages_passed still orderly .analyser last).evaluateWith
        (still.takeStages _ _).idle _ _)))
    · rename_i due
      exact .inl ((counted.takeStages_followed still orderly .analyser _ _ _ is due).imp id .inl)

theorem Part.OnPlan.takeReadings (on : u.OnPlan b q k s) (law : s.lawful) (orderly : u.orderly)
    (density marker : Option Int) : u.Shared b q k (s.takeReadings density marker) := by
  obtain ⟨r, h, found, -, -, state⟩ := id on.head
  cases refs : s.det.refs with
  | none =>
    rw [Part.takeReadings_unread found (.inl refs)]
    exact .inl (.inl on)
  | some f =>
    cases value : h.reading density marker with
    | none =>
      rw [Part.takeReadings_unread found (.inr value)]
      exact .inl (.inl on)
    | some v =>
      rw [Part.takeReadings_read found refs value]
      exact on.readingTaken law orderly state f v

/-- On the VOLUME channel no reading is taken (R78). -/
theorem Part.Staged.takeReadings (staged : u.Staged b q k s) (volume : s.byVolume) (density marker : Option Int) :
    s.takeReadings density marker = s := by
  obtain ⟨x, g, found, -⟩ := staged
  refine Part.takeReadings_unread found (.inr ?_)
  rw [HeadInterface.reading_eq (volume x g found)]
  rfl

/-- The detector's share of a sample event takes one step of stages, a withdrawal, or none (R77, R83). -/
theorem Part.OnPlan.detectorShare (on : u.OnPlan b q k s) (law : s.lawful) (orderly : u.orderly) (e : Sample) (n : Counted)
    (readiness moved : Bool) : u.Shared b q k (s.detectorShare e n readiness moved) := by
  have window := on.window
  rw [Part.detectorShare_eq]
  obtain stays | ⟨staged, volume⟩ | passed := on.handedOver law orderly readiness moved
  · rw [if_pos (stays.window.trans window.symm)]
    exact stays.takeReadings (law.handedOver readiness moved) orderly _ _
  · rw [if_pos (staged.window.trans window.symm), staged.takeReadings volume]
    exact .inl (.inr (.inl staged))
  · rw [if_neg (fun same => passed.window (same.trans window))]
    exact .inl (.inr (.inr passed))

end

end Sys2Proof.Machine
end

section
/-! SUPPORT. The orders over a whole sample event, by what the window shows of it (R102, R103). -/

open Sys2Proof

namespace Sys2Proof.Machine

/-! ## The window interface as the event reaches the detector -/

section
variable {s : Part} {r : BatchRecord} {h : HeadInterface} {q : CutPlan} (set : SampleSet) (samples : s.samples)
  (law : s.windowLaw) (found : s.windowHead = some (r, h)) (plan : h.plan = some q)
  (role : s.cfg.role = .terminal ∨ s.cfg.role = .end_) (near : ∀ r ∈ s.train.records, r.status ≠ .departed)
  (unlimited : ∀ o ∈ s.planner.orders, o.filling = true → o.limit = 0)

include samples role near unlimited in
/-- With no limit to reach, own flow is all that comes ahead of the detector (R41, R105). -/
theorem Part.reached_unlimited : s.reached set = s.flowRetired set := by
  have flowed := s.flowRetired_flowed set samples.noLaunch near
  have order : (s.flowRetired set).fillingOrder = s.fillingOrder := by rw [Part.fillingOrder, flowed.planner]; rfl
  have cfg : (s.flowRetired set).cfg = s.cfg := by
    rw [Part.cfg, flowed.image]
    rfl
  have test : (s.flowRetired set).limitTest = s.flowRetired set := by
    cases is : s.fillingOrder with
    | none => exact Part.limitTest_none (order.trans is)
    | some o =>
      exact Part.limitTest_under (order.trans is)
        (.inl (unlimited o (Part.fillingOrder_mem is) (Part.fillingOrder_filling is)))
  rw [Part.reached, Part.plannerShare, cfg, if_neg (by rcases role with role | role <;> rw [role] <;> nofun), test]

include samples near in
theorem Part.flowRetired_bonds : (s.flowRetired set).bonds = s.bonds := by
  obtain ⟨beside, -⟩ := s.flowRetired_beside set samples.noLaunch near
  rw [Part.bonds, beside.train]
  exact s.flowMoved_bonds set

include samples near law in
/-- Own flow leaves what heads are live. -/
theorem Part.flowRetired_sole {b : BatchNo} (sole : s.soleLive b) : (s.flowRetired set).soleLive b := by
  obtain ⟨beside, -⟩ := s.flowRetired_beside set samples.noLaunch near
  have live := (s.flowMoved_live set).live fun k mem => by
    obtain ⟨x, mx, isLive, rfl⟩ := mem_liveHeads.mp mem
    obtain ⟨-, approach, -⟩ := law
    exact approach x mx isLive
  intro x mem other
  rw [beside.train] at mem
  by_contra isLive
  have inS := mem_liveHeads.mpr ⟨x, mem, by simpa using isLive, rfl⟩
  rw [live] at inS
  obtain ⟨y, my, was, same⟩ := mem_liveHeads.mp inS
  have batch : x.batch = y.batch := congrArg LiveHead.batch same
  rw [sole y my (batch ▸ other)] at was
  cases was

include samples law found plan role near unlimited in
/-- The window interface reaches the detector on its plan, in its state but for its arming (R61). -/
theorem Part.reached_onPlan : ∃ k : HeadState, (s.reached set).OnPlan r.batch q k (s.reached set) ∧
    (k.waits ↔ h.state.waits) ∧ (¬ h.state.waits → k = h.state) := by
  obtain ⟨x, g, reaches⟩ := Part.reached_reaches set samples.noLaunch (samples.lawful law) found
  have is := Part.reached_unlimited set samples role near unlimited
  have here := reaches.found
  obtain ⟨-, inTrain, head⟩ := Part.windowHead_eq_some.mp here
  obtain ⟨-, was, old⟩ := Part.windowHead_eq_some.mp found
  have bond : x.bond ∈ s.bonds := by
    rw [← Part.flowRetired_bonds set samples near, ← is]
    exact List.mem_map_of_mem (findBatch_mem inTrain).1
  obtain ⟨y, my, same⟩ := List.mem_map.mp bond
  have batch : y.batch = x.batch := congrArg Prod.fst same
  have record : y = r := (samples.lawful law).ordered.record_unique my (findBatch_mem was).1 (batch.trans reaches.batch)
  have plans : y.head.map HeadInterface.plan = x.head.map HeadInterface.plan := congrArg (fun b => b.2.2.2) same
  rw [record, old, head, Option.map_some, Option.map_some, Option.some.injEq] at plans
  exact ⟨g.state, ⟨rfl, rfl, rfl, rfl, rfl, id, x, g, here, reaches.batch, plans.symm.trans plan, rfl⟩,
    reaches.flowed.waits, reaches.flowed.mixes⟩

end

/-! ## The sample event -/

/-- The orders and the tally as a sample event with no limit to reach and nothing to retire finds them for the detector in
`u`, its share as it leaves it in `w`, and the whole event in `t`. -/
structure Part.SharedBy (set : SampleSet) (s : Part) (r : BatchRecord) (h : HeadInterface) (q : CutPlan) (u w t : Part) :
    Prop where
  planner : u.planner = s.planner
  tally : u.vol.tally = s.tallyAfter (s.countOf set).delivery
  image : u.image = s.image
  shared : ∃ k : HeadState, u.Shared r.batch q k w ∧ (k.waits ↔ h.state.waits) ∧ (¬ h.state.waits → k = h.state)
  lawful : w.lawful
  after : OrdersBeside 8 w t
  closing : s.soleLive r.batch →
    (∀ o ∈ s.planner.orders, (o.filling = true ∨ q.s3.owns o = true) ∧ (q.s3.owns o = true → o.batch = r.batch)) →
    (∀ y ∈ s.train.records, ∀ o ∈ s.planner.orders, y.orderLink = some o.number → o.batch = y.batch) →
    u.closing r.batch q.s3

theorem Part.sampleEvent_shared {s : Part} {r : BatchRecord} {h : HeadInterface} {q : CutPlan} (set : SampleSet)
    (samples : s.samples) (orders : s.orderLaw) (law : s.windowLaw) (found : s.windowHead = some (r, h))
    (plan : h.plan = some q) (role : s.cfg.role = .terminal ∨ s.cfg.role = .end_)
    (near : ∀ r ∈ s.train.records, r.status ≠ .departed)
    (unlimited : ∀ o ∈ s.planner.orders, o.filling = true → o.limit = 0)
    (unused : ∀ c : ChannelNo, s.cfg.guards[c].enable = true → s.cfg.guards[c].action ≠ .endOrder) :
    ∃ u w, s.SharedBy set r h q u w (s.sampleEvent set) := by
  obtain ⟨moved, is⟩ := s.sampleEvent_reached set
  obtain ⟨k, on, waits, mixes⟩ := Part.reached_onPlan set samples law found plan role near unlimited
  obtain ⟨x, g, reaches⟩ := Part.reached_reaches set samples.noLaunch (samples.lawful law) found
  have flowed := s.flowRetired_flowed set samples.noLaunch near
  have same := Part.reached_unlimited set samples role near unlimited
  rw [← same] at flowed
  have orderly : (s.reached set).orderly := by
    rw [Part.orderly, flowed.planner]
    exact orders.orderly
  set e := s.eventOf set
  set n := s.countOf set
  set w := (s.reached set).detectorShare e n (readinessDiffers s.inst (s.reached set).inst) moved with isW
  have passing := Part.detectorShare_passing flowed.noLaunch.2 e n (readinessDiffers s.inst (s.reached set).inst) moved
  have config (c : ChannelNo) : w.guardConfig c = s.cfg.guards[c] := by
    rw [Part.guardConfig, Part.cfg, (Part.detectorShare_stage e n _ moved (s.reached set)).image, flowed.image]
    rfl
  have guards := Part.evaluateGuards_beside (passing.noLaunch flowed.noLaunch)
    (.inr fun c => by rw [config]; exact unused c) e n
  refine ⟨s.reached set, w, flowed.planner, flowed.tally, flowed.image,
    ⟨k, on.detectorShare reaches.law orderly e n _ moved, waits, mixes⟩,
    reaches.law.next (Part.detectorShare_law e n _ moved _) passing.incoming, ?_, fun sole owners links =>
    ⟨same ▸ Part.flowRetired_sole set samples law near sole, fun o mem => ?_, fun o mem => ?_, fun p mem o mo link => ?_⟩⟩
  · rw [is]
    exact guards.trans (Part.followRoute_beside _)
  · rw [flowed.planner] at mem
    exact (owners o mem).1
  · rw [flowed.planner] at mem
    exact (owners o mem).2
  · rw [flowed.planner] at mo
    rw [same, Part.ties_of_bonds (Part.flowRetired_bonds set samples near)] at mem
    obtain ⟨y, my, rfl⟩ := List.mem_map.mp mem
    exact links y my o mo link

/-! ## What the window shows of it -/

/-- What a step of stages leaves, as it is seen of the orders, the records and the train (R99, R103). -/
theorem Took.shows {before : List Order} {tally k : Nat} {g : Segment} {t : Part} (took : Took before tally g k t) :
    t.planner.planned = some g.route ∧
      t.planner.orders = (before.filter (fun o => !o.filling || decide (g.owner = some o.number))).map (fun o =>
        if decide (g.owner = some o.number) = true then { o with filling := true } else o) ∧
      t.vol.tally = (if before.any (fun o => decide (g.owner = some o.number) && !o.filling) then 0 else tally) ∧
      ∀ o ∈ before, o.filling = true → decide (g.owner = some o.number) = false →
        (∃ rec ∈ t.port.records, rec.stamp = t.vol.arrivalCounter ∧
          rec.body = .delivery o.number o.batch o.outlet tally .done) ∧
        ∀ x ∈ t.train.records, x.batch = o.batch → x.orderLink = none := by
  refine ⟨took.planned, took.orders, took.tally, fun o mem filling other => ⟨?_, fun x mx batch => ?_⟩⟩
  · obtain ⟨rec, recent, stamp, body⟩ := took.record o mem filling other
    exact ⟨rec, recent.mem, stamp, body⟩
  · exact took.links o mem filling other _ (Part.mem_ties mx) batch

section
variable {set : SampleSet} {s : Part} {r : BatchRecord} {h : HeadInterface} {q : CutPlan} {u w t : Part}

/-- The orders of `t` by the window interface `g` that it shows on the batch of `h`: no stage, a step of stages, or a
withdrawal (R103). -/
def Part.ShownAs (u : Part) (h : HeadInterface) (q : CutPlan) (b : BatchNo) (g : HeadInterface) (t : Part) : Prop :=
  ((h.state.waits ∧ g.state.waits ∨ ¬ h.state.waits ∧ g.state = h.state) ∧ t.planner.orders = u.planner.orders ∧
    t.vol.tally = u.vol.tally ∧ t.planner.planned = u.planner.planned) ∨
  (h.state.waits ∧ g.state = .inMix ∧ Took u.planner.orders u.vol.tally q.s1 8 t) ∨
  (h.state ≠ .pastMid ∧ g.state = .pastMid ∧ Took u.planner.orders u.vol.tally q.s2 8 t) ∨
  (h.state = .inMix ∧ g.state.waits ∧ t.planner.orders = u.planner.orders ∧ t.vol.tally = u.vol.tally ∧
    g.plan = some (t.planFor b) ∧ t.planner.planned = some (t.planFor b).s0.route ∧
    (u.cfg.role = .end_ → u.fillingOrder = none → t.port.alarmSet .unplannedBatch = true))

theorem Part.SharedBy.window (by_ : s.SharedBy set r h q u w t) {x : BatchRecord} {g : HeadInterface}
    (found : t.windowHead = some (x, g)) (batch : x.batch = r.batch) : u.ShownAs h q r.batch g t := by
  have after := by_.after
  have same : w.windowHead = some (x, g) := (Part.windowHead_congr after.train after.det).symm.trans found
  obtain ⟨k, shared, waits, mixes⟩ := by_.shared
  have past : h.state = .pastMid → k = .pastMid := fun is => (mixes (by rw [is]; nofun)).trans is
  obtain (on | ⟨y, e, here, -, moved⟩ | passed) | ⟨mix, withdrawn⟩ := shared
  · obtain ⟨y, e, here, -, -, state⟩ := on.head
    rw [same] at here
    cases here
    refine .inl ⟨?_, after.orders.trans on.orders, after.tally.trans on.tally, after.planned.trans on.planned⟩
    by_cases waited : h.state.waits
    · exact .inl ⟨waited, state ▸ waits.mpr waited⟩
    · exact .inr ⟨waited, state.trans (mixes waited)⟩
  · rw [same] at here
    cases here
    rcases moved with ⟨waited, now, took⟩ | ⟨early, now, took⟩
    · exact .inr (.inl ⟨waits.mp waited, now, took.stand after.toOrdersStand (by decide)⟩)
    · exact .inr (.inr (.inl ⟨fun is => early (past is), now, took.stand after.toOrdersStand (by decide)⟩))
  · exact absurd ((Part.windowHead_eq_some.mp same).1.trans (congrArg some batch)) passed.window
  · obtain ⟨y, e, here, -, back, plan⟩ := withdrawn.head
    rw [same] at here
    cases here
    have mixed : h.state = .inMix := by
      refine (mixes fun waited => ?_).symm.trans mix
      rw [← waits, mix] at waited
      rcases waited with is | is <;> cases is
    have inTrain := (Part.windowHead_eq_some.mp found).2.1
    have ordered : t.ordered := by
      rw [Part.ordered, Part.batches, after.train]
      exact by_.lawful.ordered
    have fresh : t.planFor r.batch = w.freshPlan r.batch := by
      rw [← t.freshPlan_eq r.batch (inOrder.nodup ordered) (List.mem_map.mpr ⟨x, (findBatch_mem inTrain).1, batch⟩)]
      exact Part.freshPlan_congr (by rw [Part.batches, after.train]; rfl) after.orders after.image r.batch
    exact .inr (.inr (.inr ⟨mixed, back, after.orders.trans withdrawn.orders, after.tally.trans withdrawn.tally,
      by rw [fresh, plan], by rw [fresh, after.planned, withdrawn.planned], fun role none =>
        after.alarms _ (withdrawn.unplanned role none)⟩))

/-- A CLEARED head on the batch of the window interface is of one completed on the event. -/
theorem Part.SharedBy.cleared (by_ : s.SharedBy set r h q u w t) {x : BatchRecord} {g : HeadInterface}
    (here : findBatch r.batch t.train.records = some x) (head : x.head = some g) (cleared : g.state = .cleared)
    (closing : u.closing r.batch q.s3) :
    Took u.planner.orders u.vol.tally q.s3 8 t ∧
      (u.cfg.role = .end_ → q.s3.owner = none → t.port.alarmSet .unplannedBatch = true) := by
  have after := by_.after
  rw [after.train] at here
  have awake (y : BatchRecord) (e : HeadInterface) (found : w.windowHead = some (y, e)) (batch : y.batch = r.batch) :
      False := by
    obtain ⟨-, is, present⟩ := Part.windowHead_eq_some.mp found
    rw [batch, here, Option.some.injEq] at is
    subst is
    rw [head, Option.some.injEq] at present
    subst present
    exact by_.lawful.awake found cleared
  obtain ⟨k, shared, -⟩ := by_.shared
  obtain (on | ⟨y, e, found, batch, -⟩ | passed) | ⟨-, withdrawn⟩ := shared
  · obtain ⟨y, e, found, batch, -⟩ := on.head
    exact (awake y e found batch).elim
  · exact (awake y e found batch).elim
  · obtain ⟨took, unplanned, -⟩ := passed.2 closing
    exact ⟨took.stand after.toOrdersStand (by decide), fun role unowned => after.alarms _ (unplanned role unowned)⟩
  · obtain ⟨y, e, found, batch, -⟩ := withdrawn.head
    exact (awake y e found batch).elim

end

end Sys2Proof.Machine

open Sys2Proof.Machine

/-- Settles O18: the window interface is followed on its plan to the detector, whose share takes at most one step of stages,
a withdrawal or a completion; what comes after it leaves the orders. -/
theorem sampleEventStagesMoveOrders : Obligations.SampleEventStagesMoveOrders := by
  intro s dt set r h q samples law window found plan role near unlimited unused orders tally owns waits kept took
  obtain ⟨u, w, by_⟩ := Part.sampleEvent_shared (s := s.part.elapse dt) set samples law window found plan role near unlimited
    unused
  refine ⟨_, exec_sampleEvent_open dt set samples.running samples.opened, ?_⟩
  dsimp only
  generalize (s.part.elapse dt).sampleEvent set = t at by_
  have counted : u.vol.tally = tally := by
    rw [by_.tally, Part.countOf_elapse dt set s.part]
    show s.part.tallyAfter _ = _
    cases is : s.part.fillingOrder with
    | none => simp only [tally, is, Part.tallyAfter_none is]
    | some o => simp only [tally, is, Part.tallyAfter_filling is role]
  have cfg : u.cfg = s.part.cfg := by
    rw [Part.cfg, by_.image]
    rfl
  have queue : u.planner.orders = orders := by
    rw [by_.planner]
    rfl
  have fills : u.fillingOrder = s.part.fillingOrder := by
    rw [Part.fillingOrder, by_.planner]
    rfl
  have planned : u.planner.planned = s.part.planner.planned := by
    rw [by_.planner]
    rfl
  refine ⟨fun x g shown batch => ?_, fun x g here head cleared sole owners links => ?_⟩
  · have is := by_.window shown batch
    rw [Part.ShownAs, counted, cfg, queue, fills, planned] at is
    have apart (k : HeadState) (waiting : waits k) : k ≠ .inMix ∧ k ≠ .pastMid := by
      rcases waiting with is | is <;> rw [is] <;> exact ⟨nofun, nofun⟩
    obtain ⟨states, same, poured, route⟩ | ⟨waited, now, step⟩ | ⟨early, now, step⟩ |
      ⟨mixed, back, same, poured, fresh, route, alarm⟩ := is
    · refine ⟨fun _ _ => ⟨⟨same, poured⟩, route⟩, fun _ => ⟨⟨same, poured⟩, route⟩, fun waited mixes => ?_,
        fun early past => ?_, fun mixed back => ?_⟩
      · exact states.elim (fun both => absurd mixes (apart _ both.2).1) (fun neither => absurd waited neither.1)
      · exact states.elim (fun both => absurd past (apart _ both.2).2) (fun neither => absurd (neither.2 ▸ past) early)
      · exact states.elim (fun both => absurd mixed (apart _ both.1).1)
          (fun neither => absurd (neither.2.trans mixed) (apart _ back).1)
    · exact ⟨fun _ waiting => absurd now (apart _ waiting).1, fun still => absurd (still ▸ now) (apart _ waited).1,
        fun _ _ => step.shows, fun _ past => absurd (now.symm.trans past) nofun, fun mixed => absurd mixed (apart _ waited).1⟩
    · exact ⟨fun _ waiting => absurd now (apart _ waiting).2, fun still => absurd (still ▸ now) early,
        fun _ mixes => absurd (now.symm.trans mixes) nofun, fun _ _ => step.shows,
        fun _ waiting => absurd now (apart _ waiting).2⟩
    · exact ⟨fun waiting => absurd mixed (apart _ waiting).1, fun still => absurd (still.trans mixed) (apart _ back).1,
        fun waiting => absurd mixed (apart _ waiting).1, fun _ past => absurd past (apart _ back).2,
        fun _ _ => ⟨⟨same, poured⟩, fresh, route, alarm⟩⟩
  · obtain ⟨closed, unplanned⟩ := by_.cleared here head cleared (by_.closing sole owners links)
    rw [counted, queue] at closed
    exact ⟨closed.shows, cfg ▸ unplanned⟩

end

section
/-! SUPPORT. Distance-to-arrival in train order over one step (R62): a change of the train keeps the order of the D of
its heads as it stands, or clamps it anew (R62, R63), and every other operation leaves D alone. -/

open Sys2Proof

namespace Sys2Proof.Machine

/-! ## The D of the heads under the operations of the train -/

/-- The D of a record's head interface. -/
def BatchRecord.dist (r : BatchRecord) : Option Int := r.head.map HeadInterface.d

theorem distances_eq (recs : List BatchRecord) : distances recs = (recs.map BatchRecord.dist).filterMap id := by
  rw [List.filterMap_map]
  rfl

theorem distances_cons_none {r : BatchRecord} (rest : List BatchRecord) (head : r.head = none) :
    distances (r :: rest) = distances rest := by
  simp [distances, head]

theorem distances_cons_some {r : BatchRecord} {h : HeadInterface} (rest : List BatchRecord) (head : r.head = some h) :
    distances (r :: rest) = h.d :: distances rest := by
  simp [distances, head]

theorem distances_append (l m : List BatchRecord) : distances (l ++ m) = distances l ++ distances m :=
  List.filterMap_append ..

theorem distances_map {f : BatchRecord → BatchRecord} (recs : List BatchRecord) (h : ∀ r, (f r).dist = r.dist) :
    distances (recs.map f) = distances recs := by
  rw [distances_eq, distances_eq, List.map_map]
  exact congrArg _ (List.map_congr_left fun r _ => h r)

theorem distances_of_bare {recs other : List BatchRecord}
    (same : recs.map BatchRecord.bare = other.map BatchRecord.bare) : distances recs = distances other := by
  have tells : ∀ r : BatchRecord, r.dist = r.bare.dist := fun r => by
    cases head : r.head <;> simp [BatchRecord.dist, BatchRecord.bare, HeadInterface.bare, head]
  rw [distances_eq, distances_eq, map_eq_of_bare tells same]

/-- A record's head changed with its D kept. -/
theorem dist_map_head {f : HeadInterface → HeadInterface} (h : ∀ x, (f x).d = x.d) (r : BatchRecord) :
    ({ r with head := r.head.map f } : BatchRecord).dist = r.dist := by
  cases head : r.head <;> simp [BatchRecord.dist, head, h]

theorem armHead_d (c : Config) (h : HeadInterface) : (armHead c h).d = h.d := by
  cases state : h.state <;> simp [armHead, state]

theorem distances_armTrain (c : Config) (recs : List BatchRecord) : distances (armTrain c recs) = distances recs :=
  distances_map recs (dist_map_head (armHead_d c))

theorem distances_updateBatch {b : BatchNo} {f : BatchRecord → BatchRecord} (h : ∀ r, (f r).dist = r.dist)
    (recs : List BatchRecord) : distances (updateBatch b f recs) = distances recs :=
  distances_map recs (fun r => by split <;> simp [h])

theorem distances_makePresent (b : BatchNo) (recs : List BatchRecord) :
    distances (makePresent b recs) = distances recs := by
  induction recs with
  | nil => rfl
  | cons r rest ih =>
    cases rest with
    | nil => simp only [makePresent]; split <;> rfl
    | cons n rest =>
      simp only [makePresent]
      split
      · rfl
      · split <;> simp only [distances, List.filterMap_cons] at ih ⊢ <;> rw [ih]

theorem distances_splitRetired (keep : Nat) (recs : List BatchRecord) :
    (distances (splitRetired keep recs).2).Sublist (distances recs) := by
  conv_rhs => rw [← splitRetired_append keep recs, distances_append]
  exact List.sublist_append_right _ _

/-! ## The clamp (R62, R63) -/

theorem distances_map_lowerTo (d : Int) (recs : List BatchRecord) :
    distances (recs.map (lowerTo d)) = (distances recs).map (min d) := by
  induction recs with
  | nil => rfl
  | cons r rest ih =>
    cases head : r.head with
    | none => simp [distances_cons_none, lowerTo, head, ← ih]
    | some h =>
      have lowered : (lowerTo d r).head = some (if d < h.d then clampHead d h else h) := by simp [lowerTo, head]
      rw [List.map_cons, distances_cons_some _ lowered, distances_cons_some _ head, ih, List.map_cons]
      congr 1
      split
      · exact (min_eq_left (le_of_lt ‹_›)).symm
      · exact (min_eq_right (not_lt.mp ‹_›)).symm

theorem distances_map_raiseTo (d : Int) (recs : List BatchRecord) :
    distances (recs.map (raiseTo d)) = (distances recs).map (max d) := by
  induction recs with
  | nil => rfl
  | cons r rest ih =>
    cases head : r.head with
    | none => simp [distances_cons_none, raiseTo, head, ← ih]
    | some h =>
      have raised : (raiseTo d r).head = some (if h.d < d then clampHead d h else h) := by simp [raiseTo, head]
      rw [List.map_cons, distances_cons_some _ raised, distances_cons_some _ head, ih, List.map_cons]
      congr 1
      split
      · exact (max_eq_left (le_of_lt ‹_›)).symm
      · exact (max_eq_right (not_lt.mp ‹_›)).symm

theorem oldestD_eq_head? (recs : List BatchRecord) : oldestD recs = (distances recs).head? := by
  induction recs with
  | nil => rfl
  | cons r rest ih =>
    cases head : r.head with
    | none => rw [oldestD_cons_none rest head, distances_cons_none rest head, ih]
    | some h => rw [oldestD_cons_some rest head, distances_cons_some rest head, List.head?_cons]

/-- The flow form of the clamp leaves D in train order, whatever it was (R63). -/
theorem flowClamp_sorted (recs : List BatchRecord) : (distances (flowClamp recs)).Pairwise (· ≤ ·) := by
  induction recs with
  | nil => exact .nil
  | cons r rest ih =>
    cases head : r.head with
    | none => rwa [flowClamp_cons_none rest head, distances_cons_none _ head]
    | some h =>
      rw [flowClamp_cons]
      cases oldest : oldestD (flowClamp rest) with
      | none =>
        rw [oldestD_eq_head?, List.head?_eq_none_iff] at oldest
        rw [distances_cons_some _ head, oldest]
        exact List.pairwise_singleton _ _
      | some d =>
        rw [oldestD_eq_head?, List.head?_eq_some_iff] at oldest
        obtain ⟨newer, split⟩ := oldest
        have lowered := distances_map_lowerTo d [r]
        rw [distances_cons_some [] head] at lowered
        rw [show lowerTo d r :: flowClamp rest = [r].map (lowerTo d) ++ flowClamp rest from rfl, distances_append,
          lowered, split]
        rw [split] at ih
        refine List.pairwise_cons.mpr ⟨fun e mem => (min_le_left d h.d).trans ?_, ih⟩
        rcases List.mem_cons.mp mem with rfl | mem
        · exact le_rfl
        · exact List.rel_of_pairwise_cons ih mem

theorem anchoredClamp_split {b : BatchNo} (d : Int) {older : List BatchRecord} {r : BatchRecord}
    (absent : ∀ x ∈ older, x.batch ≠ b) (batch : r.batch = b) (newer : List BatchRecord) :
    anchoredClamp b d (older ++ r :: newer) = older.map (lowerTo d) ++ r :: newer.map (raiseTo d) := by
  induction older with
  | nil => simp [anchoredClamp, batch]
  | cons x older ih =>
    rw [List.cons_append, anchoredClamp, if_neg (absent x (List.mem_cons_self ..)),
      ih (fun y hy => absent y (List.mem_cons_of_mem _ hy))]
    rfl

/-- The anchored form of the clamp leaves D in train order about the record that it fixes, where the others were in
order (R62). -/
theorem anchoredClamp_sorted {b : BatchNo} {d : Int} {older newer : List BatchRecord} {r : BatchRecord}
    {h : HeadInterface} (absent : ∀ x ∈ older, x.batch ≠ b) (batch : r.batch = b) (head : r.head = some h)
    (fixed : h.d = d) (sorted : (distances (older ++ newer)).Pairwise (· ≤ ·)) :
    (distances (anchoredClamp b d (older ++ r :: newer))).Pairwise (· ≤ ·) := by
  rw [distances_append, List.pairwise_append] at sorted
  obtain ⟨sortedOlder, sortedNewer, -⟩ := sorted
  rw [anchoredClamp_split d absent batch, distances_append, distances_cons_some _ head, fixed,
    distances_map_lowerTo, distances_map_raiseTo, List.pairwise_append, List.pairwise_cons]
  refine ⟨sortedOlder.map _ fun x y le => min_le_min_left d le,
    ⟨?_, sortedNewer.map _ fun x y le => max_le_max_left d le⟩, ?_⟩
  · intro y mem
    obtain ⟨x, -, rfl⟩ := List.mem_map.mp mem
    exact le_max_left d x
  · intro x memOlder y memNewer
    obtain ⟨x, -, rfl⟩ := List.mem_map.mp memOlder
    refine (min_le_left d x).trans ?_
    rcases List.mem_cons.mp memNewer with rfl | mem
    · exact le_rfl
    · obtain ⟨y, -, rfl⟩ := List.mem_map.mp mem
      exact le_max_left d y

/-- A record inserted at D, and clamped about, leaves D in train order (R6, R13). -/
theorem insertRecord_sorted {r : BatchRecord} {h : HeadInterface} {recs : List BatchRecord}
    (unknown : r.batch ∉ recs.map BatchRecord.batch) (head : r.head = some h)
    (sorted : (distances recs).Pairwise (· ≤ ·)) :
    (distances (anchoredClamp r.batch h.d (insertRecord r recs))).Pairwise (· ≤ ·) := by
  rw [← olderThan_append_newerThan r.batch recs] at sorted
  refine anchoredClamp_sorted (fun x mem same => unknown ?_) rfl head rfl sorted
  exact List.mem_map.mpr ⟨x, List.takeWhile_subset _ mem, same⟩

/-- A known batch's head anchored at D, and clamped about, leaves D in train order where no two records have its number
(R55, R5). -/
theorem updateBatch_sorted {b : BatchNo} {f : BatchRecord → BatchRecord} {recs : List BatchRecord} {r : BatchRecord}
    {h : HeadInterface} (unique : (recs.map BatchRecord.batch).Nodup) (found : findBatch b recs = some r)
    (batch : (f r).batch = r.batch) (head : (f r).head = some h) (sorted : (distances recs).Pairwise (· ≤ ·)) :
    (distances (anchoredClamp b h.d (updateBatch b f recs))).Pairwise (· ≤ ·) := by
  have own := (findBatch_mem found).2
  obtain ⟨-, older, newer, rfl, before⟩ := List.find?_eq_some_iff_append.mp found
  have absent : ∀ x ∈ older, x.batch ≠ b := by simpa using before
  have after : ∀ x ∈ newer, x.batch ≠ b := by
    rw [List.map_append, List.map_cons, List.nodup_append, List.nodup_cons] at unique
    obtain ⟨-, ⟨fresh, -⟩, -⟩ := unique
    exact fun x mem same => fresh (List.mem_map.mpr ⟨x, mem, same.trans own.symm⟩)
  have others : ∀ l : List BatchRecord, (∀ x ∈ l, x.batch ≠ b) → updateBatch b f l = l := fun l away =>
    (List.map_congr_left fun x mem => if_neg (away x mem)).trans (List.map_id' l)
  have whole : updateBatch b f (older ++ r :: newer) = older ++ f r :: newer := by
    conv_rhs => rw [← others older absent, ← others newer after]
    simp [updateBatch, own]
  rw [whole]
  refine anchoredClamp_sorted absent (batch.trans own) head rfl (sorted.sublist ?_)
  rw [distances_append, distances_append]
  exact (List.Sublist.refl _).append (((List.sublist_cons_self r newer)).filterMap _)

/-! ## The frame -/

/-- From `s` to `t` the D of the heads stays in train order. -/
def KeepsDistance (s t : Part) : Prop := s.distanceLaw → t.distanceLaw

theorem KeepsDistance.refl (s : Part) : KeepsDistance s s := id

theorem KeepsDistance.trans {s t u : Part} (h : KeepsDistance s t) (k : KeepsDistance t u) : KeepsDistance s u :=
  k ∘ h

theorem KeepsDistance.foldl {α : Type} (f : Part → α → Part) (h : ∀ s a, KeepsDistance s (f s a)) (l : List α)
    (s : Part) : KeepsDistance s (l.foldl f s) := by
  induction l generalizing s with
  | nil => exact .refl s
  | cons a l ih => exact (h s a).trans (ih _)

theorem KeepsDistance.of_sublist {s t : Part} (h : (distances t.train.records).Sublist (distances s.train.records)) :
    KeepsDistance s t := fun law => law.sublist h

theorem KeepsDistance.of_eq {s t : Part} (h : distances t.train.records = distances s.train.records) :
    KeepsDistance s t := .of_sublist (h ▸ .refl _)

theorem KeepsDistance.of_train {s t : Part} (h : t.train = s.train) : KeepsDistance s t :=
  .of_eq (by rw [h])

theorem KeepsDistance.whenDue {f : Part → Part} (h : ∀ s, KeepsDistance s (f s)) (moment : Nat) (s : Part) :
    KeepsDistance s (s.whenDue moment f) := by
  unfold Part.whenDue
  split
  · exact h s
  · exact .refl s

theorem PlanFrame.distance {s t : Part} (h : PlanFrame s t) : KeepsDistance s t := .of_eq (distances_of_bare h.bare)

theorem LineFrame.distance {s t : Part} (h : LineFrame s t) : KeepsDistance s t := .of_train h.train

theorem OutletFrame.distance {s t : Part} (h : OutletFrame s t) : KeepsDistance s t := .of_train h.train

theorem SameTrain.distance {s t : Part} (h : SameTrain s t) : KeepsDistance s t := .of_train h.train

/-! ### Retirement and a launch cut (R15, R111) -/

theorem Part.retire_distance (s : Part) : KeepsDistance s s.retire := by
  unfold Part.retire
  exact KeepsDistance.trans (t := { s with train := { records := _, horizon := _ } })
    (.of_sublist (distances_splitRetired _ _)) (PlanFrame.foldl _ (fun t r => Part.endRetired_plan r t) _ _).distance

theorem Part.launchRecord_distance (e : LaunchEntry) (leading : Product) (s : Part) :
    KeepsDistance s (s.launchRecord e leading) := by
  by_cases room : s.admission e.batch = .room
  · obtain ⟨unknown, -, -⟩ := Part.admission_eq_room.mp room
    rw [Part.launchRecord_room leading room]
    refine KeepsDistance.trans (t := s.mapTrain _) (fun law => ?_) (.of_sublist (distances_splitRetired _ _))
    unfold Part.distanceLaw
    rw [Part.mapTrain_train, distances_makePresent]
    exact insertRecord_sorted (r := newRecord e.batch e.product (some e.nominated) (launchHead s.cfg leading))
      unknown rfl law
  · rcases Part.launchRecord_noRoom leading room with h | h <;> rw [h]
    · exact .refl s
    · exact .of_train rfl

theorem Part.launchEffect_distance (e : LaunchEntry) (s : Part) : KeepsDistance s (s.launchEffect e) := by
  rw [Part.launchEffect_eq]
  exact ((KeepsDistance.of_train (s.launchNoticed_train e)).trans (Part.launchRecord_distance e _ _)).trans
    (.of_train (by rfl))

theorem Routed.distance {s t : Part} (h : Routed s t) : KeepsDistance s t := by
  rcases h with h | ⟨e, m, -, h, took⟩
  · exact h.distance
  · exact (h.distance.trans (m.launchEffect_distance e)).trans took.distance

/-- The planned route handed, and a conflict hold that ends by it. -/
theorem Part.handed_distance (s : Part) : KeepsDistance s (s.handPlanned).holdEvent :=
  (s.handPlanned_routed.trans (Part.holdEvent_routed _)).distance

/-! ### The window interface (R74 to R92) -/

theorem Part.modHead_distance (b : BatchNo) {f : HeadInterface → HeadInterface} (h : ∀ x, (f x).d = x.d)
    (s : Part) : KeepsDistance s (s.modHead b f) := .of_eq (distances_updateBatch (dist_map_head h) _)

theorem Part.modWindow_distance (f : HeadInterface → HeadInterface) (s : Part)
    (h : ∀ x, (f x).d = x.d) : KeepsDistance s (s.modWindow f) := by
  unfold Part.modWindow
  split
  · exact s.modHead_distance _ h
  · exact .refl s

theorem HeadInterface.take_d (m : Method) (stamp : StageRecord) (g : Stage) (h : HeadInterface) :
    (h.take m stamp g).d = h.d := by cases g <;> rfl

theorem Part.takeStage_distance (m : Method) (g : Stage) (s : Part) : KeepsDistance s (s.takeStage m g) := by
  have marked := s.modWindow_distance _ (HeadInterface.take_d m (s.stageRecord m) g)
  unfold Part.takeStage
  cases g with
  | leading => exact marked.trans (.of_train (by rfl))
  | midpoint => exact marked.trans (.of_train (by rfl))
  | trailing => exact marked

theorem Part.markOverdue_distance (again : Bool) (h : HeadInterface) (s : Part) :
    KeepsDistance s (s.markOverdue again h) :=
  (s.modWindow_distance _ (by intro; rfl)).trans (Part.raiseIf_line _ _ _).distance

theorem Part.setChannel_distance (ch : Channel × Option RefSet) (s : Part) : KeepsDistance s (s.setChannel ch) :=
  (s.modWindow_distance (fun h => { h with channel := some ch.1 }) (fun _ => rfl)).trans (.of_train (by rfl))

theorem Part.enterWindow_distance (b : BatchNo) (s : Part) : KeepsDistance s (s.enterWindow b) := by
  unfold Part.enterWindow
  exact KeepsDistance.trans (t := s.modDet (fun d => { d with window := some b })) (.of_train rfl)
    ((Part.setChannel_distance _ _).trans
      ((KeepsDistance.of_train (t := Part.modDet _ (Part.zeroCounts _)) (by rfl)).trans
        ((Part.enterPlan_plan _).distance.trans (Part.handPlanned_routed _).distance)))

theorem Part.nextWindow_distance (s : Part) : KeepsDistance s s.nextWindow := by
  unfold Part.nextWindow
  split
  · exact s.enterWindow_distance _
  · exact .of_train rfl

theorem Part.reportPassage_distance (s : Part) : KeepsDistance s s.reportPassage := by
  unfold Part.reportPassage
  split
  · simp only
    split
    · exact (s.writeRecord_plan _).distance
    · exact (s.writeRecord_plan _).distance.trans (Part.enqueue_line _ _).distance
  · exact .refl s

theorem Part.complete_distance (s : Part) : KeepsDistance s s.complete := by
  unfold Part.complete
  split
  · exact .refl s
  · rename_i r h _
    have planned := (s.modWindow_distance (HeadInterface.clear (s.degraded h)) (fun _ => rfl)).trans
      ((Part.reportPassage_distance _).trans (((Part.planStep_plan .trailing _).distance.trans
        (Part.setPlan_plan none _).distance)))
    have present : ∀ t : Part, KeepsDistance t (t.mapTrain (makePresent r.batch)) := fun t =>
      .of_eq (distances_makePresent _ _)
    exact (((planned.trans (present _)).trans ((Part.lateStartFor_plan r.batch _).distance.trans
      (Part.retire_distance _))).trans ((KeepsDistance.of_train (by rfl)).trans (Part.handed_distance _))).trans
      (Part.nextWindow_distance _)

theorem Part.takeStages_distance (m : Method) (stages : List Stage) (s : Part) :
    KeepsDistance s (s.takeStages m stages) := by
  have marked := KeepsDistance.foldl (Part.takeStage m) (fun t g => t.takeStage_distance m g) stages s
  have planned : ∀ (last : Stage) (t : Part), KeepsDistance t ((t.planStep last).handPlanned).holdEvent :=
    fun last t => (t.planStep_plan last).distance.trans (Part.handed_distance _)
  unfold Part.takeStages
  split
  · exact .refl s
  · simp only
    split
    · exact marked.trans (Part.complete_distance _)
    · exact marked.trans (planned .leading _)
    · exact marked.trans (planned .midpoint _)

theorem Part.evaluateWith_distance (fuel : Nat) (waited : Bool) (s : Part) :
    KeepsDistance s (s.evaluateWith fuel waited) := by
  induction fuel generalizing waited s with
  | zero => exact .refl s
  | succ n ih =>
    unfold Part.evaluateWith
    split
    · exact .refl s
    · split
      · split
        · split
          · exact s.markOverdue_distance _ _
          · exact .refl s
        · simp only
          split
          · exact (s.takeStages_distance _ _).trans (ih _ _)
          · exact s.takeStages_distance _ _
      · split
        · simp only
          split
          · exact s.markOverdue_distance _ _
          · exact ((s.markOverdue_distance _ _).trans (Part.takeStages_distance _ _ _)).trans (ih _ _)
        · exact .refl s

theorem Part.evaluate_distance (s : Part) : KeepsDistance s s.evaluate := s.evaluateWith_distance _ _

theorem Part.handOffReleased_distance (before s : Part) : KeepsDistance s (Part.handOffReleased before s) :=
  s.evaluateWith_distance _ _

theorem Part.handOffIfMoved_distance (before : Option Int) (s : Part) :
    KeepsDistance s (s.handOffIfMoved before) := by
  unfold Part.handOffIfMoved
  split
  · exact .refl s
  · exact s.evaluate_distance

theorem Part.readinessReport_distance (s : Part) : KeepsDistance s s.readinessReport := by
  have chosen : ∀ ch, KeepsDistance s ((s.setChannel ch).zeroCounts).evaluate := fun ch =>
    ((s.setChannel_distance ch).trans (.of_train (by rfl))).trans (Part.evaluate_distance _)
  unfold Part.readinessReport
  split
  · exact .refl s
  · split
    · simp only
      split
      · exact .refl s
      · exact chosen _
    · split
      · split
        · exact .refl s
        · exact chosen _
      · exact .refl s

theorem Part.withdraw_distance (s : Part) : KeepsDistance s s.withdraw := by
  unfold Part.withdraw
  exact (s.modWindow_distance (fun h => { h with leadRec := none, early := false, state := armedState s.cfg h })
    (fun _ => rfl)).trans
    ((KeepsDistance.of_train (by rfl)).trans ((Part.planWithdrawal_plan _).distance.trans (Part.handed_distance _)))

theorem Part.takeReadings_distance (density marker : Option Int) (s : Part) :
    KeepsDistance s (s.takeReadings density marker) := by
  unfold Part.takeReadings
  split
  · rename_i h refs _ _
    have counted : ∀ v, KeepsDistance s (s.modDet (Detector.count s.cfg h.state refs v)) := fun _ => .of_train rfl
    simp only
    split
    · exact .refl s
    · split
      · exact (counted _).trans (Part.withdraw_distance _)
      · split
        · exact ((counted _).trans (Part.takeStages_distance _ _ _)).trans (Part.evaluate_distance _)
        · exact (counted _).trans (Part.takeStages_distance _ _ _)
  · exact .refl s

theorem Part.force_distance (g : Stage) (s : Part) : KeepsDistance s (s.force g).1 := by
  have taken := (((s.takeStages_distance .forced [g]).trans (KeepsDistance.of_train
    (t := Part.zeroCounts _) (by rfl))).trans (Part.evaluate_distance _)).trans (Part.holdEvent_routed _).distance
  cases g <;> exact taken

/-! ### The cut planner and the guards (R105, R106, R110, R136, R137) -/

theorem Part.limitTest_distance (s : Part) : KeepsDistance s s.limitTest := by
  unfold Part.limitTest
  split
  · split
    · exact (s.endOrder_plan _ _).distance.trans (Part.handPlanned_routed _).distance
    · exact .refl s
  · exact .refl s

theorem Part.guardEnd_distance (s : Part) : KeepsDistance s s.guardEnd := by
  unfold Part.guardEnd
  split
  · exact (s.endOrder_plan _ _).distance.trans (Part.handPlanned_routed _).distance
  · exact .refl s

theorem Part.decideCut_distance (e : LaunchEntry) (rest : List LaunchEntry) (s : Part) :
    KeepsDistance s (s.decideCut e rest) := by
  have handed := (KeepsDistance.of_train (s := s) (t := s.modPlanner (fun p =>
    { p with launches := rest, incoming := some e, planned := some (.outlet e.outlet) })) rfl).trans
    ((Part.handRoute_routed (.outlet e.outlet) _).trans (Part.holdEvent_routed _)).distance
  unfold Part.decideCut
  simp only
  split
  · exact handed.trans (Part.launchEffect_distance _ _)
  · exact handed

theorem Part.cutTest_distance (s : Part) : KeepsDistance s s.cutTest := by
  unfold Part.cutTest
  split
  · split
    · exact s.showEmpty_plan.distance
    · split
      · exact .refl s
      · exact s.decideCut_distance _ _
  · exact .refl s

theorem Part.plannerShare_distance (trunk : Nat) (s : Part) : KeepsDistance s (s.plannerShare trunk) := by
  unfold Part.plannerShare
  split
  · exact (KeepsDistance.of_train (t := s.addLaunched trunk) rfl).trans (Part.cutTest_distance _)
  · exact s.limitTest_distance

theorem Part.driveContact_distance (c : ChannelNo) (s : Part) : KeepsDistance s (s.driveContact c) := by
  unfold Part.driveContact
  split <;> exact .of_train rfl

theorem Part.applyAction_distance (c : ChannelNo) (a : GuardAction) (s : Part) :
    KeepsDistance s (s.applyAction c a) := by
  unfold Part.applyAction
  split
  · exact (s.overrideMade_routed _ _).distance
  · split
    · exact s.guardEnd_distance
    · exact .refl s

theorem Part.withdrawAction_distance (c : ChannelNo) (a : GuardAction) (s : Part) :
    KeepsDistance s (s.withdrawAction c a) := by
  unfold Part.withdrawAction
  split
  · exact (s.overrideGone_routed _).distance
  · split
    · exact s.cutTest_distance
    · exact .refl s

theorem Part.guardMake_distance (c : ChannelNo) (s : Part) : KeepsDistance s (s.guardMake c) := by
  unfold Part.guardMake
  exact ((KeepsDistance.of_train (by rfl)).trans (Part.applyAction_distance c _ _)).trans
    (Part.driveContact_distance c _)

theorem Part.guardBreak_distance (event : GuardEvent) (c : ChannelNo) (s : Part) :
    KeepsDistance s (s.guardBreak event c) := by
  unfold Part.guardBreak
  exact ((KeepsDistance.of_train (by rfl)).trans (Part.withdrawAction_distance c _ _)).trans
    (Part.driveContact_distance c _)

theorem Part.evaluateChannel_distance (e : Sample) (n : Counted) (taken s : Part) (c : ChannelNo) :
    KeepsDistance s (Part.evaluateChannel e n taken s c) := by
  unfold Part.evaluateChannel
  simp only
  split
  · split
    · rename_i v t _ _
      have seen : KeepsDistance s (s.modChannel c (GuardChannel.sample (s.guardConfig c) v t)) := .of_train rfl
      split
      · exact seen.trans (Part.guardMake_distance c _)
      · split
        · exact seen.trans (Part.guardBreak_distance _ c _)
        · exact seen
    · exact .refl s
  · exact .refl s

/-! ### The sample event (R21, R51, R63) -/

/-- A train moved and clamped by the flow form has D in order (R63, R61). -/
theorem Part.moved_distance (f : List BatchRecord → List BatchRecord) (s : Part) :
    KeepsDistance s (s.mapTrain (fun recs => armTrain s.cfg (flowClamp (f recs)))) := fun _ => by
  unfold Part.distanceLaw
  rw [Part.mapTrain_train, distances_armTrain]
  exact flowClamp_sorted _

theorem Part.flowStep_distance (arrival trunk : Nat) (s : Part) : KeepsDistance s (s.flowStep arrival trunk) :=
  ((s.moved_distance (ownFlow s.cfg.role arrival trunk)).trans (Part.retire_distance _)).trans
    (Part.handPlanned_routed _).distance

theorem Part.countVolume_distance (e : Sample) (s : Part) : KeepsDistance s (s.countVolume e) := by
  have credited : ∀ (n : Nat) (t : Part), KeepsDistance t (t.creditDelivered n) := fun n t => by
    unfold Part.creditDelivered
    split
    · exact .of_eq (distances_updateBatch (f := fun x => { x with delivered := x.delivered + BitVec.ofNat 32 n })
        (by intro; rfl) _)
    · exact .refl t
  have mixed : ∀ (n : Nat) (t : Part), KeepsDistance t (t.creditMixList n) := fun n t => by
    unfold Part.creditMixList
    split
    · split <;> exact .of_train rfl
    · exact .refl t
  unfold Part.countVolume
  exact ((KeepsDistance.of_train (t := { s with vol := s.volumeAfter e }) rfl).trans (credited _ _)).trans (mixed _ _)

theorem Part.detectorShare_distance (e : Sample) (n : Counted) (readiness moved : Bool) (s : Part) :
    KeepsDistance s (s.detectorShare e n readiness moved) := by
  unfold Part.detectorShare
  simp only
  have reported : KeepsDistance s (if readiness then s.readinessReport else s) := by
    split
    · exact s.readinessReport_distance
    · exact .refl s
  generalize (if readiness then s.readinessReport else s) = r at reported ⊢
  have handed : KeepsDistance s (if moved && decide (r.det.window = s.det.window) then r.evaluate else r) := by
    split
    · exact reported.trans r.evaluate_distance
    · exact reported
  generalize (if moved && decide (r.det.window = s.det.window) then r.evaluate else r) = q at handed ⊢
  split
  · exact handed.trans (q.takeReadings_distance _ _)
  · exact handed

theorem Part.sampleEvent_distance (set : SampleSet) (s : Part) : KeepsDistance s (s.sampleEvent set) := by
  unfold Part.sampleEvent
  exact ((((((((KeepsDistance.of_train (t := s.modInst _) (by rfl)).trans (Part.reportLoss_line _ _).distance).trans
    (Part.countVolume_distance _ _)).trans (Part.flowStep_distance _ _ _)).trans
    (KeepsDistance.of_train (t := Part.countDown _ _) (by rfl))).trans
    (Part.plannerShare_distance _ _)).trans (Part.detectorShare_distance _ _ _ _ _)).trans
    (KeepsDistance.foldl _ (fun t c => Part.evaluateChannel_distance _ _ _ t c) _ _)).trans
    (Part.followRoute_outlet_frame _).distance

theorem Part.transferCompletes_distance (set : SampleSet) (s : Part) : KeepsDistance s (s.transferCompletes set) := by
  unfold Part.transferCompletes
  split
  · exact s.sampleEvent_distance set
  · exact .refl s

theorem Part.missedSet_distance (s : Part) : KeepsDistance s s.missedSet := by
  unfold Part.missedSet
  simp only
  split
  · have told : ∀ i, KeepsDistance s (Part.reportLoss i (((s.modInst Instruments.countMissed).modInst
        Instruments.dropReady).raise .sampleMissed)) := fun i =>
      (KeepsDistance.of_train (by rfl)).trans (Part.reportLoss_line i _).distance
    split
    · exact (told _).trans (Part.readinessReport_distance _)
    · exact told _
  · exact (KeepsDistance.of_train (t := s.modInst Instruments.countMissed) rfl).trans
      (Part.raiseIf_line _ _ _).distance

theorem Part.requestDue_distance (s : Part) : KeepsDistance s s.requestDue := by
  unfold Part.requestDue
  split
  · refine KeepsDistance.whenDue (fun t => ?_) _ s
    split
    · exact t.missedSet_distance.trans (.of_train (by rfl))
    · exact .of_train rfl
  · exact .refl s

/-! ### Notices (R7 to R10, R53, R55, R65) -/

theorem Part.windowAfterInsertion_distance (s : Part) : KeepsDistance s s.windowAfterInsertion := by
  unfold Part.windowAfterInsertion
  split
  · exact .refl s
  · exact ((s.modWindow_distance _ (by intro; rfl)).trans (Part.nextWindow_distance _)).trans
      (Part.evaluate_distance _)

theorem Part.offerNotice_distance (before : Part) (own released : Bool) (s : Part) :
    KeepsDistance s (Part.offerNotice before own released s) := by
  unfold Part.offerNotice
  split
  · split
    · split
      · exact Part.handOffReleased_distance _ _
      · exact s.handOffIfMoved_distance _
    · split
      · exact Part.handOffReleased_distance _ _
      · exact s.handOffIfMoved_distance _
    · split
      · exact Part.handOffReleased_distance _ _
      · exact .refl s
  · exact s.windowAfterInsertion_distance

/-- What follows a change of the train by a notice. -/
theorem Part.offered_distance (before : Part) (own released : Bool) (s : Part) :
    KeepsDistance s (Part.offerNotice before own released (s.retire).handPlanned) :=
  ((s.retire_distance).trans (Part.handPlanned_routed _).distance).trans (Part.offerNotice_distance _ _ _ _)

theorem Part.offerRecord_distance {r : BatchRecord} {h : HeadInterface} (head : r.head = some h) (s : Part) :
    KeepsDistance s (s.offerRecord r h.d) := by
  unfold Part.offerRecord
  split
  · exact .refl s
  · exact .refl s
  · exact .of_train rfl
  · rename_i room
    obtain ⟨unknown, -, -⟩ := Part.admission_eq_room.mp room
    refine KeepsDistance.trans (t := s.mapTrain _) (fun law => ?_) (Part.offered_distance s false false _)
    unfold Part.distanceLaw
    rw [Part.mapTrain_train, distances_armTrain]
    exact insertRecord_sorted unknown head law

theorem Part.takeLaunch_distance (source : Nat) (batch : BatchNo) (product leadProduct : Product)
    (nominated width trail : Nat) (s : Part) :
    KeepsDistance s (s.takeLaunch source batch product leadProduct nominated width trail) := by
  unfold Part.takeLaunch
  split
  · exact .refl s
  · split
    · exact .of_eq (distances_updateBatch (f := fun r =>
        { r with nominated := r.nominated.or (nominatedOf nominated) }) (by intro; rfl) _)
    · exact s.offerRecord_distance (r := newRecord ..) (h := newHead ..) rfl

/-- A known batch re-anchored where the train is in order (R55). -/
theorem Part.reanchor_distance (source chainage : Nat) {batch : BatchNo} (trail width : Nat) {h : HeadInterface}
    {r : BatchRecord} {s : Part} (inTrain : s.ordered) (found : findBatch batch s.train.records = some r)
    (head : r.head = some h) : KeepsDistance s (s.reanchor source chainage batch trail width h) := by
  refine KeepsDistance.trans (t := s.mapTrain _) (fun law => ?_)
    (Part.offered_distance s (decide (s.det.window = some batch)) h.restartMark _)
  unfold Part.distanceLaw
  rw [Part.mapTrain_train, distances_armTrain]
  exact updateBatch_sorted inTrain.nodup found rfl
    (h := reanchorHead s.cfg r source chainage trail width h) (by simp [head]) law

theorem Part.takePassage_distance (source chainage : Nat) (batch : BatchNo) (product leadProduct : Product)
    (trail width : Nat) {s : Part} (inTrain : s.ordered) :
    KeepsDistance s (s.takePassage source chainage batch product leadProduct trail width) := by
  unfold Part.takePassage
  split
  · exact .of_train rfl
  · split
    · rename_i found
      split
      · rename_i head
        split
        · exact .refl s
        · exact Part.reanchor_distance _ _ _ _ inTrain found head
      · exact .refl s
    · exact s.offerRecord_distance (r := newRecord ..) (h := newHead ..) rfl

theorem Part.mergeEntry_distance (source chainage : Nat) (e : ReportEntry) (s : Part) :
    KeepsDistance s (s.mergeEntry source chainage e) := by
  unfold Part.mergeEntry
  split
  · exact .refl s
  · exact s.offerRecord_distance (r := newRecord ..) (h := newHead ..) rfl

theorem mergeEntries_distance (source chainage : Nat) (entries : List ReportEntry) (x : Part × MergeCounts) :
    KeepsDistance x.1 (mergeEntries source chainage entries x).1 := by
  induction entries generalizing x with
  | nil => exact .refl _
  | cons e rest ih =>
    obtain ⟨s, n⟩ := x
    unfold mergeEntries
    simp only
    refine KeepsDistance.trans ?_ (ih _)
    split
    · exact .refl s
    · exact s.mergeEntry_distance _ _ _

theorem Part.mergeReport_distance (source chainage : Nat) (s : Part) :
    KeepsDistance s (s.mergeReport source chainage) := by
  unfold Part.mergeReport
  exact KeepsDistance.trans (mergeEntries_distance source chainage s.peer.buffer (s, _)) (.of_train rfl)

theorem Part.takeSegmentNotice_distance (source chainage : Nat) (first last : Bool) (keyStation : Nat)
    (keyTag : BitVec 16) (declared : Nat) (entries : List ReportEntry) (s : Part) :
    KeepsDistance s (s.takeSegmentNotice source chainage first last keyStation keyTag declared entries) := by
  unfold Part.takeSegmentNotice
  split
  · exact .of_train rfl
  · split
    · exact .of_train rfl
    · split
      · exact .of_train rfl
      · simp only
        split
        · exact .of_train rfl
        · unfold Part.appendSegment
          simp only
          split
          · exact KeepsDistance.trans (.of_train (t := s.modPeer _) (by rfl)) (Part.mergeReport_distance _ _ _)
          · exact .of_train rfl

theorem Part.applyDelta_distance (chainage delta : Nat) (s : Part) :
    KeepsDistance s (s.applyDelta chainage delta) := by
  unfold Part.applyDelta
  split
  · exact (((s.moved_distance (peerDelta s.cfg chainage delta)).trans (Part.retire_distance _)).trans
      (Part.handPlanned_routed _).distance).trans (Part.handOffIfMoved_distance _ _)
  · exact .refl s

theorem Part.applyRestart_distance (role : Role) (chainage : Nat) (s : Part) :
    KeepsDistance s (s.applyRestart role chainage) := by
  have marked : KeepsDistance s (s.mapTrain (markRestart s.cfg chainage)) :=
    .of_eq (distances_map _ (dist_map_head (fun h => by split <;> rfl)))
  unfold Part.applyRestart
  split
  · exact marked.trans (Part.handOffReleased_distance _ _)
  · exact .refl s

theorem Part.takeStatus_distance (source : Nat) (startCount : BitVec 16) (delivered : Counter) (rate : Nat)
    (atMeter : Option BatchNo) (flags : StatusFlags) (s : Part) :
    KeepsDistance s (s.takeStatus source startCount delivered rate atMeter flags) := by
  have stored : ∀ f, KeepsDistance s (s.modEntry source f) := fun _ => .of_train rfl
  unfold Part.takeStatus
  split
  · exact .refl s
  · simp only
    split
    · exact stored _
    · exact (stored _).trans (Part.applyDelta_distance _ _ _)
    · split
      · exact ((stored _).trans (Part.raise_line _ _).distance).trans (Part.applyRestart_distance _ _ _)
      · exact (stored _).trans (Part.raise_line _ _).distance

theorem Part.hearPeer_distance (n : Received) (s : Part) : KeepsDistance s (s.hearPeer n) := by
  unfold Part.hearPeer
  simp only
  split
  · exact .of_train rfl
  · have told : ∀ c f, KeepsDistance s (((s.modPeer (fun p =>
        { p with table := withPeer n.source n.chainage p.table })).modEntry n.source f).raiseIf c
        .chainageChanged) := fun c f =>
      (KeepsDistance.of_train (by rfl)).trans (Part.raiseIf_line c _ _).distance
    split
    · exact (told _ _).trans (Part.handOffReleased_distance _ _)
    · exact told _ _

theorem Part.takeHold_distance (source slots : Nat) (s : Part) : KeepsDistance s (s.takeHold source slots) := by
  unfold Part.takeHold
  split
  · split
    · split
      · exact (KeepsDistance.of_train (t := { s with bus := _ }) (by rfl)).trans (Part.arbitrate_line _).distance
      · exact .refl s
    · exact .refl s
  · simp only
    split
    · exact .of_train rfl
    · split <;> exact .of_train rfl

theorem Part.handleNotice_distance (n : Received) {s : Part} (inTrain : s.ordered) :
    KeepsDistance s (s.handleNotice n) := by
  unfold Part.handleNotice
  split
  · exact s.takeLaunch_distance _ _ _ _ _ _ _
  · exact Part.takePassage_distance _ _ _ _ _ _ _ inTrain
  · exact s.takeHold_distance _ _
  · exact (s.answerRequest_line _ _).distance
  · exact s.takeSegmentNotice_distance _ _ _ _ _ _ _ _
  · exact s.takeStatus_distance _ _ _ _ _ _

theorem Part.takeOldest_distance (kind : Nat) {s : Part} (inTrain : s.ordered) :
    KeepsDistance s (s.takeOldest kind) := by
  unfold Part.takeOldest
  split
  · exact .refl s
  · split
    · rename_i n _ _ _
      have left : KeepsDistance s s.leaveInbound := KeepsDistance.trans (t := { s with bus := _ }) (.of_train (by rfl))
        (Part.checkWatermarks_same _).distance
      have heard := (s.leaveInbound_live.law.trans (Part.hearPeer_law n _)).ordered inTrain
      exact ((left.trans (Part.hearPeer_distance n _)).trans (Part.handleNotice_distance n heard)).trans
        (.of_train (by rfl))
    · exact .refl s

theorem Part.silenceExpired_distance (station : Nat) (s : Part) : KeepsDistance s (s.silenceExpired station) := by
  unfold Part.silenceExpired
  split
  · exact .refl s
  · exact KeepsDistance.whenDue (fun t => KeepsDistance.trans
      (.of_train (t := Part.raise _ (t.modEntry _ _)) (by rfl)) (Part.handOffReleased_distance _ _)) _ s

/-! ### Requests (R87, R97, R100, R108, R112, R134, R161, R172) -/

/-- A request keeps D in train order where its service does. -/
theorem Part.request_distance {code : Octet} {states : List PartState} {roles : List Role} {serve : Part → Part}
    {s : Part} (h : KeepsDistance s (serve s)) :
    KeepsDistance s (s.request code states roles serve) := by
  rcases s.request_cases code states roles serve with ⟨r, eq⟩ | ⟨-, -, eq⟩ <;> rw [eq]
  · exact .of_train rfl
  · exact h

theorem KeepsDistance.respond {s t : Part} (h : KeepsDistance s t) (code : Octet) (r : Result) (p : List Octet) :
    KeepsDistance s (t.respond code r p) := h

theorem Part.serveReadStatus_distance (mask : BitVec 24) (s : Part) : KeepsDistance s (s.serveReadStatus mask) := by
  unfold Part.serveReadStatus
  simp only
  split
  · refine KeepsDistance.trans ?_ (Part.reportConflict_routed _).distance
    split <;> exact .of_train rfl
  · split <;> exact .of_train rfl

theorem Part.acceptOrder_distance (o : Order) (s : Part) : KeepsDistance s (s.acceptOrder o) := by
  have queued : PlanFrame s ((s.modPlanner (fun p =>
      { p with orders := insertOrder o s.planner.orders,
               nextOrder := nextNumber o.number (insertOrder o s.planner.orders) })).modBatch o.batch
      (fun r => { r with orderLink := some o.number })) :=
    (s.modPlanner_plan _ rfl rfl rfl).trans (Part.modBatch_plan o.batch _ (by intro; rfl))
  unfold Part.acceptOrder
  simp only
  split
  · exact (queued.trans (Part.lateStart_plan o _)).distance.trans (Part.handed_distance _)
  · exact (queued.trans (Part.recompute_plan _)).distance.trans (Part.handPlanned_routed _).distance

theorem Part.serveQueueOrder_distance (batch : BatchNo) (outlet : Octet) (limit : Nat) (head tail : Octet)
    (s : Part) : KeepsDistance s (s.serveQueueOrder batch outlet limit head tail) := by
  unfold Part.serveQueueOrder
  split
  · exact .of_train rfl
  · split
    · exact .of_train rfl
    · exact (s.acceptOrder_distance _).respond _ _ _

theorem Part.serveCancelOrder_distance (number : Nat) (s : Part) : KeepsDistance s (s.serveCancelOrder number) := by
  unfold Part.serveCancelOrder
  split
  · exact .of_train rfl
  · exact ((s.endOrder_plan _ _).distance.trans (Part.handPlanned_routed _).distance).respond _ _ _

theorem Part.serveQueueLaunch_distance (batch : BatchNo) (product : Octet) (volume : Nat) (outlet : Octet)
    (s : Part) : KeepsDistance s (s.serveQueueLaunch batch product volume outlet) := by
  unfold Part.serveQueueLaunch
  split
  · exact .of_train rfl
  · split
    · exact .of_train rfl
    · split
      · exact .of_train rfl
      · split
        · exact .of_train rfl
        · exact ((KeepsDistance.of_train (t := s.modPlanner _) (by rfl)).trans (Part.cutTest_distance _)).respond _ _ _

theorem Part.serveForceLaunch_distance (s : Part) : KeepsDistance s s.serveForceLaunch := by
  unfold Part.serveForceLaunch
  split
  · exact .of_train rfl
  · split
    · exact (s.decideCut_distance _ _).respond _ _ _
    · exact .of_train rfl

theorem Part.serveForceStage_distance (batch : BatchNo) (stage : Octet) (s : Part) :
    KeepsDistance s (s.serveForceStage batch stage) := by
  unfold Part.serveForceStage
  split
  · exact .of_train rfl
  · split
    · exact .of_train rfl
    · split
      · exact .of_train rfl
      · split
        · exact .of_train rfl
        · exact (s.force_distance _).respond _ _ _

theorem Part.serveReleaseGuard_distance (channel : Octet) (s : Part) :
    KeepsDistance s (s.serveReleaseGuard channel) := by
  unfold Part.serveReleaseGuard
  split
  · exact .of_train rfl
  · split
    · exact (s.guardBreak_distance _ _).respond _ _ _
    · exact .of_train rfl

theorem Part.serveSyncFrom_distance (station : Nat) (s : Part) : KeepsDistance s (s.serveSyncFrom station) := by
  unfold Part.serveSyncFrom
  split
  · exact .of_train rfl
  · split
    · exact .of_train rfl
    · exact ((KeepsDistance.of_train (t := s.modPeer _) (by rfl)).trans (Part.enqueue_line _ _).distance).respond _ _ _

/-- START gives the present batch a record without a head interface (R11). -/
theorem Part.serveStart_distance (mode presence : Octet) (batch : BatchNo) (product : Octet) (s : Part) :
    KeepsDistance s (s.serveStart mode presence batch product) := by
  have started : ∀ (recs : List BatchRecord) (present : Option (BatchNo × Product)),
      distances (startTrain present recs) = distances recs := fun recs present => by
    cases present with
    | none => rfl
    | some b => rw [startTrain, distances_append]; simp [distances, presentRecord]
  unfold Part.serveStart
  split
  · rename_i m present _ _
    have plan := (Part.startPlan_train (modeTaken s.cfg m) present
      (s.modImage (fun i => { i with startCount := i.startCount + 1, state := .running }))).1
    have handed := (KeepsDistance.of_eq ((congrArg distances plan).trans (started _ _))).trans
      (Part.handPlanned_routed _).distance
    exact (handed.trans ((KeepsDistance.of_train (by rfl)).trans (Part.enqueue_line _ _).distance)).respond _ _ _
  · exact .of_train rfl

/-! ## Every command -/

theorem KeepsDistance.whileRunning {f : Part → Part} {s : Part} (h : KeepsDistance s (f s)) :
    KeepsDistance s (s.whileRunning f) := by
  unfold Part.whileRunning
  split
  · exact h
  · exact .refl s

theorem Part.limitTaken_distance (o : Outlet) (input : LimitInput) (active : Bool) (s : Part) :
    KeepsDistance s (s.limitTaken o input active) := by
  unfold Part.limitTaken
  split
  · exact .refl s
  · simp only
    split
    · exact (KeepsDistance.of_train (t := s.modInst _) (by rfl)).trans (Part.limitEvent_routed _ _ _ _).distance
    · exact .of_train rfl

theorem Part.travelDue_distance (s : Part) : KeepsDistance s s.travelDue := by
  unfold Part.travelDue
  split
  · exact KeepsDistance.whenDue (fun t => t.travelExpired_routed.distance) _ s
  · exact .refl s

theorem Part.programmingEnds_distance (good : Bool) (s : Part) : KeepsDistance s (s.programmingEnds good) := by
  unfold Part.programmingEnds
  split
  · exact (KeepsDistance.of_train (t := s.modImage _) (by rfl)).trans (Part.raiseIf_line _ _ _).distance
  · exact .refl s

/-- Each command keeps D in train order where the train is in order. -/
theorem exec_distance (c : Instr) {s : State} (inTrain : s.part.ordered) :
    ∃ t, exec c s = .next t ∧ KeepsDistance s.part t.part := by
  have event : ∀ (dt : Nat) {f : Part → Part}, (∀ s, KeepsDistance s (f s)) →
      KeepsDistance s.part ((s.part.elapse dt).whileRunning f) := fun dt _ h =>
    (h (s.part.elapse dt)).whileRunning
  have same : ∀ (dt : Nat) {f : Part → Part}, (∀ s, SameTrain s (f s)) →
      KeepsDistance s.part ((s.part.elapse dt).whileRunning f) := fun dt _ h => event dt (fun t => (h t).distance)
  have taken : ∀ (dt kind : Nat), KeepsDistance s.part ((s.part.elapse dt).whileRunning (Part.takeOldest kind)) :=
    fun dt kind => (Part.takeOldest_distance (s := s.part.elapse dt) kind inTrain).whileRunning
  have served : ∀ (dt : Nat) {code : Octet} {states : List PartState} {roles : List Role} {serve : Part → Part},
      (∀ s, KeepsDistance s (serve s)) →
      KeepsDistance s.part ((s.part.elapse dt).request code states roles serve) := fun dt _ _ _ _ h =>
    Part.request_distance (s := s.part.elapse dt) (h _)
  have emptied : ∀ (cause : ResetCause) (t : Part), KeepsDistance s.part (t.resetBy cause) := fun _ _ _ => .nil
  cases c with
  | powerOnReset dt => exact ⟨_, rfl, emptied .powerOn (s.part.elapse dt)⟩
  | resetLineReset dt => exact ⟨_, rfl, emptied .resetLine (s.part.elapse dt)⟩
  | identify dt => exact ⟨_, rfl, .of_train rfl⟩
  | readStatus dt mask => exact ⟨_, rfl, Part.serveReadStatus_distance mask (s.part.elapse dt)⟩
  | storeImage dt first last offset octets =>
    exact ⟨_, rfl, served dt (fun t => .of_train (t.serveStoreImage_train first last offset.toNat octets).1)⟩
  | programmingComplete dt good => exact ⟨_, rfl, Part.programmingEnds_distance good (s.part.elapse dt)⟩
  | reloadImage dt => exact ⟨_, rfl, served dt (fun _ => .of_train rfl)⟩
  | start dt mode presence batch product =>
    exact ⟨_, rfl, served dt (Part.serveStart_distance mode presence batch product)⟩
  | queueOrder dt batch outlet limit head tail =>
    exact ⟨_, rfl, served dt (Part.serveQueueOrder_distance batch outlet limit.toNat head tail)⟩
  | cancelOrder dt number => exact ⟨_, rfl, served dt (Part.serveCancelOrder_distance number.toNat)⟩
  | queueLaunch dt batch product volume outlet =>
    exact ⟨_, rfl, served dt (Part.serveQueueLaunch_distance batch product volume.toNat outlet)⟩
  | forceLaunch dt => exact ⟨_, rfl, served dt Part.serveForceLaunch_distance⟩
  | forceStage dt batch stage => exact ⟨_, rfl, served dt (Part.serveForceStage_distance batch stage)⟩
  | releaseGuard dt channel => exact ⟨_, rfl, served dt (Part.serveReleaseGuard_distance channel)⟩
  | syncFrom dt station => exact ⟨_, rfl, served dt (Part.serveSyncFrom_distance station.toNat)⟩
  | readTrain dt index =>
    refine ⟨_, rfl, served dt (fun t => ?_)⟩
    unfold Part.serveReadTrain
    split <;> exact .of_train rfl
  | readOrders dt => exact ⟨_, rfl, served dt (fun _ => .of_train rfl)⟩
  | takeRecord dt => exact ⟨_, rfl, served dt (fun _ => .of_train rfl)⟩
  | unknownRequestCode dt code => exact ⟨_, rfl, .of_train rfl⟩
  | portFrameDiscarded dt => exact ⟨_, rfl, .of_train rfl⟩
  | sampleRequestDue dt => exact ⟨_, rfl, event dt Part.requestDue_distance⟩
  | sampleEvent dt set => exact ⟨_, rfl, event dt (Part.transferCompletes_distance set)⟩
  | meterPulse dt meter => exact ⟨_, rfl, same dt fun _ => ⟨rfl, rfl, rfl, rfl⟩⟩
  | limitLevelTaken dt outlet input active =>
    exact ⟨_, rfl, Part.limitTaken_distance outlet input active (s.part.elapse dt)⟩
  | travelTimeout dt => exact ⟨_, rfl, event dt Part.travelDue_distance⟩
  | lineFrameReceived dt octets => exact ⟨_, rfl, same dt (Part.frameHeard_same octets)⟩
  | launchNoticeTaken dt => exact ⟨_, rfl, taken dt 1⟩
  | passageNoticeTaken dt => exact ⟨_, rfl, taken dt 2⟩
  | holdNoticeTaken dt => exact ⟨_, rfl, taken dt 3⟩
  | trainRequestTaken dt => exact ⟨_, rfl, taken dt 4⟩
  | trainReportSegmentTaken dt => exact ⟨_, rfl, taken dt 5⟩
  | statusNoticeTaken dt => exact ⟨_, rfl, taken dt 6⟩
  | frameTransmitStart dt => exact ⟨_, rfl, same dt Part.transmitStart_same⟩
  | frameSent dt => exact ⟨_, rfl, same dt Part.frameCompletes_same⟩
  | collision dt bits => exact ⟨_, rfl, same dt (Part.collide_same bits)⟩
  | backoffEnd dt => exact ⟨_, rfl, same dt Part.backoffEnds_same⟩
  | peerHoldExpiry dt => exact ⟨_, rfl, same dt Part.holdDue_same⟩
  | statusIntervalDue dt => exact ⟨_, rfl, same dt Part.statusDue_same⟩
  | peerSilenceExpiry dt station => exact ⟨_, rfl, event dt (Part.silenceExpired_distance station)⟩
  | syncTimeout dt => exact ⟨_, rfl, same dt Part.syncExpired_same⟩

end Sys2Proof.Machine

open Sys2Proof.Machine

/-- Settles O53: every command keeps D in train order, or clamps it anew; with no command waiting the block idles. -/
theorem distanceLawKept : Obligations.DistanceLawKept := by
  intro s t law sorted next
  unfold step at next
  split at next
  · cases next
    exact sorted
  · rename_i c rest _
    obtain ⟨u, taken, keeps⟩ := exec_distance c (s := { s with pending := rest }) ((Part.trainLaw_iff _).mp law).1
    rw [taken] at next
    cases next
    exact keeps sorted
end

section
/-! SUPPORT. A counterexample to the D that a sample event is said to leave the window interface (R50, R63). -/

open Sys2Proof

namespace Sys2Proof.Machine

/-! ## A window interface beyond the range in which D is held

The statement gives the window interface the D that its own flow makes, held within R50's 2,000,000,000 dal, and leaves
the flow clamp out: under the distance law no newer head lies below the window's. No law keeps D within R50's range
though. A window interface that stands below it is held up to its limit by the event, at an END a CLEARED head newer
than it stands where it is, and the clamp then brings the window interface down to that head. -/

/-- An END in RUNNING with a transfer open, whose density, marker and drive are not fitted. -/
def endStation : Part :=
  { Part.reset with
    image :=
      { ImageStore.blank with
        state := .running, config := some { Config.nothingFitted with role := .end_, samplePeriod := 100 } }
    inst := { Instruments.afterReset with transferOpen := true } }

/-- A head interface in a state at a D, on the VOLUME channel and marked by a restart. -/
def markedHead (st : HeadState) (d : Int) : HeadInterface :=
  { leading := 2, state := st, d := d, w := 60, u := 20, anchorStation := 5, anchorChainage := 500, overdue := true,
    early := false, clamped := false, restartMark := true, channel := some .volume, leadRec := none, midRec := none,
    trailRec := none, plan := none, midError := none, measuredWidth := none, degradedMark := none }

/-- The record of batch 100, whose head is the window interface at 3,000,000,000 dal past the station. -/
def farRecord : BatchRecord :=
  { batch := 100, product := 3, nominated := none, status := .approaching,
    head := some (markedHead .armed (-3000000000)), delivered := 0, orderLink := none }

/-- The record of batch 101, whose head is CLEARED at 2,500,000,000 dal past the station. -/
def standingRecord : BatchRecord :=
  { batch := 101, product := 2, nominated := none, status := .present,
    head := some (markedHead .cleared (-2500000000)), delivered := 0, orderLink := none }

/-- The END with those two records, batch 100 the older. -/
def beyondHeld : State :=
  { part :=
      { endStation with
        train := { records := [farRecord, standingRecord], horizon := none }
        det := { Detector.afterReset with window := some 100 } }
    pending := [] }

/-- A sample set with no reading indicated. -/
def silentSet : SampleSet := Vector.replicate 8 { value := 0, indicated := false }

/-- The laws that the statement may assume hold of the station. -/
theorem beyondHeld_samples :
    beyondHeld.part.samplesWindow silentSet farRecord (markedHead .armed (-3000000000)) := by
  unfold Part.samplesWindow Part.samples Part.trainLaw Part.distanceLaw Part.windowLaw
  decide

/-- Its own flow holds the D of the window interface to R50's limit. -/
theorem beyondHeld_ownFlow :
    holdD (-3000000000 - (beyondHeld.part.countOf silentSet).arrival) = -2000000000 := by decide

/-- The event leaves the window interface at the D of the CLEARED head, not at R50's limit. -/
theorem beyondHeld_windowD :
    ((beyondHeld.part.elapse 0).sampleEvent silentSet).windowD = some (-2500000000) := by decide +kernel

end Sys2Proof.Machine

open Sys2Proof.Machine

/-- Refutes O30: at an END whose DEGRADED window interface stands at D of −3,000,000,000 dal, ahead of a CLEARED head at
−2,500,000,000, the event holds its D to −2,000,000,000 (R50) and the flow clamp lowers it to the CLEARED head (R63),
where the statement shows it at −2,000,000,000. -/
theorem not_sampleEventTakesVolumeAndLateStages : ¬ Obligations.SampleEventTakesVolumeAndLateStages := by
  unfold Obligations.SampleEventTakesVolumeAndLateStages
  intro holds
  obtain ⟨t, next, -, suspended, -⟩ :=
    holds beyondHeld 0 silentSet farRecord (markedHead .armed (-3000000000)) beyondHeld_samples (by decide)
  rw [exec_sampleEvent_open 0 silentSet rfl rfl] at next
  obtain rfl := Host.Outcome.next.inj next
  obtain ⟨⟨r, shown, -⟩, -⟩ := suspended rfl (by decide)
  have moved := beyondHeld_windowD
  rw [Part.windowD, shown] at moved
  exact absurd (beyondHeld_ownFlow.symm.trans (Option.some.inj moved)) (by decide)
end

section
/-! SUPPORT. The alarm flags that an evaluation of the window cannot reach: all but UNPLANNED_BATCH, TRAIN_FULL,
OUTBOUND_OVERFLOW and SYNC_FAILED read after stages, orders and launch cuts as before them (R174). -/

open Sys2Proof

namespace Sys2Proof.Machine

/-- A flag that no stage, end of an order, notice handed or launch cut sets. -/
def Alarm.calm (a : Alarm) : Prop :=
  a ≠ .unplannedBatch ∧ a ≠ .trainFull ∧ a ≠ .outboundOverflow ∧ a ≠ .syncFailed

/-- The flag reads the same. -/
def SameAlarm (a : Alarm) (s t : Part) : Prop := t.port.alarmSet a = s.port.alarmSet a

theorem SameAlarm.refl (a : Alarm) (s : Part) : SameAlarm a s s := rfl

theorem SameAlarm.trans {a : Alarm} {s t u : Part} (h : SameAlarm a s t) (k : SameAlarm a t u) : SameAlarm a s u :=
  Eq.trans k h

theorem SameAlarm.foldl {α : Type} {a : Alarm} (f : Part → α → Part) (h : ∀ s x, SameAlarm a s (f s x)) (l : List α)
    (s : Part) : SameAlarm a s (l.foldl f s) := by
  induction l generalizing s with
  | nil => exact .refl a s
  | cons x l ih => exact (h s x).trans (ih _)

theorem SameAlarm.of_port {a : Alarm} {s t : Part} (h : t.port = s.port) : SameAlarm a s t := by rw [SameAlarm, h]

theorem Part.raise_alarm {a b : Alarm} (other : a ≠ b) (s : Part) : SameAlarm a s (s.raise b) := by
  simp [SameAlarm, other.symm]

theorem Part.raiseIf_alarm (c : Bool) {a b : Alarm} (other : a ≠ b) (s : Part) : SameAlarm a s (s.raiseIf c b) := by
  cases c
  · rfl
  · exact s.raise_alarm other

theorem Part.writeRecord_alarm (a : Alarm) (b : RecordBody) (s : Part) : SameAlarm a s (s.writeRecord b) := by
  simp [SameAlarm, StationPort.alarmSet]

theorem Part.arbitrate_alarm (a : Alarm) (s : Part) : SameAlarm a s s.arbitrate := by
  unfold Part.arbitrate
  split
  · rfl
  · split <;> rfl

theorem Part.joinOutbound_alarm (a : Alarm) (n : Notice) (s : Part) : SameAlarm a s (s.joinOutbound n) :=
  Part.arbitrate_alarm a _

section
variable {a : Alarm} (calm : a.calm)
include calm

/-! ## Notices handed (R142) -/

theorem Part.reportDiscarded_alarm (n : Notice) (s : Part) : SameAlarm a s (s.reportDiscarded n) := by
  obtain ⟨-, -, -, sync⟩ := calm
  unfold Part.reportDiscarded
  split
  · exact s.raise_alarm sync
  · rfl

theorem Part.enqueue_alarm (n : Notice) (s : Part) : SameAlarm a s (s.enqueue n) := by
  unfold Part.enqueue
  split
  · rfl
  · split
    · exact s.joinOutbound_alarm a n
    · split
      · refine SameAlarm.trans ?_ (Part.joinOutbound_alarm a n _)
        unfold Part.evict
        split
        · rfl
        · exact Part.reportDiscarded_alarm calm _ _
      · obtain ⟨-, -, overflow, -⟩ := id calm
        exact (s.raise_alarm overflow).trans (Part.reportDiscarded_alarm calm _ _)

/-! ## Plans and orders (R99 to R104) -/

omit calm in
theorem Part.setPlan_port (p : Option CutPlan) (s : Part) : (s.setPlan p).port = s.port := by
  rw [s.setPlan_eq p, s.modWindow_port]

omit calm in
theorem Part.setPlan_alarm (p : Option CutPlan) (s : Part) : SameAlarm a s (s.setPlan p) := .of_port (s.setPlan_port p)

theorem Part.takeRoute_alarm (clean : Bool) (g : Segment) (s : Part) : SameAlarm a s (s.takeRoute clean g) :=
  Part.raiseIf_alarm _ calm.1 (s.setPlanned g.route)

theorem Part.recompute_alarm (s : Part) : SameAlarm a s s.recompute := by
  unfold Part.recompute
  split
  · rfl
  · split
    · rfl
    · split
      · rfl
      · simp only
        split
        · rfl
        · split
          · exact (s.setPlan_alarm _).trans (Part.takeRoute_alarm calm _ _ _)
          · exact s.setPlan_alarm _

theorem Part.enterPlan_alarm (s : Part) : SameAlarm a s s.enterPlan := by
  unfold Part.enterPlan
  split
  · split
    · exact (s.setPlan_alarm _).trans (Part.takeRoute_alarm calm _ _ _)
    · rfl
  · rfl

omit calm in
theorem Part.stripPlan_alarm (n : Nat) (s : Part) : SameAlarm a s (s.stripPlan n) := by
  unfold Part.stripPlan
  split
  · split
    · exact s.setPlan_alarm _
    · rfl
  · rfl

theorem Part.endOrder_alarm (o : Order) (reason : EndReason) (s : Part) : SameAlarm a s (s.endOrder o reason) := by
  have removed : SameAlarm a s (((s.writeRecord (.delivery o.number o.batch o.outlet
      (if o.filling then s.vol.tally else 0) reason)).modBatch o.batch
      (fun r => { r with orderLink := none })).modPlanner
      (fun p => { p with orders := p.orders.filter (fun e => decide (e.number ≠ o.number)) })) :=
    s.writeRecord_alarm a _
  unfold Part.endOrder
  simp only
  split
  · exact removed.trans (Part.recompute_alarm calm _)
  · exact ((removed.trans (Part.takeRoute_alarm calm _ _ _)).trans (Part.stripPlan_alarm _ _)).trans
      (Part.recompute_alarm calm _)
  · exact (removed.trans (Part.stripPlan_alarm _ _)).trans (Part.recompute_alarm calm _)

theorem Part.endFilling_alarm (keep : Option Nat) (reason : EndReason) (s : Part) :
    SameAlarm a s (s.endFilling keep reason) := by
  unfold Part.endFilling
  split
  · split
    · rfl
    · exact s.endOrder_alarm calm _ _
  · rfl

theorem Part.takeSegment_alarm (clean : Bool) (g : Segment) (s : Part) : SameAlarm a s (s.takeSegment clean g) := by
  have ended := s.endFilling_alarm calm g.owner .done
  unfold Part.takeSegment
  simp only
  split
  · split <;> exact ended.trans (Part.takeRoute_alarm calm _ _ _)
  · exact ended.trans (Part.takeRoute_alarm calm _ _ _)

theorem Part.planStep_alarm (last : Stage) (s : Part) : SameAlarm a s (s.planStep last) := by
  unfold Part.planStep
  split
  · rfl
  · exact (s.setPlan_alarm _).trans (Part.takeSegment_alarm calm _ _ _)

theorem Part.lateStartFor_alarm (b : BatchNo) (s : Part) : SameAlarm a s (s.lateStartFor b) := by
  unfold Part.lateStartFor
  split
  · split
    · rfl
    · exact (s.endFilling_alarm calm _ _).trans (Part.recompute_alarm calm _)
  · rfl

theorem Part.retire_alarm (s : Part) : SameAlarm a s s.retire := by
  have ended : ∀ (t : Part) (r : BatchRecord), SameAlarm a t (t.endRetired r) := fun t r => by
    unfold Part.endRetired
    split
    · exact t.endOrder_alarm calm _ _
    · rfl
  rw [Part.retire_eq]
  exact SameAlarm.foldl _ ended _ s.retiredTrain

/-! ## Route changes (R111, R117, R124) -/

theorem Part.launchEffect_alarm (e : LaunchEntry) (s : Part) : SameAlarm a s (s.launchEffect e) := by
  have noticed : SameAlarm a s (s.launchNoticed e) :=
    (s.writeRecord_alarm a _).trans (Part.enqueue_alarm calm _ _)
  have stored : ∀ (lead : Product) (t : Part), SameAlarm a t (t.launchRecord e lead) := fun lead t => by
    by_cases room : t.admission e.batch = .room
    · rw [Part.launchRecord_room lead room]
      rfl
    · obtain ⟨-, full, -⟩ := id calm
      rcases Part.launchRecord_noRoom lead room with h | h <;> rw [h]
      · rfl
      · exact t.raise_alarm full
  rw [Part.launchEffect_eq]
  exact noticed.trans (stored _ _)

theorem Part.reportStart_alarm (o : Outlet) (s : Part) : SameAlarm a s (s.reportStart o) := by
  unfold Part.reportStart
  split
  · split
    · exact s.launchEffect_alarm calm _
    · rfl
  · rfl

theorem Part.beginChange_alarm (target : Route) (s : Part) : SameAlarm a s (s.beginChange target) := by
  cases target with
  | outlet b =>
    have started : SameAlarm a s ((((s.modOutlet (fun k => { k with pending := none })).command b .opening).inFlight
        s.outlet.current (.outlet b) .opening).reportStart b) := Part.reportStart_alarm calm b _
    simp only [Part.beginChange]
    split
    · exact started.trans (.of_port (Part.openConfirmed_port _ _ _))
    · exact started
  | closed =>
    simp only [Part.beginChange]
    split
    · exact .of_port (Part.closeFor_port _ _ _ _)
    · rfl
    · exact .of_port (Part.clearFor_port _ _)

theorem Part.retarget_alarm (s : Part) : SameAlarm a s s.retarget := by
  unfold Part.retarget
  split
  · rfl
  · simp only
    split
    · split
      · rfl
      · split
        · split
          · split
            · exact Part.reportStart_alarm calm _ _
            · rfl
          · split <;> rfl
        · split
          · exact Part.beginChange_alarm calm _ _
          · rfl
    · rfl

theorem Part.handPlanned_alarm (s : Part) : SameAlarm a s s.handPlanned := by
  unfold Part.handPlanned
  split
  · rfl
  · split
    · rfl
    · exact Part.retarget_alarm calm _

theorem Part.holdEvent_alarm (s : Part) : SameAlarm a s s.holdEvent := by
  unfold Part.holdEvent
  split
  · simp only
    split
    · exact Part.beginChange_alarm calm _ _
    · rfl
  · rfl

theorem Part.handed_alarm (s : Part) : SameAlarm a s (s.handPlanned).holdEvent :=
  (s.handPlanned_alarm calm).trans (Part.holdEvent_alarm calm _)

/-! ## Stages, completions and window entries (R74, R83, R91) -/

omit calm in
theorem Part.takeStage_port (m : Method) (g : Stage) (s : Part) : (s.takeStage m g).port = s.port := by
  cases g <;> exact s.modWindow_port _

omit calm in
theorem Part.foldl_takeStage_port (m : Method) (stages : List Stage) (s : Part) :
    (stages.foldl (Part.takeStage m) s).port = s.port := by
  induction stages generalizing s with
  | nil => rfl
  | cons g rest ih => exact (ih _).trans (s.takeStage_port m g)

theorem Part.enterWindow_alarm (b : BatchNo) (s : Part) : SameAlarm a s (s.enterWindow b) := by
  have entered : SameAlarm a s ((((s.modDet (fun d => { d with window := some b })).setChannel
      (s.modDet (fun d => { d with window := some b })).choiceNow).zeroCounts).modDet
      (fun d => { d with mix := [], midStamp := none })) := .of_port (Part.modWindow_port _ _)
  unfold Part.enterWindow
  exact (entered.trans (Part.enterPlan_alarm calm _)).trans (Part.handPlanned_alarm calm _)

theorem Part.nextWindow_alarm (s : Part) : SameAlarm a s s.nextWindow := by
  unfold Part.nextWindow
  split
  · exact s.enterWindow_alarm calm _
  · rfl

theorem Part.reportPassage_alarm (s : Part) : SameAlarm a s s.reportPassage := by
  unfold Part.reportPassage
  split
  · simp only
    split
    · exact s.writeRecord_alarm a _
    · exact (s.writeRecord_alarm a _).trans (Part.enqueue_alarm calm _ _)
  · rfl

theorem Part.complete_alarm (s : Part) : SameAlarm a s s.complete := by
  unfold Part.complete
  split
  · rfl
  · rename_i r h _
    have cleared : SameAlarm a s (s.modWindow (HeadInterface.clear (s.degraded h))) := .of_port (s.modWindow_port _)
    have planned := (cleared.trans (Part.reportPassage_alarm calm _)).trans
      ((Part.planStep_alarm calm .trailing _).trans (Part.setPlan_alarm none _))
    have settled := planned.trans ((Part.lateStartFor_alarm calm r.batch (Part.mapTrain (makePresent r.batch) _)).trans
      (Part.retire_alarm calm _))
    have emptied := settled.trans (SameAlarm.refl a (Part.modDet (fun d => { d with midStamp := none, mix := [] }) _))
    exact (emptied.trans (Part.handed_alarm calm _)).trans (Part.nextWindow_alarm calm _)

theorem Part.takeStages_alarm (m : Method) (stages : List Stage) (s : Part) :
    SameAlarm a s (s.takeStages m stages) := by
  have marked : SameAlarm a s (stages.foldl (Part.takeStage m) s) := .of_port (s.foldl_takeStage_port m stages)
  unfold Part.takeStages
  split
  · rfl
  · simp only
    split
    · exact marked.trans (Part.complete_alarm calm _)
    · exact (marked.trans (Part.planStep_alarm calm _ _)).trans (Part.handed_alarm calm _)
    · exact (marked.trans (Part.planStep_alarm calm _ _)).trans (Part.handed_alarm calm _)

/-- An evaluation of the window sets INTERFACE_OVERDUE and the flags of stages at most (R84, R86). -/
theorem Part.evaluateWith_alarm (other : a ≠ .interfaceOverdue) (fuel : Nat) (waited : Bool) (s : Part) :
    SameAlarm a s (s.evaluateWith fuel waited) := by
  have marked : ∀ (again : Bool) (h : HeadInterface) (t : Part), SameAlarm a t (t.markOverdue again h) :=
    fun again h t => (SameAlarm.of_port (t.modWindow_port _)).trans (Part.raiseIf_alarm _ other _)
  induction fuel generalizing waited s with
  | zero => rfl
  | succ n ih =>
    unfold Part.evaluateWith
    split
    · rfl
    · split
      · split
        · split
          · exact marked _ _ _
          · rfl
        · simp only
          split
          · exact (s.takeStages_alarm calm _ _).trans (ih _ _)
          · exact s.takeStages_alarm calm _ _
      · split
        · simp only
          split
          · exact marked _ _ _
          · exact ((marked _ _ _).trans (Part.takeStages_alarm calm _ _ _)).trans (ih _ _)
        · rfl

end

end Sys2Proof.Machine
end

section
/-! SUPPORT. The window interface while no order is queued and no launch cut waits: what a step of stages and a
completion make of it (R83, R88, R91, R103). -/

open Sys2Proof

namespace Sys2Proof.Machine

/-! ## Stages taken of the window interface (R83, R88) -/

/-- The interface after a step of stages with one method at one arrival stamp (R88). -/
def HeadInterface.taking (m : Method) (stamp : StageRecord) (stages : List Stage) (h : HeadInterface) : HeadInterface :=
  stages.foldl (fun k g => k.take m stamp g) h

/-- The interface with its plan frozen (R103). -/
def HeadInterface.freeze (h : HeadInterface) : HeadInterface :=
  { h with plan := h.plan.map (fun q => { q with frozen := true }) }

/-- `t` agrees with `s` in all that stages marked on the window interface cannot reach, and its window is on the same
batch with the same mix list. -/
structure MarkFrame (s t : Part) : Prop where
  vol : t.vol = s.vol
  port : t.port = s.port
  planner : t.planner = s.planner
  peer : t.peer = s.peer
  image : t.image = s.image
  window : t.det.window = s.det.window
  mix : t.det.mix = s.det.mix

theorem MarkFrame.refl (s : Part) : MarkFrame s s := ⟨rfl, rfl, rfl, rfl, rfl, rfl, rfl⟩

theorem MarkFrame.trans {s t u : Part} (h : MarkFrame s t) (k : MarkFrame t u) : MarkFrame s u :=
  ⟨k.vol.trans h.vol, k.port.trans h.port, k.planner.trans h.planner, k.peer.trans h.peer, k.image.trans h.image,
    k.window.trans h.window, k.mix.trans h.mix⟩

theorem Part.modWindow_mark (f : HeadInterface → HeadInterface) (s : Part) : MarkFrame s (s.modWindow f) := by
  cases window : s.det.window with
  | none => rw [Part.modWindow_none f window]; exact .refl s
  | some b => rw [Part.modWindow_window f window]; exact ⟨rfl, rfl, rfl, rfl, rfl, rfl, rfl⟩

theorem Part.takeStage_mark (m : Method) (g : Stage) (s : Part) : MarkFrame s (s.takeStage m g) := by
  have marked := s.modWindow_mark (fun h => h.take m (s.stageRecord m) g)
  cases g with
  | leading => exact marked.trans ⟨rfl, rfl, rfl, rfl, rfl, rfl, rfl⟩
  | midpoint => exact marked.trans ⟨rfl, rfl, rfl, rfl, rfl, rfl, rfl⟩
  | trailing => exact marked

theorem Part.foldl_takeStage_mark (m : Method) (stages : List Stage) (s : Part) :
    MarkFrame s (stages.foldl (Part.takeStage m) s) := by
  induction stages generalizing s with
  | nil => exact .refl s
  | cons g rest ih => exact (s.takeStage_mark m g).trans (ih _)

theorem Part.takeStage_train (m : Method) (g : Stage) (s : Part) :
    (s.takeStage m g).train = (s.modWindow (fun h => h.take m (s.stageRecord m) g)).train := by
  cases g <;> rfl

theorem Part.soleLive.takeStages {s : Part} {b : BatchNo} (sole : s.soleLive b) (window : s.det.window = some b)
    (m : Method) (stages : List Stage) : (stages.foldl (Part.takeStage m) s).soleLive b := by
  induction stages generalizing s with
  | nil => exact sole
  | cons g rest ih =>
    refine ih (fun x mem => ?_) ((s.takeStage_mark m g).window.trans window)
    rw [Part.takeStage_train] at mem
    exact sole.modWindow window _ x mem

section
variable {s : Part} {r : BatchRecord} {h : HeadInterface} (found : s.windowHead = some (r, h))
include found

theorem Part.takeStage_windowHead (m : Method) (g : Stage) :
    (s.takeStage m g).windowHead =
      some ({ r with head := some (h.take m (s.stageRecord m) g) }, h.take m (s.stageRecord m) g) := by
  have marked := Part.modWindow_windowHead (fun k => k.take m (s.stageRecord m) g) found
  unfold Part.takeStage
  cases g with
  | leading => exact (Part.modDet_windowHead rfl).trans marked
  | midpoint => exact (Part.modDet_windowHead rfl).trans marked
  | trailing => exact marked

theorem Part.foldl_takeStage_windowHead (m : Method) (stages : List Stage) :
    (stages.foldl (Part.takeStage m) s).windowHead =
      some ({ r with head := some (h.taking m (s.stageRecord m) stages) }, h.taking m (s.stageRecord m) stages) := by
  induction stages generalizing s r h with
  | nil =>
    obtain ⟨-, -, head⟩ := Part.windowHead_eq_some.mp found
    rw [List.foldl_nil, found, HeadInterface.taking, List.foldl_nil, ← head]
  | cons g rest ih =>
    have next := ih (Part.takeStage_windowHead found m g)
    have stamp : (s.takeStage m g).stageRecord m = s.stageRecord m := by
      rw [Part.stageRecord, (s.takeStage_mark m g).vol]
      rfl
    rw [stamp] at next
    exact next

/-! ## The cut planner with no order queued (R103) -/

variable (unordered : s.planner.orders = [])
include unordered

omit found in
theorem Part.takeSegment_unordered (clean : Bool) (g : Segment) : s.takeSegment clean g = s.takeRoute clean g := by
  have ended : s.endFilling g.owner .done = s := by simp [Part.endFilling, Part.fillingOrder, unordered]
  have nobody : g.owner.bind (fun n => orderNumbered n s.planner.orders) = none := by
    rw [unordered]
    cases g.owner <;> rfl
  simp only [Part.takeSegment, ended, nobody]

/-- A step of stages leaves the plan frozen, and reaches the planned route beside it. -/
theorem Part.planStep_unordered (last : Stage) :
    (s.planStep last).windowHead = some ({ r with head := some h.freeze }, h.freeze) ∧
      (s.planStep last).vol = s.vol ∧ (s.planStep last).port.records = s.port.records ∧
      (s.planStep last).planner.orders = [] := by
  unfold Part.planStep
  cases plan : h.plan with
  | none =>
    obtain ⟨-, -, head⟩ := Part.windowHead_eq_some.mp found
    have frozen : h.freeze = h := by
      unfold HeadInterface.freeze
      rw [plan, Option.map_none, ← plan]
    rw [show s.windowPlan = none by rw [Part.windowPlan, found]; exact plan, frozen, ← head]
    exact ⟨found, rfl, rfl, unordered⟩
  | some p =>
    rw [show s.windowPlan = some p by rw [Part.windowPlan, found]; exact plan]
    simp only
    have set : (s.setPlan (some { p with frozen := true })).windowHead =
        some ({ r with head := some h.freeze }, h.freeze) := by
      rw [Part.setPlan_eq, Part.modWindow_windowHead _ found, HeadInterface.freeze, plan, Option.map_some]
    have mark : MarkFrame s (s.setPlan (some { p with frozen := true })) := by
      rw [Part.setPlan_eq]
      exact s.modWindow_mark _
    have none := (congrArg Planner.orders mark.planner).trans unordered
    rw [Part.takeSegment_unordered none]
    generalize s.setPlan (some { p with frozen := true }) = u at set mark none
    have line := Part.raiseIf_line ((decide (last = .trailing)) && (p.after last).owner.isNone &&
      decide ((u.setPlanned (p.after last).route).cfg.role = .end_)) .unplannedBatch (u.setPlanned (p.after last).route)
    exact ⟨(Part.windowHead_congr line.train line.det).trans set, line.vol.trans mark.vol,
      line.records.trans (congrArg StationPort.records mark.port), (congrArg Planner.orders line.planner).trans none⟩

variable (idle : s.planner.incoming = none)
include idle

/-- A step without a trailing edge: the stages are taken, the plan is frozen, and the window stays (R83, R103). -/
theorem Part.takeStages_shows (m : Method) {stages : List Stage} {g : Stage} (last : stages.getLast? = some g)
    (open_ : g ≠ .trailing) :
    (s.takeStages m stages).showsWindow r.batch (h.taking m (s.stageRecord m) stages).freeze ∧
      (s.takeStages m stages).det = (stages.foldl (Part.takeStage m) s).det := by
  have mark := s.foldl_takeStage_mark m stages
  have head := Part.foldl_takeStage_windowHead found m stages
  obtain ⟨planned, -⟩ := Part.planStep_unordered head ((congrArg Planner.orders mark.planner).trans unordered) g
  have still : ((stages.foldl (Part.takeStage m) s).planStep g).planner.incoming = none :=
    (Part.planStep_plan g _).incoming.trans ((congrArg Planner.incoming mark.planner).trans idle)
  have hand := Part.handPlanned_outlet_frame _ still
  have hold := hand.trans (Part.holdEvent_outlet_frame _ (by rw [hand.planner]; exact still))
  have shows : (s.takeStages m stages) = (((stages.foldl (Part.takeStage m) s).planStep g).handPlanned).holdEvent := by
    simp only [Part.takeStages, last]
    cases g with
    | trailing => exact absurd rfl open_
    | leading => rfl
    | midpoint => rfl
  rw [shows]
  exact ⟨⟨_, (Part.windowHead_congr hold.train hold.det).trans planned, rfl⟩,
    hold.det.trans (Part.planStep_plan g _).det⟩

end

/-! ## The completion with no order queued (R90, R91) -/

/-- Under the window law the last live interface leaves no live head when it is CLEARED (R91). -/
theorem Part.lawful.cleared_none {s : Part} {r : BatchRecord} {h : HeadInterface} (law : s.lawful)
    (found : s.windowHead = some (r, h)) (sole : s.soleLive r.batch) (degraded : Bool) :
    liveHeads (s.modWindow (HeadInterface.clear degraded)).train.records = [] := by
  refine liveHeads_eq_nil fun x mem => ?_
  by_cases same : x.batch = r.batch
  · have spent := Part.modWindow_clear_spent law.ordered found degraded x mem same
    cases head : x.head with
    | none => simp [BatchRecord.headLive, head]
    | some g => simp [BatchRecord.headLive, head, (spent g head).1]
  · exact sole.modWindow (Part.windowHead_eq_some.mp found).1 _ x mem same

/-- A record that is not DEPARTED stays through the retirement test (R15). -/
theorem Part.retiredTrain_findBatch {s : Part} {x : BatchRecord} (inTrain : s.ordered)
    (here : findBatch x.batch s.train.records = some x) (stays : x.status ≠ .departed) :
    findBatch x.batch s.retiredTrain.train.records = some x := by
  have whole := splitRetired_append s.keepBehind s.train.records
  have mem : x ∈ (splitRetired s.keepBehind s.train.records).2 := by
    have is := (findBatch_mem here).1
    rw [← whole, List.mem_append] at is
    exact is.resolve_left fun gone => stays (departed_of_mem_splitRetired gone)
  exact findBatch_of_mem (inOrder.nodup (inOrder_splitRetired inTrain)) mem

/-- What a completion has made of the part once the interface is CLEARED, shown in its INTERFACE record and off its
plan, as `g`, ahead of its batch's status (R91). -/
structure Part.passedAs (r : BatchRecord) (g : HeadInterface) (s u : Part) : Prop where
  shown : u.windowHead = some ({ r with head := some g }, g)
  ordered : u.ordered
  gone : liveHeads u.train.records = []
  orders : u.planner.orders = []
  idle : u.planner.incoming = none
  vol : u.vol = s.vol
  written : ∃ rec ∈ u.port.records, rec.stamp = s.vol.arrivalCounter ∧ rec.body = interfaceRecord r g s.det.mix

/-- With no order queued a completion's batch is PRESENT and stays in the train, and no head is live (R4, R15). -/
theorem Part.passedAs.retired {s u : Part} {r : BatchRecord} {g : HeadInterface} (passed : s.passedAs r g u) :
    (u.mapTrain (makePresent r.batch)).retire = (u.mapTrain (makePresent r.batch)).retiredTrain ∧
      findBatch r.batch (u.mapTrain (makePresent r.batch)).retiredTrain.train.records =
        some { r with head := some g, status := .present } ∧
      liveHeads (u.mapTrain (makePresent r.batch)).retiredTrain.train.records = [] := by
  obtain ⟨shown, inTrain, gone, none, -, -, -⟩ := passed
  set p := u.mapTrain (makePresent r.batch) with isP
  have pNone : p.planner.orders = [] := none
  have pOrder : p.ordered := by rwa [Part.ordered, Part.batches, Part.mapTrain_train, makePresent_batches]
  have here : findBatch r.batch p.train.records = some { r with head := some g, status := .present } := by
    obtain ⟨-, is, -⟩ := Part.windowHead_eq_some.mp shown
    rw [isP, Part.mapTrain_train, findBatch_makePresent, is]
    rfl
  have present : liveHeads p.train.records = [] := by
    show liveHeads (makePresent r.batch u.train.records) = []
    rw [makePresent_live (by rw [gone]; nofun), gone]
  exact ⟨Part.retire_kept (fun _ _ _ o mo => by rw [pNone] at mo; cases mo),
    Part.retiredTrain_findBatch (x := { r with head := some g, status := .present }) pOrder here nofun,
    (splitRetired_live (by rw [present]; nofun)).trans present⟩

section
variable {s : Part} {r : BatchRecord} {h : HeadInterface} (found : s.windowHead = some (r, h))
include found

/-- Steps 2 and 3 of R91 write the INTERFACE record, and hand a notice beside it. -/
theorem Part.reportPassage_writes :
    (∃ rec ∈ s.reportPassage.port.records, rec.stamp = s.vol.arrivalCounter ∧
      rec.body = interfaceRecord r h s.det.mix) ∧
    s.reportPassage.train = s.train ∧ s.reportPassage.det = s.det ∧ s.reportPassage.vol = s.vol ∧
      s.reportPassage.planner = s.planner ∧ s.reportPassage.image = s.image := by
  have written : ∃ rec ∈ (s.writeRecord (interfaceRecord r h s.det.mix)).port.records,
      rec.stamp = s.vol.arrivalCounter ∧ rec.body = interfaceRecord r h s.det.mix :=
    ⟨_, List.mem_of_getLast? (s.writeRecord_last _), rfl, rfl⟩
  unfold Part.reportPassage
  rw [found]
  simp only
  split
  · exact ⟨written, rfl, rfl, rfl, rfl, rfl⟩
  · have line := Part.enqueue_line (passageNotice r h (s.det.midStamp.getD 0))
      (s.writeRecord (interfaceRecord r h s.det.mix))
    exact ⟨by rw [line.records]; exact written, line.train, line.det, line.vol, line.planner, line.image⟩

variable (law : s.lawful) (unordered : s.planner.orders = []) (sole : s.soleLive r.batch)
include law unordered sole

/-- The last live interface CLEARED, shown and off its plan (R91, R103). -/
theorem Part.cleared_passed :
    s.passedAs r { h.clear (s.degraded h) with plan := none }
      (((s.modWindow (HeadInterface.clear (s.degraded h))).reportPassage.planStep .trailing).setPlan none) := by
  set g := h.clear (s.degraded h) with isG
  set c := s.modWindow (HeadInterface.clear (s.degraded h)) with isC
  have mark : MarkFrame s c := s.modWindow_mark _
  have cleared : c.windowHead = some ({ r with head := some g }, g) := Part.modWindow_windowHead _ found
  obtain ⟨⟨rec, written, stamp, body⟩, train, det, vol, planner, image⟩ := Part.reportPassage_writes cleared
  have reported : c.reportPassage.windowHead = some ({ r with head := some g }, g) :=
    (Part.windowHead_congr train det).trans cleared
  have none : c.reportPassage.planner.orders = [] :=
    (congrArg Planner.orders (planner.trans mark.planner)).trans unordered
  obtain ⟨stepped, stepVol, stepRecords, stepNone⟩ := Part.planStep_unordered reported none .trailing
  set u := (c.reportPassage.planStep .trailing).setPlan .none with isU
  have unset : MarkFrame (c.reportPassage.planStep .trailing) u := by
    rw [isU, Part.setPlan_eq]
    exact Part.modWindow_mark _ _
  have plan := (Part.planStep_plan .trailing c.reportPassage).trans (Part.setPlan_plan .none _)
  refine ⟨?_, ?_, ?_, (congrArg Planner.orders unset.planner).trans stepNone,
    plan.incoming.trans ((congrArg Planner.incoming (planner.trans mark.planner)).trans law.idle),
    unset.vol.trans (stepVol.trans (vol.trans mark.vol)), rec, ?_, stamp.trans (by rw [mark.vol]), by
      rw [body, mark.mix]
      rfl⟩
  · rw [isU, Part.setPlan_eq, Part.modWindow_windowHead _ stepped]
    rfl
  · rw [Part.ordered, plan.batches, Part.batches, train]
    exact (s.modWindow_order _).ordered law.ordered
  · rw [liveHeads_eq_of_bare plan.bare, train]
    exact law.cleared_none found sole _
  · rwa [congrArg StationPort.records unset.port, stepRecords]

/-- The completion of the last live interface while no order is queued: it is CLEARED and its batch PRESENT, its
INTERFACE record written, and the window empty (R91, R4). -/
theorem Part.complete_shows (mid : h.midError.isSome = true) :
    s.complete.showsCompleted r { h.clear (s.degraded h) with plan := none } s.det.mix ∧
      s.complete.windowHead = none := by
  have passed := Part.cleared_passed found law unordered sole
  set g : HeadInterface := { h.clear (s.degraded h) with plan := none } with isG
  set u := ((s.modWindow (HeadInterface.clear (s.degraded h))).reportPassage.planStep .trailing).setPlan none with isU
  obtain ⟨retires, kept, dead⟩ := passed.retired
  obtain ⟨-, -, -, none, pIdle, vol, rec, written, stamp, body⟩ := passed
  set p := u.mapTrain (makePresent r.batch) with isP
  have whole : (s.completed r h).retire = p.retiredTrain := by
    have late : s.completed r h = p := Part.lateStartFor_filling (s := p) (by
      rw [show p.planner.orders = [] from none]
      nofun)
    rw [late, retires]
  set e := p.retiredTrain.modDet (fun d => { d with midStamp := .none, mix := [] }) with isE
  have hand := Part.handPlanned_outlet_frame e pIdle
  have hold := hand.trans (Part.holdEvent_outlet_frame _ (by rw [hand.planner]; exact pIdle))
  have next : s.complete = ((e.handPlanned).holdEvent).modDet (fun _ => Detector.afterReset) := by
    rw [Part.complete_settled found, Part.settledAfter, whole, Part.nextWindow, hold.train, oldestLive_eq]
    show (match (liveHeads p.retiredTrain.train.records).head?.map LiveHead.batch with
      | some b => _ | .none => _) = _
    rw [dead]
    rfl
  rw [next]
  refine ⟨⟨⟨{ r with head := some g, status := .present }, ?_, rfl, rfl⟩, rfl, rfl, rfl, rec, ?_, ?_, ?_⟩, rfl⟩
  · show findBatch r.batch ((e.handPlanned).holdEvent).train.records = _
    rw [hold.train]
    exact kept
  · show rec ∈ ((e.handPlanned).holdEvent).port.records
    rw [hold.records]
    exact written
  · show rec.stamp = ((e.handPlanned).holdEvent).vol.arrivalCounter
    rw [stamp, hold.vol]
    exact congrArg (·.arrivalCounter) vol.symm
  · obtain ⟨error, is⟩ := Option.isSome_iff_exists.mp mid
    rw [body]
    simp [interfaceRecord, isG, HeadInterface.clear, is]

end

end Sys2Proof.Machine
end

section
/-! SUPPORT. The stages that are due by volume on a head interface, and what they make of it (R84, R88, R90). -/

open Sys2Proof

namespace Sys2Proof.Machine

/-! ## Which stages are due (R84) -/

/-- The leading edge is due by volume. -/
abbrev HeadInterface.leads (h : HeadInterface) : Prop := h.state.waits ∧ h.d ≤ ((h.w / 2 : Nat) : Int)

/-- The midpoint is due by volume. -/
abbrev HeadInterface.crosses (h : HeadInterface) : Prop := (h.leads ∨ h.state = .inMix) ∧ h.d ≤ 0

/-- The trailing edge is due by volume. -/
abbrev HeadInterface.trails (h : HeadInterface) : Prop :=
  (h.crosses ∨ h.state = .pastMid) ∧ h.d ≤ -((h.w / 2 : Nat) : Int)

/-- The interface with the record of a leading edge that is due. -/
def HeadInterface.led (stamp : StageRecord) (h : HeadInterface) : HeadInterface :=
  if h.leads then { h with leadRec := some stamp } else h

/-- The interface with the records of a leading edge and a midpoint that are due. -/
def HeadInterface.crossed (stamp : StageRecord) (h : HeadInterface) : HeadInterface :=
  if h.crosses then { h.led stamp with midRec := some stamp, midError := some h.d } else h.led stamp

section
variable {h : HeadInterface}

theorem HeadState.not_waits_inMix {k : HeadState} (mix : k = .inMix) : ¬ k.waits := by
  rw [mix]
  rintro (is | is) <;> cases is

theorem HeadState.not_waits_pastMid {k : HeadState} (past : k = .pastMid) : ¬ k.waits := by
  rw [past]
  rintro (is | is) <;> cases is

theorem HeadInterface.volumeDue_of_waits (waits : h.state.waits) : h.volumeDue =
    if h.d ≤ ((h.w / 2 : Nat) : Int) then
      .leading :: if h.d ≤ 0 then .midpoint :: if h.d ≤ -((h.w / 2 : Nat) : Int) then [.trailing] else [] else []
    else [] := by
  unfold HeadInterface.volumeDue
  rcases waits with state | state <;> simp only [state]

theorem HeadInterface.volumeDue_of_inMix (state : h.state = .inMix) : h.volumeDue =
    if h.d ≤ 0 then .midpoint :: if h.d ≤ -((h.w / 2 : Nat) : Int) then [.trailing] else [] else [] := by
  unfold HeadInterface.volumeDue
  simp only [state]

theorem HeadInterface.volumeDue_of_pastMid (state : h.state = .pastMid) : h.volumeDue =
    if h.d ≤ -((h.w / 2 : Nat) : Int) then [.trailing] else [] := by
  unfold HeadInterface.volumeDue
  simp only [state]

theorem HeadInterface.volumeDue_none (leads : ¬ h.leads) (crosses : ¬ h.crosses) (trails : ¬ h.trails) :
    h.volumeDue = [] := by
  cases state : h.state with
  | distant => rw [HeadInterface.volumeDue_of_waits (.inl state), if_neg fun near => leads ⟨.inl state, near⟩]
  | armed => rw [HeadInterface.volumeDue_of_waits (.inr state), if_neg fun near => leads ⟨.inr state, near⟩]
  | inMix => rw [HeadInterface.volumeDue_of_inMix state, if_neg fun past => crosses ⟨.inr state, past⟩]
  | pastMid => rw [HeadInterface.volumeDue_of_pastMid state, if_neg fun far => trails ⟨.inr state, far⟩]
  | cleared =>
    unfold HeadInterface.volumeDue
    simp only [state]

theorem HeadInterface.volumeDue_leading (leads : h.leads) (crosses : ¬ h.crosses) : h.volumeDue = [.leading] := by
  rw [HeadInterface.volumeDue_of_waits leads.1, if_pos leads.2, if_neg fun past => crosses ⟨.inl leads, past⟩]

theorem HeadInterface.volumeDue_midpoint (crosses : h.crosses) (trails : ¬ h.trails) :
    h.volumeDue = if h.leads then [.leading, .midpoint] else [.midpoint] := by
  have before : ¬ h.d ≤ -((h.w / 2 : Nat) : Int) := fun far => trails ⟨.inl crosses, far⟩
  obtain ⟨leads | state, past⟩ := crosses
  · rw [if_pos leads, HeadInterface.volumeDue_of_waits leads.1, if_pos leads.2, if_pos past, if_neg before]
  · rw [if_neg fun leads => HeadState.not_waits_inMix state leads.1, HeadInterface.volumeDue_of_inMix state,
      if_pos past, if_neg before]

theorem HeadInterface.volumeDue_trailing (trails : h.trails) :
    h.volumeDue = if h.leads then [.leading, .midpoint, .trailing]
      else if h.crosses then [.midpoint, .trailing] else [.trailing] := by
  obtain ⟨⟨leads | state, past⟩ | state, far⟩ := trails
  · rw [if_pos leads, HeadInterface.volumeDue_of_waits leads.1, if_pos leads.2, if_pos past, if_pos far]
  · rw [if_neg fun leads => HeadState.not_waits_inMix state leads.1, if_pos ⟨.inr state, past⟩,
      HeadInterface.volumeDue_of_inMix state, if_pos past, if_pos far]
  · have still : ¬ h.leads := fun leads => HeadState.not_waits_pastMid state leads.1
    rw [if_neg still, if_neg (fun crosses => crosses.1.elim still fun mix => by rw [mix] at state; cases state),
      HeadInterface.volumeDue_of_pastMid state, if_pos far]

/-! ## What they make of it (R88) -/

variable (stamp : StageRecord)

theorem HeadInterface.led_of_leads (leads : h.leads) : h.led stamp = { h with leadRec := some stamp } := if_pos leads

theorem HeadInterface.led_of_not (leads : ¬ h.leads) : h.led stamp = h := if_neg leads

theorem HeadInterface.crossed_of_crosses (crosses : h.crosses) :
    h.crossed stamp = { h.led stamp with midRec := some stamp, midError := some h.d } := if_pos crosses

/-- A stage by volume or late sets no EARLY. -/
theorem HeadInterface.take_leading {m : Method} (method : m ≠ .analyser) :
    h.take m stamp .leading = { h with state := .inMix, leadRec := some stamp } := by
  simp [HeadInterface.take, method]

theorem HeadInterface.taking_leading (leads : h.leads) :
    h.taking .volume stamp [.leading] = { h.led stamp with state := .inMix } := by
  rw [HeadInterface.led_of_leads stamp leads]
  exact HeadInterface.take_leading stamp nofun

theorem HeadInterface.taking_midpoint (crosses : h.crosses) :
    h.taking .volume stamp (if h.leads then [.leading, .midpoint] else [.midpoint]) =
      { h.crossed stamp with state := .pastMid } := by
  rw [HeadInterface.crossed_of_crosses stamp crosses]
  by_cases leads : h.leads
  · rw [if_pos leads, HeadInterface.led_of_leads stamp leads]
    show (h.take .volume stamp .leading).take .volume stamp .midpoint = _
    rw [HeadInterface.take_leading (m := .volume) stamp nofun]
    rfl
  · rw [if_neg leads, HeadInterface.led_of_not stamp leads]
    rfl

theorem HeadInterface.taking_trailing (trails : h.trails) :
    h.taking .volume stamp h.volumeDue = { h.crossed stamp with state := .pastMid, trailRec := some stamp } := by
  have split (stages : List Stage) : h.taking .volume stamp (stages ++ [.trailing]) =
      { h.taking .volume stamp stages with trailRec := some stamp } := by
    rw [HeadInterface.taking, List.foldl_append]
    rfl
  rw [HeadInterface.volumeDue_trailing trails]
  by_cases crosses : h.crosses
  · rw [show (if h.leads then [Stage.leading, .midpoint, .trailing]
        else if h.crosses then [.midpoint, .trailing] else [.trailing]) =
      (if h.leads then [.leading, .midpoint] else [.midpoint]) ++ [.trailing] by
        rw [if_pos crosses]; split <;> rfl, split, HeadInterface.taking_midpoint stamp crosses]
  · have leads : ¬ h.leads := fun leads => crosses ⟨.inl leads, by
      have := trails.2
      omega⟩
    have state : h.state = .pastMid := trails.1.resolve_left crosses
    rw [if_neg leads, if_neg crosses, HeadInterface.crossed, if_neg crosses,
      HeadInterface.led_of_not stamp leads, ← state]
    rfl

/-- An interface that is completed without an analyser's trailing edge is measured at its predicted width (R90). -/
theorem HeadInterface.clear_unmeasured (rec_ : h.trailRec = some stamp) (method : stamp.method ≠ .analyser)
    (degraded : Bool) : h.clear degraded =
      { h with state := .cleared, measuredWidth := some h.w, degradedMark := some degraded } := by
  have width : h.widthMeasured = h.w := by
    unfold HeadInterface.widthMeasured
    rw [rec_]
    cases h.leadRec <;> simp [method]
  rw [HeadInterface.clear, width]

end

end Sys2Proof.Machine
end

section
/-! SUPPORT. A step by volume or late that completes the last live interface while no order is queued and no launch cut
waits (R90, R91). -/

open Sys2Proof

namespace Sys2Proof.Machine

/-! ## What stages leave of an interface and of the part (R66, R88) -/

theorem HeadInterface.taking_place (m : Method) (stamp : StageRecord) (stages : List Stage) (h : HeadInterface) :
    (h.taking m stamp stages).place = h.place := by
  induction stages generalizing h with
  | nil => rfl
  | cons g rest ih => exact (ih _).trans (h.take_lies m stamp g).1

/-- Whether an interface that is not CLEARED is DEGRADED goes by how it lies, the configuration and the peer table. -/
theorem Part.degraded_congr {s t : Part} {g h : HeadInterface} (place : g.place = h.place) (awake : h.state ≠ .cleared)
    (stays : g.state ≠ .cleared) (image : t.image = s.image) (table : t.peer.table = s.peer.table) :
    t.degraded g = s.degraded h := by
  obtain ⟨-, d, -, -, mark⟩ := HeadInterface.place_inj place
  have cfg : t.cfg = s.cfg := by rw [Part.cfg, image]; rfl
  rw [Part.degraded, Part.degraded, decide_eq_true awake, decide_eq_true stays, cfg, table, d, mark]

section
variable {s : Part} {r : BatchRecord} {h : HeadInterface} (law : s.lawful) (found : s.windowHead = some (r, h))
include law found

/-- A window interface that is PAST_MID has the error of its midpoint (R81, R88). -/
theorem Part.lawful.midError (state : h.state = .pastMid) : h.midError.isSome = true := by
  obtain ⟨-, here, head⟩ := Part.windowHead_eq_some.mp found
  obtain ⟨-, -, -, mid⟩ := law.window
  have kept := mid r (findBatch_mem here).1
  simpa [BatchRecord.midKept, head, state] using kept

variable (unordered : s.planner.orders = [])
include unordered

/-- A step by volume or late with a trailing edge completes the last live interface, which is measured at its predicted
width (R90, R91). -/
theorem Part.takeStages_completes (sole : s.soleLive r.batch) {m : Method} (method : m ≠ .analyser)
    {stages : List Stage} (last : stages.getLast? = some .trailing) {k : HeadInterface}
    (taken : h.taking m (s.stageRecord m) stages = { k with state := .pastMid, trailRec := some (s.stageRecord m) }) :
    (s.takeStages m stages).showsCompleted r
        { k with state := .cleared, trailRec := some (s.stageRecord m), plan := none, measuredWidth := some h.w,
                 degradedMark := some (s.degraded h) } s.det.mix ∧
      (s.takeStages m stages).windowHead = none := by
  have mark := s.foldl_takeStage_mark m stages
  have still := law.stagesTaken m stages
  have head := Part.foldl_takeStage_windowHead found m stages
  have none := (congrArg Planner.orders mark.planner).trans unordered
  have place := h.taking_place m (s.stageRecord m) stages
  have degraded := Part.degraded_congr place (law.awake found) (still.awake head) mark.image
    (congrArg PeerMonitor.table mark.peer)
  obtain ⟨-, -, width, -, -⟩ := HeadInterface.place_inj place
  have alone := sole.takeStages (Part.windowHead_eq_some.mp found).1 m stages
  have completes : s.takeStages m stages = (stages.foldl (Part.takeStage m) s).complete := by
    simp only [Part.takeStages, last]
  rw [completes]
  have ⟨shows, gone⟩ := Part.complete_shows head still none alone (still.midError head (by rw [taken]))
  rw [degraded, HeadInterface.clear_unmeasured (s.stageRecord m) (by rw [taken]) method, mark.mix, taken] at shows
  rw [taken] at width
  rw [← width]
  exact ⟨shows, gone⟩

end

end Sys2Proof.Machine
end

section
/-! SUPPORT. What an evaluation of a window interface, with no order queued and no launch cut that waits, shows of a
hand-off for an event of R67 (R66, R84, R85, R86). -/

open Sys2Proof

namespace Sys2Proof.Machine

/-! ## An evaluation, case by case (R84 to R86) -/

section
variable {s : Part} {r : BatchRecord} {h : HeadInterface} (found : s.windowHead = some (r, h)) (n : Nat) (waited : Bool)
include found

theorem Part.evaluateWith_held (volume : h.channel = some .volume) (held : s.degraded h = true) :
    s.evaluateWith (n + 1) waited = if s.past h then s.markOverdue false h else s := by
  simp only [Part.evaluateWith, found, volume, held, if_true]

theorem Part.evaluateWith_volume (volume : h.channel = some .volume) (free : s.degraded h = false) :
    s.evaluateWith (n + 1) waited =
      if h.volumeDue.contains .trailing then Part.evaluateWith n false (s.takeStages .volume h.volumeDue)
      else s.takeStages .volume h.volumeDue := by
  simp only [Part.evaluateWith, found, volume, free, Bool.false_eq_true, if_false]

variable (analyser : h.channel = some .density ∨ h.channel = some .marker)
include analyser

theorem Part.evaluateWith_analyser : s.evaluateWith (n + 1) waited =
    if h.state.waits ∧ s.past h = true then
      if s.degraded h then s.markOverdue (waited && !s.degraded h) h
      else Part.evaluateWith n false
        ((s.markOverdue (waited && !s.degraded h) h).takeStages .late [.leading, .midpoint, .trailing])
    else s := by
  rcases analyser with channel | channel <;> simp only [Part.evaluateWith, found, channel]

end

/-! ## OVERDUE (R86) -/

section
variable {s : Part} {r : BatchRecord} {h : HeadInterface} (found : s.windowHead = some (r, h))

/-- An interface found overdue: what is left of the part but its mark and INTERFACE_OVERDUE (R86). -/
theorem Part.markOverdue_frame (h : HeadInterface) (s : Part) : (s.markOverdue false h).vol = s.vol ∧
    (s.markOverdue false h).planner = s.planner ∧ (s.markOverdue false h).peer.table = s.peer.table ∧
    (s.markOverdue false h).image = s.image ∧ (s.markOverdue false h).det.mix = s.det.mix ∧
    (s.markOverdue false h).train = (s.modWindow (fun x => { x with overdue := true })).train := by
  have mark := s.modWindow_mark (fun x => { x with overdue := true })
  have line := Part.raiseIf_line (!h.overdue || false) .interfaceOverdue
    (s.modWindow (fun x => { x with overdue := true }))
  exact ⟨line.vol.trans mark.vol, line.planner.trans mark.planner,
    line.table.trans (congrArg PeerMonitor.table mark.peer), line.image.trans mark.image,
    (congrArg Detector.mix line.det).trans mark.mix, line.train⟩

theorem Part.markOverdue_alarm (h : HeadInterface) (s : Part) :
    (s.markOverdue false h).port.alarmSet .interfaceOverdue = (s.port.alarmSet .interfaceOverdue || !h.overdue) := by
  have port := s.modWindow_port (fun x => { x with overdue := true })
  unfold Part.markOverdue
  cases h.overdue
  · show ((s.modWindow _).port.raise .interfaceOverdue).alarmSet .interfaceOverdue = _
    rw [port, StationPort.raise_alarmSet]
    rfl
  · show (s.modWindow _).port.alarmSet .interfaceOverdue = _
    rw [port, Bool.not_true, Bool.or_false]

include found

/-- A window on the VOLUME channel is OVERDUE below −A while DEGRADED, and takes no stage (R66, R86). -/
theorem Part.evaluateWith_shows_held (n : Nat) (waited : Bool) (volume : h.channel = some .volume)
    (held : s.degraded h = true) :
    (s.evaluateWith (n + 1) waited).showsWindow r.batch { h with overdue := h.overdue || s.past h } ∧
      (s.evaluateWith (n + 1) waited).port.alarmSet .interfaceOverdue =
        (s.port.alarmSet .interfaceOverdue || (!h.overdue && s.past h)) := by
  rw [Part.evaluateWith_held found n waited volume held]
  cases s.past h with
  | false =>
    rw [Bool.or_false, Bool.and_false, Bool.or_false]
    exact ⟨⟨r, found, rfl⟩, rfl⟩
  | true =>
    rw [Bool.or_true, Bool.and_true]
    exact ⟨⟨_, Part.markOverdue_windowHead false h found, rfl⟩, s.markOverdue_alarm h⟩

variable (law : s.lawful) (unordered : s.planner.orders = [])
include law unordered

/-! ## Stages by volume (R84) -/

section
variable (n : Nat) (waited : Bool) (volume : h.channel = some .volume) (free : s.degraded h = false)
include volume free

omit law unordered in
theorem Part.evaluateWith_shows_none (leads : ¬ h.leads) (crosses : ¬ h.crosses) (trails : ¬ h.trails) :
    s.evaluateWith (n + 1) waited = s := by
  rw [Part.evaluateWith_volume found n waited volume free, HeadInterface.volumeDue_none leads crosses trails]
  rfl

theorem Part.evaluateWith_shows_leading (leads : h.leads) (crosses : ¬ h.crosses) :
    (s.evaluateWith (n + 1) waited).showsWindow r.batch
      { h.led (s.stageRecord .volume) with
        state := .inMix, plan := h.plan.map (fun q => { q with frozen := true }) } := by
  have ⟨shows, _⟩ := Part.takeStages_shows found unordered law.idle .volume (stages := [.leading]) (g := .leading)
    rfl nofun
  rw [Part.evaluateWith_volume found n waited volume free, HeadInterface.volumeDue_leading leads crosses]
  rw [HeadInterface.taking_leading _ leads, HeadInterface.led_of_leads _ leads] at shows
  rw [HeadInterface.led_of_leads _ leads]
  exact shows

theorem Part.evaluateWith_shows_midpoint (crosses : h.crosses) (trails : ¬ h.trails) :
    (s.evaluateWith (n + 1) waited).showsWindow r.batch
        { h.crossed (s.stageRecord .volume) with
          state := .pastMid, plan := h.plan.map (fun q => { q with frozen := true }) } ∧
      (s.evaluateWith (n + 1) waited).det.midStamp = some s.vol.trunkCounter := by
  set stages : List Stage := if h.leads then [.leading, .midpoint] else [.midpoint] with isStages
  have last : stages.getLast? = some .midpoint := by rw [isStages]; split <;> rfl
  have cut : stages.contains .trailing = false := by rw [isStages]; split <;> rfl
  have stamped : (stages.foldl (Part.takeStage .volume) s).det.midStamp = some s.vol.trunkCounter := by
    rw [isStages]
    split
    · show some (s.takeStage .volume .leading).vol.trunkCounter = _
      rw [(s.takeStage_mark .volume .leading).vol]
    · rfl
  have ⟨shows, det⟩ := Part.takeStages_shows found unordered law.idle .volume last nofun
  have plan : (h.crossed (s.stageRecord .volume)).plan = h.plan := by
    unfold HeadInterface.crossed HeadInterface.led
    split <;> split <;> rfl
  rw [Part.evaluateWith_volume found n waited volume free, HeadInterface.volumeDue_midpoint crosses trails,
    ← isStages, cut, if_neg Bool.false_ne_true, det, stamped]
  rw [isStages, HeadInterface.taking_midpoint _ crosses, HeadInterface.freeze] at shows
  rw [← plan]
  exact ⟨shows, rfl⟩

theorem Part.evaluateWith_shows_trailing (trails : h.trails) (sole : s.soleLive r.batch) :
    (s.evaluateWith (n + 1) waited).showsCompleted r
      { h.crossed (s.stageRecord .volume) with
        state := .cleared, trailRec := some (s.stageRecord .volume), plan := none, measuredWidth := some h.w,
        degradedMark := some false } s.det.mix := by
  have last : h.volumeDue.getLast? = some .trailing := by
    rw [HeadInterface.volumeDue_trailing trails]
    split
    · rfl
    · split <;> rfl
  have due : h.volumeDue.contains .trailing = true := List.contains_iff_mem.mpr (List.mem_of_getLast? last)
  have ⟨shows, gone⟩ := Part.takeStages_completes law found unordered sole (m := .volume) nofun last
    (HeadInterface.taking_trailing _ trails)
  rw [Part.evaluateWith_volume found n waited volume free, if_pos due, Part.evaluateWith_empty gone, ← free]
  exact shows

end

/-! ## The late cut (R86) -/

/-- An interface found overdue on an analyser while it is not DEGRADED takes its stages late, and is completed where no
other head is live (R86, R91). -/
theorem Part.late_shows (free : s.degraded h = false) (sole : s.soleLive r.batch) (n : Nat) :
    (Part.evaluateWith n false
          ((s.markOverdue false h).takeStages .late [.leading, .midpoint, .trailing])).showsCompleted r
        { h with
          state := .cleared, overdue := true, leadRec := some (s.stageRecord .late),
          midRec := some (s.stageRecord .late), midError := some h.d, trailRec := some (s.stageRecord .late),
          plan := none, measuredWidth := some h.w, degradedMark := some false } s.det.mix ∧
      (Part.evaluateWith n false
          ((s.markOverdue false h).takeStages .late [.leading, .midpoint, .trailing])).port.alarmSet .interfaceOverdue =
        (s.port.alarmSet .interfaceOverdue || !h.overdue) := by
  obtain ⟨vol, planner, table, image, mix, train⟩ := s.markOverdue_frame h
  have marked := Part.markOverdue_windowHead false h found
  have alarm := s.markOverdue_alarm h
  have calm : Alarm.interfaceOverdue.calm := ⟨nofun, nofun, nofun, nofun⟩
  have overdue : (s.markOverdue false h).lawful := law.next (s.markOverdue_live false h).law
    (congrArg Planner.incoming planner)
  set u := s.markOverdue false h with isU
  have stamp : u.stageRecord .late = s.stageRecord .late := by rw [Part.stageRecord, vol]; rfl
  have alone : u.soleLive r.batch := by
    have away := sole.modWindow (Part.windowHead_eq_some.mp found).1 (fun x => { x with overdue := true })
    exact fun x mem => away x (train ▸ mem)
  have still : u.degraded { h with overdue := true } = false :=
    (Part.degraded_congr (h := h) rfl (law.awake found) (law.awake found) image table).trans free
  have ⟨shows, gone⟩ := Part.takeStages_completes overdue marked ((congrArg Planner.orders planner).trans unordered)
    (r := { r with head := some { h with overdue := true } }) alone (m := .late) nofun
    (stages := [.leading, .midpoint, .trailing]) rfl
    (k := { h with overdue := true, leadRec := some (u.stageRecord .late), midRec := some (u.stageRecord .late),
                   midError := some h.d }) (by
      show ((({ h with overdue := true } : HeadInterface).take .late (u.stageRecord .late) .leading).take .late _
        .midpoint).take .late _ .trailing = _
      rw [HeadInterface.take_leading (m := .late) _ nofun]
      rfl)
  rw [still, stamp, mix] at shows
  rw [Part.evaluateWith_empty gone]
  exact ⟨shows, Eq.trans (Part.takeStages_alarm calm .late _ u) alarm⟩

/-- An evaluation shows the window interface handed on, where one that was waiting overdue is still DEGRADED. -/
theorem Part.evaluateWith_handedOn (n : Nat) {waited : Bool} (held : waited = true → s.degraded h = true) :
    s.handedOn r h (s.evaluateWith (n + 1) waited) := by
  have same : (s.evaluateWith (n + 1) waited).degraded h = s.degraded h :=
    Part.degraded_congr rfl (law.awake found) (law.awake found) (s.evaluateWith_stage _ _).image
      (s.evaluateWith_stage _ _).table
  have quiet : (waited && !s.degraded h) = false := by
    cases waited with
    | false => rfl
    | true => rw [held rfl]; rfl
  have analyser (channel : h.channel = some .density ∨ h.channel = some .marker) :=
    Part.evaluateWith_analyser found n waited channel
  rw [quiet] at analyser
  refine ⟨fun volume degraded => Part.evaluateWith_shows_held found n waited volume (same ▸ degraded),
    fun volume degraded => ?_, fun channel not => ?_, fun channel waits past => ?_⟩
  · have free := same ▸ degraded
    refine ⟨fun leads crosses trails => ?_, fun leads crosses =>
      Part.evaluateWith_shows_leading found law unordered n waited volume free leads crosses, fun crosses trails =>
      Part.evaluateWith_shows_midpoint found law unordered n waited volume free crosses trails, fun trails sole =>
      Part.evaluateWith_shows_trailing found law unordered n waited volume free trails sole⟩
    rw [Part.evaluateWith_shows_none found n waited volume free leads crosses trails]
    exact ⟨rfl, rfl⟩
  · rw [analyser channel, if_neg fun is => not ⟨is.1, of_decide_eq_true is.2⟩]
    exact ⟨rfl, rfl⟩
  · have far : s.past h = true := decide_eq_true past
    have alarms : ∀ e : Part, e.port.alarmSet .interfaceOverdue = (s.port.alarmSet .interfaceOverdue || !h.overdue) →
        e.port.alarmSet .interfaceOverdue = (s.port.alarmSet .interfaceOverdue || (!h.overdue && s.past h)) :=
      fun e is => by rw [is, far, Bool.and_true]
    rw [same, analyser channel, if_pos ⟨waits, far⟩]
    cases degraded : s.degraded h with
    | true =>
      exact ⟨fun _ => ⟨_, Part.markOverdue_windowHead false h found, rfl⟩, nofun,
        fun _ => alarms _ (s.markOverdue_alarm h)⟩
    | false =>
      exact ⟨nofun, fun _ sole => (Part.late_shows found law unordered degraded sole n).1, fun sole =>
        alarms _ (Part.late_shows found law unordered degraded sole n).2⟩

end

end Sys2Proof.Machine
end

section
/-! SUPPORT. The window interface handed to the detector for an event of R67 (R66, R85), with what the event has changed
before the hand-off and what follows it; and the entries of the peer table (R155). -/

open Sys2Proof

namespace Sys2Proof.Machine

/-! ## The peer table (R155) -/

theorem findPeer_updatePeer {n : Nat} {f : PeerEntry → PeerEntry} (same : ∀ e, (f e).station = e.station)
    (table : List PeerEntry) : findPeer n (updatePeer n f table) = (findPeer n table).map f := by
  induction table with
  | nil => rfl
  | cons e rest ih =>
    unfold findPeer updatePeer at ih ⊢
    rw [List.map_cons, List.find?_cons, List.find?_cons]
    by_cases here : e.station = n
    · simp [here, same]
    · simp [here, ih]

/-! ## What may change around a hand-off -/

/-- `t` has the train, the detector, the counters, the image and INTERFACE_OVERDUE of `s`. -/
structure HandFrame (s t : Part) : Prop where
  train : t.train = s.train
  det : t.det = s.det
  vol : t.vol = s.vol
  image : t.image = s.image
  overdue : SameAlarm .interfaceOverdue s t

theorem HandFrame.trans {s t u : Part} (h : HandFrame s t) (k : HandFrame t u) : HandFrame s u :=
  ⟨k.train.trans h.train, k.det.trans h.det, k.vol.trans h.vol, k.image.trans h.image, h.overdue.trans k.overdue⟩

theorem LineFrame.hand {s t : Part} (line : LineFrame s t) (overdue : SameAlarm .interfaceOverdue s t) :
    HandFrame s t := ⟨line.train, line.det, line.vol, line.image, overdue⟩

section
variable {r : BatchRecord} {h : HeadInterface} {s t u : Part}

/-- What an event has changed before its hand-off is not told by it. -/
theorem HandFrame.before (frame : HandFrame s u) (handed : u.handedOn r h t) : s.handedOn r h t := by
  obtain ⟨train, det, vol, image, overdue⟩ := frame
  have cfg : u.cfg = s.cfg := by rw [Part.cfg, image]; rfl
  simp only [SameAlarm] at overdue
  simp only [Part.handedOn, Part.soleLive, train, det, vol, cfg, overdue] at handed ⊢
  exact handed

/-- What follows a hand-off and reaches neither the interface nor the peers' silence leaves what it shows. -/
theorem Part.handedOn.then (handed : s.handedOn r h t) (frame : HandFrame t u)
    (records : u.port.records = t.port.records) (degraded : u.degraded h = t.degraded h) : s.handedOn r h u := by
  obtain ⟨train, det, vol, -, overdue⟩ := frame
  have window : u.windowHead = t.windowHead := Part.windowHead_congr train det
  simp only [SameAlarm] at overdue
  simp only [Part.handedOn, Part.showsWindow, Part.showsCompleted, train, det, vol, window, overdue, records, degraded]
    at handed ⊢
  exact handed

/-- Below −A an interface is past every peer that lies below own chainage, so that only RESTART_MARK leaves it DEGRADED
(R61, R66). -/
theorem Part.degraded_of_past {before : Part} (past : before.past h = true) (held : before.degraded h = true)
    (u : Part) : u.degraded h = true := by
  have behind : h.d < 0 := by
    have := of_decide_eq_true past
    omega
  have clear : before.peer.table.any (silentBetween before.cfg h.d) = false := by
    refine List.any_eq_false.mpr fun e _ between => ?_
    obtain ⟨⟨-, ahead⟩, below⟩ : (_ ∧ (before.cfg.chainage : Int) - h.d < e.chainage) ∧
        e.chainage < before.cfg.chainage := by
      simpa [silentBetween] using between
    omega
  rw [Part.degraded, clear, Bool.or_false, Bool.and_eq_true] at held
  rw [Part.degraded, held.1, held.2]
  rfl

theorem Part.windowAlone.lawful (alone : s.windowAlone r h) : s.lawful := by
  obtain ⟨train, -, window, idle, -, -⟩ := alone
  exact train.lawful window idle

theorem Part.lawful.congr (law : s.lawful) (train : u.train = s.train) (det : u.det = s.det)
    (planner : u.planner = s.planner) : u.lawful := by
  refine ⟨?_, ?_, (congrArg Planner.incoming planner).trans law.idle⟩
  · rw [Part.ordered, Part.batches, train]
    exact law.ordered
  · rw [Part.windowLaw, train, det]
    exact law.window

/-- A hand-off for an event of R67 that leaves the interface unchanged (R85). -/
theorem Part.handOffReleased_handedOn {before : Part} (alone : s.windowAlone r h) (frame : HandFrame s u)
    (planner : u.planner = s.planner) (train : before.train = s.train) (det : before.det = s.det) :
    s.handedOn r h (Part.handOffReleased before u) := by
  have law := alone.lawful.congr frame.train frame.det planner
  obtain ⟨-, -, -, -, unordered, found⟩ := alone
  refine frame.before (Part.evaluateWith_handedOn ((Part.windowHead_congr frame.train frame.det).trans found) law
    ((congrArg Planner.orders planner).trans unordered) _ fun waited => ?_)
  rw [Part.waitsOverdue, Part.windowHead_congr train det, found] at waited
  obtain ⟨held, past⟩ := Bool.and_eq_true_iff.mp waited
  exact Part.degraded_of_past past held u

end

end Sys2Proof.Machine
end

section
/-! PROOF. O48: the timers of the peer monitor (R156, R158, R164). -/

open Sys2Proof

namespace Sys2Proof.Machine

section
variable {s : Part}

/-! ## The next STATUS (R141, R158) -/

/-- A STATUS takes the place of the one queued, whose age stays (R141). -/
theorem Part.enqueue_replaces {n : Notice} (status : n.cls = 3) {older newer : List Queued} {x : Queued}
    (outbound : s.bus.outbound = older ++ x :: newer) (is : x.ofClass 3 = true)
    (only : ∀ y ∈ older ++ newer, y.ofClass 3 = false) :
    (s.enqueue n).bus.outbound = older ++ { x with notice := n } :: newer := by
  have queued : s.bus.outbound.any (Queued.ofClass 3) = true :=
    List.any_eq_true.mpr ⟨x, by rw [outbound]; exact List.mem_append_right _ (List.mem_cons_self ..), is⟩
  have kept (l : List Queued) (none : ∀ y ∈ l, y.ofClass 3 = false) :
      l.map (fun e => if e.ofClass 3 then { e with notice := n } else e) = l :=
    (List.map_congr_left fun y mem => by rw [none y mem]; rfl).trans l.map_id
  rw [Part.enqueue, if_pos ⟨status, queued⟩]
  show replaceStatus n s.bus.outbound = _
  rw [outbound, replaceStatus, List.map_append, List.map_cons, if_pos is,
    kept older fun y mem => only y (List.mem_append_left _ mem),
    kept newer fun y mem => only y (List.mem_append_right _ mem)]

/-- A STATUS joins a queue that holds none, while the transmit buffer is taken (R141, R144). -/
theorem Part.enqueue_joins {n : Notice} (taken : s.bus.buffer.isSome = true)
    (none : ∀ y ∈ s.bus.outbound, y.ofClass 3 = false) (room : s.bus.outbound.length < 32) :
    (s.enqueue n).bus.outbound = s.bus.outbound ++ [{ notice := n, joined := s.now }] := by
  obtain ⟨b, buffer⟩ := Option.isSome_iff_exists.mp taken
  have absent : ¬ (n.cls = 3 ∧ s.bus.outbound.any (Queued.ofClass 3) = true) := fun queued => by
    obtain ⟨y, mem, is⟩ := List.any_eq_true.mp queued.2
    rw [none y mem] at is
    cases is
  rw [Part.enqueue, if_neg absent, if_pos room]
  simp only [Part.joinOutbound, Part.arbitrate, buffer]

theorem Part.statusDue_due {due : Nat} (next : s.peer.nextStatus = some due) (now : due ≤ s.now) :
    s.statusDue = (s.modPeer (fun p =>
      { p with nextStatus := some (due + s.cfg.statusInterval * bitsPerSecond) })).enqueue s.statusNotice := by
  rw [Part.statusDue, next]
  exact Part.whenDue_due _ now

/-- A STATUS due: the moment of the next, and its notice in the outbound queue (R158, R141). -/
theorem Part.statusDue_shows {due : Nat} (next : s.peer.nextStatus = some due) (now : due ≤ s.now)
    (taken : s.bus.buffer.isSome = true) :
    s.statusDue.peer.nextStatus = some (due + s.cfg.statusInterval * bitsPerSecond) ∧
      (∀ older x newer, s.bus.outbound = older ++ x :: newer → x.ofClass 3 = true →
        (∀ y ∈ older ++ newer, y.ofClass 3 = false) →
        s.statusDue.bus.outbound = older ++ { x with notice := s.statusNotice } :: newer) ∧
      ((∀ y ∈ s.bus.outbound, y.ofClass 3 = false) → s.bus.outbound.length < 32 →
        s.statusDue.bus.outbound = s.bus.outbound ++ [{ notice := s.statusNotice, joined := s.now }]) := by
  rw [Part.statusDue_due next now]
  exact ⟨(Part.enqueue_line _ _).nextStatus, fun older x newer outbound is only =>
    Part.enqueue_replaces rfl outbound is only, fun none room => Part.enqueue_joins taken none room⟩

theorem Part.statusDue_early {due : Nat} (next : s.peer.nextStatus = some due) (early : s.now < due) :
    s.statusDue = s := by
  rw [Part.statusDue, next]
  exact Part.whenDue_early _ early

/-! ## Silence (R156) -/

/-- The part as a peer's silence has expired, before the hand-off (R156). -/
def Part.silenced (station : Nat) (s : Part) : Part :=
  (s.modEntry station (fun e => { e with silent := true, expiry := none })).raise .peerSilent

theorem Part.silenced_hand (station : Nat) (s : Part) : HandFrame s (s.silenced station) :=
  ⟨rfl, rfl, rfl, rfl, Part.raise_alarm (a := .interfaceOverdue) (b := .peerSilent) nofun
    (s.modEntry station fun e => { e with silent := true, expiry := none })⟩

section
variable {station : Nat} {e : PeerEntry} (found : findPeer station s.peer.table = some e)
include found

theorem Part.silenceExpired_none (off : e.expiry = none) : s.silenceExpired station = s := by
  simp only [Part.silenceExpired, found, Option.bind_some, off]

theorem Part.silenceExpired_early {moment : Nat} (expiry : e.expiry = some moment) (early : s.now < moment) :
    s.silenceExpired station = s := by
  simp only [Part.silenceExpired, found, Option.bind_some, expiry, Part.whenDue_early _ early]

theorem Part.silenceExpired_due {moment : Nat} (expiry : e.expiry = some moment) (now : moment ≤ s.now) :
    s.silenceExpired station = Part.handOffReleased s (s.silenced station) := by
  simp only [Part.silenceExpired, found, Option.bind_some, expiry, Part.whenDue_due _ now]
  rfl

/-- A silence expiry: its peer SILENT, with its alarm, and the window interface handed on (R156, R67). -/
theorem Part.silenceExpired_shows {moment : Nat} (expiry : e.expiry = some moment) (now : moment ≤ s.now) :
    findPeer station (s.silenceExpired station).peer.table = some { e with silent := true, expiry := none } ∧
      (s.silenceExpired station).port.alarmSet .peerSilent = true ∧
      ∀ r h, s.windowAlone r h → s.handedOn r h (s.silenceExpired station) := by
  have stage := Part.handOffReleased_stage s (s.silenced station)
  rw [Part.silenceExpired_due found expiry now]
  refine ⟨?_, stage.alarms _ (by simp [Part.silenced]), fun r h alone =>
    Part.handOffReleased_handedOn alone (Part.silenced_hand station s) rfl rfl rfl⟩
  rw [stage.table]
  show findPeer station (updatePeer station _ s.peer.table) = _
  rw [findPeer_updatePeer (by intro; rfl), found]
  rfl

end

/-! ## The sync timer (R164) -/

theorem Part.syncExpired_idle (off : s.peer.phase.expiry? = none) : s.syncExpired = s := by
  rw [Part.syncExpired, off]

theorem Part.syncExpired_early {moment : Nat} (phase : s.peer.phase.expiry? = some moment) (early : s.now < moment) :
    s.syncExpired = s := by
  rw [Part.syncExpired, phase]
  exact Part.whenDue_early _ early

theorem Part.syncExpired_due {moment : Nat} (phase : s.peer.phase.expiry? = some moment) (now : moment ≤ s.now) :
    s.syncExpired = s.failSync .timeout := by
  rw [Part.syncExpired, phase]
  exact Part.whenDue_due _ now

theorem SyncPhase.expiry_of_runs {p : SyncPhase} {moment : Nat} (runs : p = .awaiting moment ∨ p = .receiving moment) :
    p.expiry? = some moment := by
  rcases runs with rfl | rfl <;> rfl

theorem SyncPhase.expiry_of_stopped {p : SyncPhase} (stopped : p = .idle ∨ p = .waitingSent) : p.expiry? = none := by
  rcases stopped with rfl | rfl <;> rfl

/-- No block tells the time. -/
theorem Block.same_elapse (b : Block) {t : Part} {dt : Nat} : b.same (s.elapse dt) t ↔ b.same s t := by
  cases b <;> rfl

/-- The end of a sync leaves the other blocks. -/
theorem Part.failSync_blocks (reason : SyncFailure) (b : Block) (peers : b ≠ .peers) (alarms : b ≠ .alarms) :
    b.same s (s.failSync reason) := by
  cases b with
  | peers => exact absurd rfl peers
  | alarms => exact absurd rfl alarms
  | orders | routes => exact ⟨rfl, rfl⟩
  | records => exact ⟨rfl, rfl, rfl⟩
  | launches => exact ⟨rfl, rfl, rfl, rfl⟩
  | instruments | counters | tally | train | detector | guards | bus | image => rfl

end

end Sys2Proof.Machine

open Sys2Proof.Machine

/-- Settles O48, timer by timer: each is an expiry `whenDue`, and the silence expiry's hand-off is
`Part.handOffReleased_handedOn`. -/
theorem peerMonitorTimersExpire : Obligations.PeerMonitorTimersExpire := by
  intro s dt run
  have runs (f : Part → Part) : s.run dt (Part.whileRunning f) = .next { s with part := f (s.part.elapse dt) } :=
    State.run_running dt run
  have idles {f : Part → Part} (still : f (s.part.elapse dt) = s.part.elapse dt) :
      s.run dt (Part.whileRunning f) = .next { s with part := s.part.elapse dt } := by rw [runs, still]
  refine ⟨fun due next early => idles (Part.statusDue_early next early), fun due next now taken => ?_,
    fun station e found => ⟨fun off => idles (Part.silenceExpired_none found off), fun moment expiry early =>
      idles (Part.silenceExpired_early found expiry early), fun moment expiry now => ?_⟩,
    fun moment phase => ⟨fun early => idles (Part.syncExpired_early (SyncPhase.expiry_of_runs phase) early),
      fun now => ?_⟩,
    fun stopped => idles (Part.syncExpired_idle (SyncPhase.expiry_of_stopped stopped))⟩
  · exact ⟨_, runs _, Part.statusDue_shows (s := s.part.elapse dt) next now taken⟩
  · exact ⟨_, runs _, Part.silenceExpired_shows (s := s.part.elapse dt) found expiry now⟩
  · refine ⟨_, runs _, ?_⟩
    show (s.part.elapse dt).syncExpired.peer = _ ∧ (s.part.elapse dt).syncExpired.port.alarmSet _ = _ ∧
      ∀ b : Block, _ → _ → b.same s.part (s.part.elapse dt).syncExpired
    rw [Part.syncExpired_due (s := s.part.elapse dt) (SyncPhase.expiry_of_runs phase) now]
    exact ⟨rfl, by simp, fun b peers alarms => (Block.same_elapse b).mp (Part.failSync_blocks .timeout b peers alarms)⟩

end

section
/-! PROOF. O43: a HOLD notice taken (R150, R152, R155, R156). -/

open Sys2Proof

namespace Sys2Proof.Machine

/-! ## Leaving the inbound queue, and the peer hold (R150, R152) -/

/-- The oldest notice leaves the queue; what the watermarks hand to the line reaches nothing else (R150, R151). -/
theorem Part.leaveInbound_line (s : Part) : ∃ sent : Bool,
    LineFrame { s with bus := { s.bus with inbound := s.bus.inbound.tail, holdSent := sent } } s.leaveInbound ∧
      ∀ a : Alarm, a.calm → SameAlarm a s s.leaveInbound := by
  unfold Part.leaveInbound Part.checkWatermarks
  simp only
  split
  · split
    · exact ⟨false, Part.enqueue_line _ _, fun a calm => Part.enqueue_alarm (a := a) calm _ _⟩
    · exact ⟨s.bus.holdSent, .refl _, fun a _ => .refl a _⟩
  · split
    · exact ⟨true, Part.enqueue_line _ _, fun a calm => Part.enqueue_alarm (a := a) calm _ _⟩
    · exact ⟨s.bus.holdSent, .refl _, fun a _ => .refl a _⟩

/-- The peer hold after a HOLD from a source (R152). -/
def Part.holdAfter (source slots : Nat) (s : Part) : Option PeerHold :=
  match s.bus.peerHold with
  | none => if slots = 0 then none else some { expiry := s.now + min slots 4000 * bitsPerSlot, holder := source }
  | some h =>
    if slots = 0 then (if h.holder = source then none else some h)
    else if h.expiry < s.now + min slots 4000 * bitsPerSlot then
      some { expiry := s.now + min slots 4000 * bitsPerSlot, holder := source }
    else some h

/-- The part with another peer hold. -/
def Part.withHold (hold : Option PeerHold) (s : Part) : Part := { s with bus := { s.bus with peerHold := hold } }

theorem Part.withHold_same {hold : Option PeerHold} {s : Part} (is : s.bus.peerHold = hold) : s.withHold hold = s := by
  rw [← is]
  rfl

/-- A HOLD changes the peer hold, and where that ends the arbiter chooses again (R152). -/
theorem Part.takeHold_eq (source slots : Nat) (s : Part) :
    s.takeHold source slots = s.withHold (s.holdAfter source slots) ∨
      s.takeHold source slots = (s.withHold (s.holdAfter source slots)).arbitrate := by
  unfold Part.takeHold Part.holdAfter
  cases hold : s.bus.peerHold with
  | none =>
    by_cases zero : slots = 0
    · exact .inl (by simp only [zero, if_true, Part.withHold_same hold])
    · exact .inl (by simp only [zero, if_false, if_true]; rfl)
  | some h =>
    by_cases zero : slots = 0
    · by_cases holder : h.holder = source
      · exact .inr (by simp only [zero, holder, if_true]; rfl)
      · exact .inl (by simp only [zero, holder, if_true, if_false, Part.withHold_same hold])
    · by_cases later : h.expiry < s.now + min slots 4000 * bitsPerSlot
      · exact .inl (by simp only [zero, later, decide_true, if_true, if_false]; rfl)
      · exact .inl (by simp only [zero, later, decide_false, Bool.false_eq_true, if_false, Part.withHold_same hold])

theorem Part.takeHold_line (source slots : Nat) (s : Part) :
    LineFrame (s.withHold (s.holdAfter source slots)) (s.takeHold source slots) ∧
      ∀ a, SameAlarm a s (s.takeHold source slots) := by
  rcases s.takeHold_eq source slots with is | is <;> rw [is]
  · exact ⟨.refl _, fun a => .refl a _⟩
  · exact ⟨Part.arbitrate_line _, fun a => Part.arbitrate_alarm a _⟩

/-! ## The source heard (R155, R156) -/

/-- The entry that a notice finds for its source, or that it creates (R155). -/
def Part.entryOf (n : Received) (s : Part) : PeerEntry :=
  (findPeer n.source s.peer.table).getD (newPeer n.source n.chainage)

theorem findPeer_withPeer (station chainage : Nat) (table : List PeerEntry) :
    findPeer station (withPeer station chainage table) =
      some ((findPeer station table).getD (newPeer station chainage)) := by
  unfold withPeer
  cases found : findPeer station table with
  | some e => simp [found]
  | none =>
    have below : (table.filter fun e => decide (e.station < station)).find? (fun e => decide (e.station = station)) =
        none := List.find?_eq_none.mpr fun e mem is => by
      have less := of_decide_eq_true (List.mem_filter.mp mem).2
      have same := of_decide_eq_true is
      omega
    rw [if_neg nofun, findPeer, List.find?_append, below]
    simp [newPeer]

/-- The part with a notice's source entered as the notice tells of it (R155, R156). -/
def Part.entered (n : Received) (s : Part) : Part :=
  (s.modPeer (fun p => { p with table := withPeer n.source n.chainage p.table })).modEntry n.source (PeerEntry.heard n)

/-- The part as a notice's source has been heard, before the hand-off (R155, R156). -/
def Part.told (n : Received) (s : Part) : Part :=
  (s.entered n).raiseIf (decide ((s.entryOf n).chainage ≠ n.chainage)) .chainageChanged

theorem Part.hearPeer_eq (n : Received) (s : Part) :
    s.hearPeer n = if (s.entryOf n).handsOff n then Part.handOffReleased s (s.told n) else s.told n := by
  have listed := findPeer_withPeer n.source n.chainage s.peer.table
  simp only [Part.hearPeer, Part.modPeer, listed]
  rfl

theorem Part.told_line (n : Received) (s : Part) : LineFrame (s.entered n) (s.told n) := Part.raiseIf_line _ _ _

theorem Part.told_hand (n : Received) (s : Part) : HandFrame s (s.told n) := by
  have line := s.told_line n
  have overdue : SameAlarm .interfaceOverdue (s.entered n) (s.told n) := 
    Part.raiseIf_alarm _ (a := .interfaceOverdue) (b := .chainageChanged) nofun _
  exact ⟨line.train, line.det, line.vol, line.image, overdue⟩

theorem PeerEntry.heard_station (n : Received) (e : PeerEntry) : (e.heard n).station = e.station := by
  unfold PeerEntry.heard
  cases n.body <;> rfl

/-- A notice leaves its source's entry with its chainage, and not SILENT (R155, R156). -/
theorem PeerEntry.heard_told (n : Received) (e : PeerEntry) :
    (e.heard n).chainage = n.chainage ∧ (e.heard n).silent = false := by
  unfold PeerEntry.heard
  cases n.body <;> exact ⟨rfl, rfl⟩

theorem Part.told_entry (n : Received) (s : Part) :
    findPeer n.source (s.told n).peer.table = some ((s.entryOf n).heard n) := by
  rw [(s.told_line n).table]
  show findPeer n.source (updatePeer n.source _ (withPeer n.source n.chainage s.peer.table)) = _
  rw [findPeer_updatePeer (PeerEntry.heard_station n), findPeer_withPeer]
  rfl

theorem Part.told_alarm (n : Received) (s : Part) : (s.told n).port.alarmSet .chainageChanged =
    (s.port.alarmSet .chainageChanged || decide ((s.entryOf n).chainage ≠ n.chainage)) := by
  unfold Part.told
  cases decide ((s.entryOf n).chainage ≠ n.chainage)
  · exact (Bool.or_false _).symm
  · exact StationPort.raise_alarmSet _ _ _

/-- A hand-off leaves the queues, the table and CHAINAGE_CHANGED as the source heard left them. -/
theorem Part.hearPeer_shows (n : Received) (s : Part) :
    StageFrame (s.told n) (s.hearPeer n) ∧ SameAlarm .chainageChanged (s.told n) (s.hearPeer n) := by
  rw [Part.hearPeer_eq]
  have calm : Alarm.chainageChanged.calm := ⟨nofun, nofun, nofun, nofun⟩
  split
  · exact ⟨Part.handOffReleased_stage _ _, Part.evaluateWith_alarm calm nofun _ _ _⟩
  · exact ⟨.refl _, .refl _ _⟩

/-- A notice with no role hands the window on where its source's entry had another chainage, or was SILENT (R67). -/
theorem PeerEntry.handsOff_unnamed {n : Received} (unnamed : n.body.role = none) (e : PeerEntry) :
    e.handsOff n = true ↔ e.chainage ≠ n.chainage ∨ e.silent = true := by
  simp [PeerEntry.handsOff, unnamed]

theorem any_updatePeer {station : Nat} {f : PeerEntry → PeerEntry} {p : PeerEntry → Bool} (same : ∀ e, p (f e) = p e)
    (table : List PeerEntry) : (updatePeer station f table).any p = table.any p := by
  rw [updatePeer, List.any_map]
  congr 1
  funext e
  show p (if _ then _ else e) = _
  split
  · exact same e
  · rfl

/-- A silence expiry set again ends no silence and begins none (R66, R156). -/
theorem Part.renewExpiry_degraded (station : Nat) (s : Part) (h : HeadInterface) :
    (s.renewExpiry station).degraded h = s.degraded h := by
  show (_ && (_ || (updatePeer station _ s.peer.table).any (silentBetween s.cfg h.d))) = _
  rw [any_updatePeer (by intro; rfl)]
  rfl

theorem Part.renewExpiry_entry {station : Nat} {s : Part} {e : PeerEntry}
    (found : findPeer station s.peer.table = some e) : findPeer station (s.renewExpiry station).peer.table =
      some { e with expiry := e.interval.map (fun i => s.now + 4 * i * bitsPerSecond) } := by
  show findPeer station (updatePeer station _ s.peer.table) = _
  rw [findPeer_updatePeer (by intro; rfl), found]
  rfl

/-! ## The notice taken whole (R150) -/

/-- The part as a HOLD has been handled, before its source's silence expiry is set again. -/
def Part.held (n : Received) (slots : Nat) (s : Part) : Part :=
  ((s.leaveInbound).hearPeer n).takeHold n.source slots

section
variable {s : Part} {n : Received} {slots : Nat}

theorem Part.takeOldest_hold {rest : List Received} (inbound : s.bus.inbound = n :: rest)
    (hold : n.body = .hold slots) : s.takeOldest 3 = (s.held n slots).renewExpiry n.source := by
  simp only [Part.takeOldest, inbound, Part.takeNotice, Part.handleNotice, hold]
  rfl

theorem Part.leaveInbound_entryOf (n : Received) (s : Part) : s.leaveInbound.entryOf n = s.entryOf n := by
  obtain ⟨sent, line, -⟩ := s.leaveInbound_line
  rw [Part.entryOf, line.table]
  rfl

/-- What a HOLD leaves of the line, and of its source's entry (R152, R155). -/
theorem Part.held_line (n : Received) (slots : Nat) (s : Part) :
    (s.held n slots).bus.inbound = s.bus.inbound.tail ∧
      (s.held n slots).bus.peerHold = s.holdAfter n.source slots ∧
      findPeer n.source (s.held n slots).peer.table = some ((s.entryOf n).heard n) := by
  obtain ⟨sent, left, -⟩ := s.leaveInbound_line
  have told := s.leaveInbound.told_line n
  obtain ⟨heard, -⟩ := s.leaveInbound.hearPeer_shows n
  obtain ⟨hold, -⟩ := (s.leaveInbound.hearPeer n).takeHold_line n.source slots
  refine ⟨?_, ?_, ?_⟩
  · exact hold.inbound.trans (heard.inbound.trans (told.inbound.trans left.inbound))
  · have was : (s.leaveInbound.hearPeer n).bus.peerHold = s.bus.peerHold :=
      heard.peerHold.trans (told.peerHold.trans left.peerHold)
    have now : (s.leaveInbound.hearPeer n).now = s.now := heard.now.trans (told.now.trans left.now)
    refine hold.peerHold.trans ?_
    show Part.holdAfter n.source slots (s.leaveInbound.hearPeer n) = _
    rw [Part.holdAfter, was, now]
    rfl
  · rw [Part.held, hold.table]
    show findPeer n.source (s.leaveInbound.hearPeer n).peer.table = _
    rw [heard.table, Part.told_entry, Part.leaveInbound_entryOf]

theorem Part.held_alarm (n : Received) (slots : Nat) (s : Part) :
    (s.held n slots).port.alarmSet .chainageChanged =
      (s.port.alarmSet .chainageChanged || decide ((s.entryOf n).chainage ≠ n.chainage)) := by
  obtain ⟨sent, -, calm⟩ := s.leaveInbound_line
  obtain ⟨-, heard⟩ := s.leaveInbound.hearPeer_shows n
  obtain ⟨-, hold⟩ := (s.leaveInbound.hearPeer n).takeHold_line n.source slots
  have left : SameAlarm .chainageChanged s s.leaveInbound := calm _ ⟨nofun, nofun, nofun, nofun⟩
  have told := s.leaveInbound.told_alarm n
  rw [Part.leaveInbound_entryOf, left] at told
  exact Eq.trans (hold .chainageChanged) (Eq.trans heard told)

theorem Part.leaveInbound_hand (s : Part) : HandFrame s s.leaveInbound := by
  obtain ⟨sent, line, calm⟩ := s.leaveInbound_line
  exact ⟨line.train, line.det, line.vol, line.image, calm _ ⟨nofun, nofun, nofun, nofun⟩⟩

theorem Part.takeHold_hand (source slots : Nat) (s : Part) : HandFrame s (s.takeHold source slots) := by
  obtain ⟨line, same⟩ := s.takeHold_line source slots
  exact ⟨line.train, line.det, line.vol, line.image, same _⟩

/-- A notice that hands no window on leaves the train and the detector (R67). -/
theorem Part.held_still (off : (s.entryOf n).handsOff n = false) :
    (s.held n slots).train = s.train ∧ (s.held n slots).det = s.det := by
  have told : s.leaveInbound.hearPeer n = s.leaveInbound.told n := by
    rw [Part.hearPeer_eq, Part.leaveInbound_entryOf, off]
    rfl
  have frame := (s.leaveInbound_hand.trans (s.leaveInbound.told_hand n)).trans
    ((s.leaveInbound.told n).takeHold_hand n.source slots)
  rw [Part.held, told]
  exact ⟨frame.train, frame.det⟩

/-- A notice that hands the window on, and its silence expiry set again (R67, R156). -/
theorem Part.held_handedOn {r : BatchRecord} {h : HeadInterface} (on : (s.entryOf n).handsOff n = true)
    (alone : s.windowAlone r h) : s.handedOn r h ((s.held n slots).renewExpiry n.source) := by
  obtain ⟨sent, left, -⟩ := s.leaveInbound_line
  have heard : s.leaveInbound.hearPeer n = Part.handOffReleased s.leaveInbound (s.leaveInbound.told n) := by
    rw [Part.hearPeer_eq, Part.leaveInbound_entryOf, on]
    rfl
  have handed := Part.handOffReleased_handedOn (before := s.leaveInbound) alone
    (s.leaveInbound_hand.trans (s.leaveInbound.told_hand n))
    ((s.leaveInbound.told_line n).planner.trans left.planner) left.train left.det
  rw [← heard] at handed
  obtain ⟨hold, -⟩ := (s.leaveInbound.hearPeer n).takeHold_line n.source slots
  have held : s.handedOn r h (s.held n slots) := by
    refine handed.then ((s.leaveInbound.hearPeer n).takeHold_hand n.source slots) hold.records ?_
    have cfg : (s.held n slots).cfg = (s.leaveInbound.hearPeer n).cfg := by
      rw [Part.cfg, Part.held, hold.image]
      rfl
    have table : (s.held n slots).peer.table = (s.leaveInbound.hearPeer n).peer.table := hold.table
    show (s.held n slots).degraded h = _
    rw [Part.degraded, cfg, table]
    rfl
  exact held.then ⟨rfl, rfl, rfl, rfl, rfl⟩ rfl ((s.held n slots).renewExpiry_degraded n.source h)

end

end Sys2Proof.Machine

open Sys2Proof.Machine

/-- Settles O43: the notice leaves the queue, its source is heard, the peer hold changes, and the window interface is
handed on where the source's entry had another chainage or was SILENT. -/
theorem holdNoticeHolds : Obligations.HoldNoticeHolds := by
  intro s dt n rest slots run inbound hold
  have taken := Part.takeOldest_hold (s := s.part.elapse dt) inbound hold
  obtain ⟨left, held, entry⟩ := Part.held_line n slots (s.part.elapse dt)
  have alarm := Part.held_alarm n slots (s.part.elapse dt)
  obtain ⟨chainage, silent⟩ := PeerEntry.heard_told n ((s.part.elapse dt).entryOf n)
  have unnamed : n.body.role = none := by rw [hold]; rfl
  have known {x : PeerEntry} (found : findPeer n.source s.part.peer.table = some x) :
      (s.part.elapse dt).entryOf n = x := by
    show (findPeer n.source s.part.peer.table).getD _ = x
    rw [found]
    rfl
  have unknown (none : findPeer n.source s.part.peer.table = .none) :
      (s.part.elapse dt).entryOf n = newPeer n.source n.chainage := by
    show (findPeer n.source s.part.peer.table).getD _ = _
    rw [none]
    rfl
  refine ⟨{ s with part := ((s.part.elapse dt).held n slots).renewExpiry n.source }, _,
    (State.run_running dt run).trans (by rw [taken]), ?_, Part.renewExpiry_entry entry, chainage, silent,
    held, ?_, ?_, ?_⟩
  · exact left.trans (congrArg List.tail inbound)
  · refine alarm.trans ?_
    cases found : findPeer n.source s.part.peer.table with
    | none => simp [unknown found, newPeer]
    | some x => simp [known found]
  · intro none
    refine Part.held_still (s := s.part.elapse dt) ?_
    rw [unknown none, ← Bool.not_eq_true, PeerEntry.handsOff_unnamed unnamed]
    simp [newPeer]
  · intro x found
    refine ⟨fun same heard => Part.held_still (s := s.part.elapse dt) ?_, fun differs r h alone =>
      HandFrame.before ⟨rfl, rfl, rfl, rfl, rfl⟩ (Part.held_handedOn (s := s.part.elapse dt) ?_ alone)⟩
    · rw [known found, ← Bool.not_eq_true, PeerEntry.handsOff_unnamed unnamed]
      simp [same, heard]
    · rw [known found]
      exact (PeerEntry.handsOff_unnamed unnamed x).mpr differs

end
